-- ==== Sys2Proof/Word.lean ====
section
/-! DEFINITION. The word types: a byte of a lane, a frame, a note or a tape, and the wider fields of requests. -/

namespace Sys2Proof

/-- One byte (00_scope.md, Byte order). -/
abbrev Byte := BitVec 8

/-- A two-byte field: the order tag of a MOVE (R173). -/
abbrev Half := BitVec 16

/-- A four-byte field: logical addresses, file numbers and counts of requests (R173). -/
abbrev Word := BitVec 32

end Sys2Proof
end

