-- ==== Sys2Proof/Syntax.lean ====
section
/-! DEFINITION. The commands of the TL420: one constructor of `Instr` for each row of spec/opcode_table.json, with
the operands its rules give it, and the requests of R173 as the link controller decodes them. -/

namespace Sys2Proof

/-- One of the two transports and its context: TC0 with CX0, TC1 with CX1 (00_scope.md, Block overview). -/
inductive Tr where
  | tc0
  | tc1
deriving DecidableEq, Repr

/-- The other transport. -/
def Tr.other : Tr → Tr
  | .tc0 => .tc1
  | .tc1 => .tc0

/-- Cartridge class (R8, R71). -/
inductive CartClass where
  | t1
  | t2
deriving DecidableEq, Repr, Inhabited

/-- The protect tab (R8). -/
inductive Protect where
  | set
  | clear
deriving DecidableEq, Repr

/-- Link channels (R170): 0 engine, 1 changer, 2 and 3 the transports. -/
inductive Chan where
  | engine
  | changer
  | transport (t : Tr)
deriving DecidableEq, Repr

/-- The twenty locations (R1). -/
inductive Loc where
  | slot (i : Fin 16)
  | mail
  | bay (t : Tr)
  | hand
deriving DecidableEq, Repr

/-- Start mode of a WRITE (R105, R173). -/
inductive StartMode where
  | append
  | fromFile (f : Word)
deriving DecidableEq, Repr

/-- Range of a VERIFY (R153). -/
inductive VerifyRange where
  | count (n : Word)
  | toEod
deriving DecidableEq, Repr

/-- Mode of a VERIFY (R153). -/
inductive VerifyMode where
  | check
  | compare
deriving DecidableEq, Repr

/-- Fault list policy of a VERIFY (R153, R159). -/
inductive FaultPolicy where
  | keepFirst
  | keepLast
deriving DecidableEq, Repr

/-- Start of a RESTORE (R145). -/
inductive RestoreStart where
  | address (a : Word)
  | file (f : Word)
deriving DecidableEq, Repr

/-- End mode of a RESTORE (R145). -/
inductive RestoreEnd where
  | count (n : Word)
  | toMark
  | toEod
deriving DecidableEq, Repr

/-- Mode of an ABORT (R124, R162, R173). -/
inductive AbortMode where
  | immediate
  | finishQueued
  | atMark
deriving DecidableEq, Repr

/-- A watch point, and the mode a WATCH carries (R163). -/
inductive WatchPoint where
  | off
  | address (a : Word)
  | marks
deriving DecidableEq, Repr

/-- The fourteen values of a SET_GOVERNOR, one byte each, in the order of R173. -/
structure GovBytes where
  s : Byte
  d : Byte
  ea : Byte
  ma : Byte
  ed : Byte
  md : Byte
  lmin : Byte
  lmax : Byte
  lstart : Byte
  filler : Byte
  restart : Byte
  resume : Byte
  n : Byte
  clearOnApply : Byte
deriving DecidableEq, Repr

/-- A request as LNK hands it to the block of its channel (R173). -/
inductive Request where
  | ident
  | status (clear : Bool)
  | media (loc : Byte)
  | resetEngine
  | move (src dst : Byte) (autoload : Bool) (orderTag : Half)
  | scan (first last : Byte)
  | cancel
  | changerReset
  | load
  | unload
  | rewind
  | label (chars : List Byte)
  | write (start : StartMode) (limit : Byte)
  | verify (a : Word) (range : VerifyRange) (mode : VerifyMode) (policy : FaultPolicy)
  | restore (start : RestoreStart) (offset : Word) (stop : RestoreEnd)
  | abort (mode : AbortMode)
  | mark
  | close
  | setGovernor (g : GovBytes)
  | apply
  | getGovernor
  | watch (w : WatchPoint)
  | transportReset
deriving DecidableEq, Repr

/-- What a transport's sensors show at an event that reads them: seat, tape path, shell class and protect tab
(R52, R69, R70), and the mechanism's tachometer (R50, R65). -/
structure BaySense where
  seated : Bool
  tapeOut : Bool
  cls : CartClass
  protect : Protect
  tach : Nat
deriving DecidableEq, Repr

/-- All sensors, as power-on, the reset pin and RESET_ENGINE read them (R25, R48, R70). Bit i of `slots` is the
presence sensor of S<i>. -/
structure Sensors where
  slots : BitVec 16
  mail : Bool
  grip : Bool
  mainOpen : Bool
  mailOpen : Bool
  bay0 : BaySense
  bay1 : BaySense
deriving DecidableEq, Repr

/-- A frame place as the read head gives it (R76, R78): header bytes and payload bytes as read, or nothing that
could be read at all. -/
inductive RawFrame where
  | unreadable
  | bytes (header payload : List Byte)
deriving DecidableEq, Repr

/-- The commands: requests, bus frames, and the events of the mechanism, the operator, the timers and the datapath. -/
inductive Instr where
  /-- POWER_ON (R25, R48, R70, R104, R144, R185), with the sensors as read. -/
  | powerOn (sens : Sensors)
  /-- RESET_PIN: as power-on. -/
  | resetPin (sens : Sensors)
  /-- INBOUND_FRAME_RECEIVED (R171): the bytes of a frame on the inbound lane. -/
  | inboundFrameReceived (bytes : List Byte)
  /-- HANDLING_COMPLETION (R172); `bay` is what the sensors of the frame's transport show, should it need them. -/
  | handlingCompletion (bay : BaySense)
  /-- DATA_IN on a transport's channel (R109). -/
  | dataIn (t : Tr) (bytes : List Byte)
  | ident (tag : Byte)
  | status (tag : Byte) (clear : Bool)
  | media (tag : Byte) (loc : Byte)
  | resetEngine (tag : Byte)
  | move (tag : Byte) (src dst : Byte) (autoload : Bool) (orderTag : Half)
  | scan (tag : Byte) (first last : Byte)
  | cancel (tag : Byte)
  | changerReset (tag : Byte)
  | load (t : Tr) (tag : Byte)
  | unload (t : Tr) (tag : Byte)
  | rewind (t : Tr) (tag : Byte)
  | label (t : Tr) (tag : Byte) (chars : List Byte)
  | write (t : Tr) (tag : Byte) (start : StartMode) (limit : Byte)
  | verify (t : Tr) (tag : Byte) (a : Word) (range : VerifyRange) (mode : VerifyMode) (policy : FaultPolicy)
  | restore (t : Tr) (tag : Byte) (start : RestoreStart) (offset : Word) (stop : RestoreEnd)
  /-- ABORT (R65, R124, R162); `bay` gives the tachometer should a fast move be stopped. -/
  | abort (t : Tr) (tag : Byte) (mode : AbortMode) (bay : BaySense)
  | mark (t : Tr) (tag : Byte)
  | close (t : Tr) (tag : Byte)
  | setGovernor (t : Tr) (tag : Byte) (g : GovBytes)
  | apply (t : Tr) (tag : Byte)
  | getGovernor (t : Tr) (tag : Byte)
  | watch (t : Tr) (tag : Byte) (w : WatchPoint)
  /-- TRANSPORT_RESET (R68, R69), with the sensors of the bay as read. -/
  | transportReset (t : Tr) (tag : Byte) (bay : BaySense)
  /-- OUTBOUND_FRAME_END (R178, R184), with the sensors as read should the engine reset at it. -/
  | outboundFrameEnd (sens : Sensors)
  | hostHoldAsserted
  | hostHoldReleased
  | mainDoorOpen
  /-- MAIN_DOOR_CLOSE (R41, R42), with the grip sensor. -/
  | mainDoorClose (grip : Bool)
  | mailDoorOpen
  /-- MAIL_DOOR_CLOSE (R43), with the mail-slot presence sensor. -/
  | mailDoorClose (present : Bool)
  /-- TRAVEL_COMPLETE (R29, R35), with the presence sensor of the location reached (a slot's, or the mail slot's). -/
  | travelComplete (present : Bool)
  | travelFault
  /-- PRESENCE_SENSED (R30), with the sensor's reading. -/
  | presenceSensed (present : Bool)
  | gripConfirmed
  | gripFault
  /-- NOTE_READ_COMPLETE (R16): the 2048 bytes, or none when no memory answered. -/
  | noteReadComplete (image : Option (List Byte))
  | notePageComplete
  | noteWriteTimeout
  | placeConfirmed
  | placeFault
  | bayTimeout
  | mailTimeout
  /-- HOMING_COMPLETE (R42, R47), with the grip sensor. -/
  | homingComplete (grip : Bool)
  | homingTimeout
  /-- CARTRIDGE_SEATED (R52), with the class and protect-tab sensors. -/
  | cartridgeSeated (t : Tr) (cls : CartClass) (protect : Protect)
  | cartridgeUnseated (t : Tr)
  | threadComplete (t : Tr)
  | threadFault (t : Tr)
  | identifyFrameRead (t : Tr) (frame : RawFrame)
  | rewindComplete (t : Tr)
  | rewindFault (t : Tr)
  | unthreadComplete (t : Tr)
  | unthreadFault (t : Tr)
  | mechanismFault (t : Tr)
  /-- FAST_MOVE_COMPLETE (R50), with the tachometer's frame number. -/
  | fastMoveComplete (t : Tr) (tach : Nat)
  | positionFault (t : Tr)
  | locateFrameRead (t : Tr) (frame : RawFrame)
  | eodSearchFrameRead (t : Tr) (frame : RawFrame)
  | readingFrameRead (t : Tr) (frame : RawFrame)
  | physicalEnd (t : Tr)
  | writeCompletion (t : Tr)
  /-- READ_BACK_RESULT (R78, R114): the frame place that passes the read head, and what is read there. -/
  | readBackResult (t : Tr) (place : Nat) (frame : RawFrame)
  | hitchComplete (t : Tr)
  | compressionComplete
  | decodeComplete
  /-- HUNTING_FOR_SYNC (R171): bytes of the inbound lane at which the receiver loses its footing. -/
  | huntingForSync (bytes : List Byte)
deriving DecidableEq, Repr

end Sys2Proof
end

