-- ==== Sys2Proof/Config.lean ====
section
/-! DEFINITION. What the part fixes: the sizes of its queues and lists, the capacities of the classes, and the free
values, which the manual leaves open. -/

namespace Sys2Proof.Config

/-- Inbound frame buffer, in frames (R169). -/
def inboundMax : Nat := 2
/-- Reply queue (R172). -/
def replyMax : Nat := 16
/-- Notice queue (R176). -/
def noticeMax : Nat := 32
/-- Move queue (R28). -/
def orderMax : Nat := 8
/-- Items of an intake queue (R110). -/
def itemMax : Nat := 4
/-- Credits granted at the start of a job (R106, R153). -/
def startCredits : Nat := 16
/-- Block queue (R112). -/
def blockMax : Nat := 32
/-- Chunk places of a delivery queue, and bytes of a chunk (R148). -/
def chunkMax : Nat := 16
def chunkBytes : Nat := 4096
/-- File map (R11). -/
def mapMax : Nat := 64
/-- Fault list (R159). -/
def faultMax : Nat := 32
/-- Skip limit of the accept rule (R83). -/
def skipMax : Nat := 64
/-- Window of the forward search (R63). -/
def windowMax : Nat := 8192
/-- Frames without a good header that fail a try (R62). -/
def tryFrames : Nat := 64
/-- Tries of a locate (R62). -/
def triesMax : Nat := 3
/-- Run of bad headers that ends an identification (R54) or an end-of-data search (R66). -/
def blankRun : Nat := 32
/-- Bytes of a cartridge note, and of one of its pages (R16, R22). -/
def noteBytes : Nat := 2048
def pageBytes : Nat := 32
/-- Raw bytes of a slice, payload bytes of a block, slices of a block (R87). -/
def sliceMax : Nat := 8192
def payloadMax : Nat := 32768
def slicesMax : Nat := 32
/-- Space below which no further slice is begun (R91). -/
def spaceMin : Nat := 521
/-- Largest values of the saturating counts (R9, R12, R171). -/
def max16 : Nat := 65535
def max32 : Nat := 4294967295
def max64 : Nat := 18446744073709551615

/-- Frames on a tape of a class (R71). -/
def capacity : CartClass → Nat
  | .t1 => 786432
  | .t2 => 1572864

/-- Frames of the reserve zone and of both end zones (R72). -/
def reserveFrames : Nat := 16
def warningFrames : Nat := 2048

/-- FREE VALUE (log entry 14): the class a transport uses when the bay holds no class at all. -/
opaque unsensedClass : CartClass

/-- FREE VALUE (log entry 2): values the spec does not state; each use takes the next index. -/
opaque unstated : Nat → Nat

end Sys2Proof.Config
end

