-- ==== Sys2Proof/Machine/Operands.lean ====
section
/-! DEFINITION. Fields of frames: byte order (00_scope.md, most significant byte first), the two checks (R76, R77),
characters of a label, location codes (R1), and saturating counts. -/

namespace Sys2Proof

/-- Location code as an index in location order (R1). -/
def Loc.idx : Loc → Fin 20
  | .slot i => ⟨i.val, by omega⟩
  | .mail => 16
  | .bay .tc0 => 17
  | .bay .tc1 => 18
  | .hand => 19

/-- The location of a code (R1). -/
def Loc.ofCode (n : Nat) : Option Loc :=
  if h : n < 16 then some (.slot ⟨n, h⟩)
  else if n = 16 then some .mail
  else if n = 17 then some (.bay .tc0)
  else if n = 18 then some (.bay .tc1)
  else if n = 19 then some .hand
  else none

/-- Location code byte (R1, R175). -/
def Loc.code (l : Loc) : Byte := BitVec.ofNat 8 l.idx.val

end Sys2Proof

namespace Sys2Proof.Machine

/-- The n low bytes of v, most significant first (log entry 15). -/
def beBytes : Nat → Nat → List Byte
  | 0, _ => []
  | n + 1, v => BitVec.ofNat 8 (v / 256 ^ n) :: beBytes n v

/-- The number that bytes give, most significant first. -/
def beNat (bs : List Byte) : Nat :=
  bs.foldl (fun acc b => 256 * acc + b.toNat) 0

/-- One bit of the CRC-16 register (R76). -/
def crc16Bit (r : BitVec 16) (data : Bool) : BitVec 16 :=
  if r.msb != data then (r <<< 1) ^^^ 0x1021#16 else r <<< 1

/-- One byte of the CRC-16, its bits from the most significant to the least (R76). -/
def crc16Byte (r : BitVec 16) (b : Byte) : BitVec 16 :=
  [7, 6, 5, 4, 3, 2, 1, 0].foldl (fun acc k => crc16Bit acc (b.getLsbD k)) r

/-- The CRC-16 of a run of bytes (R76). -/
def crc16 (bs : List Byte) : BitVec 16 :=
  bs.foldl crc16Byte 0xFFFF#16

/-- One bit of the CRC-32 register (R77). -/
def crc32Bit (r : BitVec 32) (data : Bool) : BitVec 32 :=
  if r.getLsbD 0 != data then (r >>> 1) ^^^ 0xEDB88320#32 else r >>> 1

/-- One byte of the CRC-32, its bits from the least significant to the most (R77). -/
def crc32Byte (r : BitVec 32) (b : Byte) : BitVec 32 :=
  [0, 1, 2, 3, 4, 5, 6, 7].foldl (fun acc k => crc32Bit acc (b.getLsbD k)) r

/-- The CRC-32 of a run of bytes, inverted after the last bit (R77). -/
def crc32 (bs : List Byte) : BitVec 32 :=
  ~~~ (bs.foldl crc32Byte 0xFFFFFFFF#32)

/-- A printable character (section 1.2: 0x20 to 0x7E). -/
def printable (b : Byte) : Bool :=
  decide (0x20 ≤ b.toNat) && decide (b.toNat ≤ 0x7E)

/-- Twelve printable characters: a label (R6, R18, R58). -/
def isLabel (cs : List Byte) : Bool :=
  decide (cs.length = 12) && cs.all printable

/-- A count that stays at its greatest value (R9, R12, R171, R182). -/
def satAdd (cap n k : Nat) : Nat :=
  min cap (n + k)

/-- A value clamped to the nearer end of a range (00_scope.md, Numbers and arithmetic). -/
def clampNat (lo hi v : Nat) : Nat :=
  max lo (min hi v)

/-- A flag byte (R175). -/
def flagByte (b : Bool) : Byte :=
  if b then 1 else 0

/-- The locations a SCAN visits, in code order: S0 to S15 and then M (R38). -/
def scanLoc (n : Nat) : Loc :=
  if h : n < 16 then .slot ⟨n, h⟩ else .mail

/-- Channel number (R170). -/
def chanCode : Chan → Byte
  | .engine => 0
  | .changer => 1
  | .transport .tc0 => 2
  | .transport .tc1 => 3

/-- The channel of a number (R170, R171: a channel above 3 is no channel). -/
def chanOf (b : Byte) : Option Chan :=
  if b = 0 then some .engine
  else if b = 1 then some .changer
  else if b = 2 then some (.transport .tc0)
  else if b = 3 then some (.transport .tc1)
  else none

end Sys2Proof.Machine
end

