-- ==== Sys2Proof/Machine/State.lean ====
section
/-! DEFINITION. The state of the TL420: everything the manual gives its six blocks, as plain data, and the state
right after reset. The sections name the chapter that gives each part. -/

namespace Sys2Proof.Machine

/-! ## Chapter 1: records and the media table -/

/-- Presence of a cartridge (R4). -/
inductive Presence where
  | present
  | unknown
deriving DecidableEq, Repr

/-- What the engine last found or left in the note (R5). -/
inductive NoteState where
  | unread
  | valid
  | damaged
  | invalid
  | missing
deriving DecidableEq, Repr

/-- Where a label came from (R6). -/
inductive LabelSource where
  | note
  | tape
deriving DecidableEq, Repr

/-- A record's label; its source is present exactly when it is (section 1.2). -/
structure Label where
  chars : List Byte
  source : LabelSource
deriving DecidableEq, Repr

/-- The EOD field (R10). -/
inductive Eod where
  | known (addr frame files : Nat)
  | opened
  | unknown
deriving DecidableEq, Repr

/-- One entry of a file map: logical address and physical frame of a mark (R11). -/
structure MapEntry where
  addr : Nat
  frame : Nat
deriving DecidableEq, Repr

/-- A cartridge record (section 1.2). The default values are those of a created record (R2). -/
structure CartRecord where
  presence : Presence := .present
  noteState : NoteState := .unread
  label : Option Label := none
  duplicate : Bool := false
  mismatch : Bool := false
  cls : Option CartClass := none
  protect : Option Protect := none
  loadCount : Nat := 0
  eod : Eod := .unknown
  map : List MapEntry := []
  rawTotal : Nat := 0
  codedTotal : Nat := 0
  dirty : Bool := false
  binding : Option Tr := none
deriving DecidableEq, Repr

/-- Class and protect as a TC last handed them over for its bay (R52). -/
structure BayValues where
  cls : CartClass
  protect : Protect
deriving DecidableEq, Repr

/-- The media table: twenty entries in location order (R1), and the values held for each bay (R52). -/
structure Mtb where
  entries : Vector (Option CartRecord) 20 := Vector.replicate 20 none
  bay0 : Option BayValues := none
  bay1 : Option BayValues := none
deriving DecidableEq, Repr

/-! ## Chapter 2: the changer and the note reader -/

/-- Changer states (R26). -/
inductive ChgState where
  | homing
  | idle
  | running
  | waitBay
  | waitMail
  | halted
  | held
  | faulted
deriving DecidableEq, Repr

/-- Results of a MOVE_END (section 2.1, Move results). -/
inductive MoveResult where
  | ok
  | noteWriteFault
  | sourceEmpty
  | bayTimeout
  | mailTimeout
  | destOccupied
  | gripFault
  | travelFault
  | placeFault
  | doorOpen
  | reset
  | cancelled
deriving DecidableEq, Repr

/-- An order of the move queue (R27, R28); the locations of a SCAN are their codes, 0 to 16. -/
inductive Order where
  | move (src dst : Loc) (autoload : Bool) (tag : Half)
  | scan (first last : Nat)
deriving DecidableEq, Repr

/-- The step that the running order has reached (section 2.2). In `place`, `released` says that the grip sensor has
shown the hand empty and `seated` that the bay's transport has reached SEATED since the place began (R36). -/
inductive OrderStep where
  | travelSource
  | senseSource
  | waitBay (t : Tr)
  | waitMailSource
  | grip
  | note
  | travelDest
  | senseDest
  | waitMailDest
  | place (released seated : Bool)
deriving DecidableEq, Repr

/-- Picker position (section 2.1). -/
inductive Picker where
  | home
  | atLoc (l : Loc)
  | inTravel
deriving DecidableEq, Repr

/-- Hand contents; unsettled with the step and location noted (R33, R36, R39, R42). -/
inductive Hand where
  | empty
  | holding
  | unsettledGrip (l : Loc)
  | unsettledPlace (l : Loc)
deriving DecidableEq, Repr

/-- Where a note write stands (R22): what is being waited for. -/
inductive WriteStep where
  | unlock
  | pageClear
  | page (n : Nat)
  | pageSet
  | readBack
deriving DecidableEq, Repr

/-- A note operation in progress (R17). A write keeps the record as it stood at the grip (R21, R23). -/
inductive NoteOp where
  | read
  | write (atGrip : CartRecord) (step : WriteStep)
deriving DecidableEq, Repr

/-- CHG with NRD. `scanAt`, `visited` and `notesRead` belong to a running SCAN (R38), `noteFault` to a running MOVE (R34). -/
structure Chg where
  st : ChgState := .homing
  queue : List Order := []
  step : Option OrderStep := none
  scanAt : Nat := 0
  visited : Nat := 0
  notesRead : Nat := 0
  noteFault : Bool := false
  picker : Picker := .inTravel
  hand : Hand := .empty
  mainOpen : Bool := false
  mailOpen : Bool := false
  mailLock : Bool := false
  homingOwed : Bool := false
  takeHold : Option Tr := none
  image : Option (List Byte) := none
  noteOp : Option NoteOp := none
deriving DecidableEq, Repr

/-! ## Chapter 4: frames -/

/-- The five kinds of frame (R73, R74). -/
inductive FrameKind where
  | label
  | data
  | mark
  | filler
  | eod
deriving DecidableEq, Repr

/-- The fields of a frame header (R73), less its own check. -/
structure Header where
  kind : Nat
  pass : Nat
  frame : Nat
  addr : Nat
  file : Nat
  rawLen : Nat
  payLen : Nat
  slices : Nat
  payCheck : BitVec 32
deriving DecidableEq, Repr

/-! ## Chapter 5: blocks and contexts -/

/-- One block: its payload, raw length and slice count (R87). -/
structure Block where
  payload : List Byte
  raw : Nat
  slices : Nat
deriving DecidableEq, Repr

/-- Direction of a context (section 5.2, R104). -/
inductive Dir where
  | none
  | write
  | read
deriving DecidableEq, Repr

/-- A MARK or CLOSE item (R110). -/
inductive Item where
  | mark
  | close
deriving DecidableEq, Repr

/-- A context of the CMU (R89, R96). `table` lists the occupied entries of the hash table by rising index. -/
structure Ctx where
  dir : Dir := .none
  table : List (Nat × Nat) := []
  history : List Byte := []
  slice : List Byte := []
  limit : Nat := 0
  complete : Bool := false
  cur : Block := { payload := [], raw := 0, slices := 0 }
  closed : Option Block := none
  held : Option Item := none
  ref : Bool := false
  next : Nat := 0
  off : Nat := 0
  decoded : Nat := 0
deriving DecidableEq, Repr

/-- An operation of the datapath (R100, R103). -/
structure DpOp where
  t : Tr
  decode : Bool
  abandoned : Bool
deriving DecidableEq, Repr

/-! ## Chapter 6: queues and lists of a transport -/

/-- An entry of an intake queue (R110): a chunk with the bytes it still holds and the length it arrived with, or an
item. -/
inductive IntakeItem where
  | chunk (bytes : List Byte) (size : Nat)
  | item (i : Item)
deriving DecidableEq, Repr

/-- What a read job keeps of an accepted frame (R146). -/
structure ReadInfo where
  addr : Nat
  file : Nat
  frame : Nat
  pass : Nat
deriving DecidableEq, Repr

/-- A gap in the decoded stream of a COMPARE-mode verify, or the unaligned marker (R157). -/
inductive Gap where
  | bytes (addr pos n : Nat)
  | unaligned
deriving DecidableEq, Repr

/-- An entry of a block queue: of a write job (R112) or of a read job (R146), the latter with the gaps it carries
(R157). -/
inductive QEntry where
  | block (b : Block)
  | mark
  | close
  | readBlock (i : ReadInfo) (b : Block) (gaps : List Gap)
  | readMark (i : ReadInfo) (gaps : List Gap)
deriving DecidableEq, Repr

/-- A block or mark that the formatter has taken for its first writing (R112, R114); no block means a mark. -/
structure WEntry where
  block : Option Block
  addr : Nat
  file : Nat
  rewrites : Nat
deriving DecidableEq, Repr

/-- A frame handed to the mechanism, or written and in flight (R113, R114). `entry` is absent for fillers, EOD and
LABEL frames, and for a frame whose entry has moved to the rewrite list while it was being written (log entry 9). -/
structure WFrame where
  hdr : Header
  payload : List Byte
  entry : Option WEntry
  fromRewrite : Bool
deriving DecidableEq, Repr

/-- A decoded byte of a delivery queue: its block, its block position, whether it is the block's last byte, and
whether its slice's check has completed (R148, R150, R156). -/
structure DByte where
  byte : Byte
  addr : Nat
  pos : Nat
  last : Bool
  checked : Bool
deriving DecidableEq, Repr

/-- An entry of a delivery queue (R148, R149, R157). A chunk that `goesOn` holds bytes of the chunk place before it, from
which a gap divides them: a gap occupies no room. -/
inductive DItem where
  | chunk (bytes : List DByte) (closed : Bool) (goesOn : Bool)
  | mark
  | gap (g : Gap)
deriving DecidableEq, Repr

/-! ## Chapter 7: the governor -/

/-- The settings of a governor (R129). -/
structure GovSet where
  s : Nat := 16
  d : Nat := 1
  ea : Nat := 3
  ma : Nat := 0
  ed : Nat := 2
  md : Nat := 0
  lmin : Nat := 2
  lmax : Nat := 12
  lstart : Nat := 6
  filler : Nat := 24
  restart : Nat := 24
  resume : Nat := 8
  n : Nat := 1
  clearOnApply : Bool := false
deriving DecidableEq, Repr

/-- A governor (R129); `a` counts 1/256 of a level. -/
structure Gov where
  pending : GovSet := {}
  active : GovSet := {}
  armed : Bool := false
  a : Int := 1536
  l : Int := 6
  evalCount : Nat := 0
deriving DecidableEq, Repr

/-! ## Chapters 3, 6 and 8: jobs -/

/-- Job kinds (R51, R175). -/
inductive JobKind where
  | load
  | unload
  | rewind
  | label
  | write
  | verify
  | restore
deriving DecidableEq, Repr

/-- Job results (R175). -/
inductive JobResult where
  | ok
  | threadFault
  | rewindFault
  | unthreadFault
  | mechanismFault
  | writeFault
  | reset
  | positionFault
  | locateFault
  | beyondEod
  | readFault
  | aborted
  | endOfMedia
  | endOfData
  | restoreFault
  | faultsFound
  | compareShort
deriving DecidableEq, Repr

/-- Transport states (R49). -/
inductive TcState where
  | empty
  | seated
  | threading
  | identifying
  | ready
  | adrift
  | locating
  | writing
  | reading
  | hitch
  | waiting
  | draining
  | rewinding
  | unthreading
  | faulted
deriving DecidableEq, Repr

/-- The finding of an identification (R54). -/
inductive Finding where
  | label (chars : List Byte) (count : Nat)
  | noLabel (unreadable : Bool)
  | blank
deriving DecidableEq, Repr

/-- A running LOAD: frames read so far and the finding, once there is one (R54). -/
structure LoadJob where
  framesRead : Nat := 0
  finding : Option Finding := none
deriving DecidableEq, Repr

/-- A running LABEL: the label and label count it writes, the class byte of its payload, the frame in progress, the
results taken so far and whether one was BAD (R58, R59). -/
structure LabelJob where
  chars : List Byte
  count : Nat
  cls : CartClass
  inProgress : Option WFrame := none
  results : Nat := 0
  bad : Bool := false
deriving DecidableEq, Repr

/-- What an ABORT has asked of a write job (R124). -/
inductive WriteAbort where
  | none
  | finishQueued
  | immediate
deriving DecidableEq, Repr

/-- A running write job (R105 to R127). `start` is the first address once the locate has ended OK; `verdict` a
WRITE_FAULT or END_OF_MEDIA decided; `sought` and `reached` what a failed locate reports (R63). -/
structure WriteJob where
  mode : StartMode
  limit : Nat
  start : Option Nat := Option.none
  nextAddr : Nat := 0
  nextFile : Nat := 0
  wrote : Bool := false
  closing : Bool := false
  abort : WriteAbort := .none
  verdict : Option JobResult := Option.none
  inProgress : Option WFrame := Option.none
  fillers : Nat := 0
  fillerLimit : Nat := 0
  eodFrames : Nat := 0
  eodAddr : Option Nat := Option.none
  eodFrame : Option Nat := Option.none
  warned : Bool := false
  blocksConfirmed : Nat := 0
  marksConfirmed : Nat := 0
  blocksLost : Nat := 0
  framesWritten : Nat := 0
  fillersWritten : Nat := 0
  hitches : Nat := 0
  rewritesWritten : Nat := 0
  rawAccepted : Nat := 0
  rawOnTape : Nat := 0
  rawDiscarded : Nat := 0
  coded : Nat := 0
  eodRecovered : Bool := false
  eodUnconfirmed : Bool := false
  sought : Option Nat := Option.none
  reached : Option Nat := Option.none
deriving DecidableEq, Repr

/-- Kinds of a verify fault (R159). -/
inductive VFaultKind where
  | unreadable
  | decodeBad
  | sliceCheck
  | compareMismatch
deriving DecidableEq, Repr

/-- An entry of a fault list (R159, R175). -/
structure VFault where
  addr : Nat
  kind : VFaultKind
  offset : Nat
deriving DecidableEq, Repr

/-- What a read job was asked for (R145, R153). -/
inductive ReadSpec where
  | restore (offset : Nat) (stop : RestoreEnd)
  | verify (a : Nat) (range : VerifyRange) (mode : VerifyMode) (policy : FaultPolicy)
deriving DecidableEq, Repr

/-- A running restore or verify (R145 to R166). `ended` is the result with which the reading ended, ABORTED where the mark of
an AT_MARK or an IMMEDIATE ended it; `lastSeen` the raw length of the last frame of address x that a failed search passed
(R157); `unaligned` says that the comparison has reached the unaligned marker; `mismatchAt` names the block whose mismatch is
recorded (R156). -/
structure ReadJob where
  spec : ReadSpec
  x : Nat
  skip : Nat := 0
  bound : Option Nat := none
  searchStart : Nat := 0
  resynced : Bool := false
  ended : Option JobResult := none
  atMark : Bool := false
  closing : Bool := false
  start : Option Nat := none
  applied : Nat := 0
  accepted : Nat := 0
  blocksAccepted : Nat := 0
  marksAccepted : Nat := 0
  covered : Nat := 0
  framesRead : Nat := 0
  countedSkips : Nat := 0
  rewritten : Nat := 0
  hitches : Nat := 0
  resyncs : Nat := 0
  blocksDelivered : Nat := 0
  marksDelivered : Nat := 0
  rawDelivered : Nat := 0
  rawSkipped : Nat := 0
  resume : Option (Nat × Nat) := none
  fault : Option (Nat × Nat) := none
  readFault : Option Nat := none
  rawChecked : Nat := 0
  compared : Nat := 0
  uncompared : Nat := 0
  surplus : Nat := 0
  short : Option (Nat × Nat) := none
  faults : List VFault := []
  faultCount : Nat := 0
  lastSeen : Option Nat := none
  pendingGaps : List Gap := []
  unalignedFlag : Bool := false
  unaligned : Bool := false
  mismatchAt : Option Nat := none
  sought : Option Nat := none
  reached : Option Nat := none
deriving DecidableEq, Repr

/-- The running job of a transport (R51). -/
inductive Job where
  | load (j : LoadJob)
  | unload
  | rewind
  | label (j : LabelJob)
  | write (j : WriteJob)
  | read (j : ReadJob)
deriving DecidableEq, Repr

/-- What an address locate leads to (R63, R64, R66): its own end, the marks up to mark f - 1, or the end-of-data
search. -/
inductive LocGoal where
  | address
  | marks (f : Nat)
  | endOfData
deriving DecidableEq, Repr

/-- What an end-of-data search tracks (R66): file number and kind of the last accepted frame, the last frame with a
good header, the run of bad headers, and the frame and file count it began with. -/
structure Search where
  lastAccepted : Option (Nat × Bool) := none
  lastGood : Option Nat := none
  run : Nat := 0
  startFrame : Nat
  startFiles : Nat
deriving DecidableEq, Repr

/-- Where a locate stands: a fast move before a try, reading for a good header, the forward search, a fast move to
frame 1 with an empty map, counting marks (`found` once mark f - 1 is accepted), the end-of-data search, or a
verify's fast move back to its search start (R61 to R66, R160). -/
inductive LocPhase where
  | fast (target : Nat)
  | checking (start read : Nat)
  | forward (read : Nat)
  | fastFirst
  | counting (found : Bool)
  | searching (sr : Search)
  | resync (target : Nat)
deriving DecidableEq, Repr

/-- A locate in progress (R61 to R66): purpose, what it leads to, address sought, estimate, tries failed, end bound,
the expected address and skip run of a mark count or search, and the frame of the last good header read since the last
fast move (R65). -/
structure Locate where
  writing : Bool
  goal : LocGoal
  a : Nat
  e : Nat
  tries : Nat := 0
  bound : Option Nat := none
  x : Nat
  skip : Nat := 0
  lastHeader : Option Nat := none
  phase : LocPhase
deriving DecidableEq, Repr

/-- A transport controller (section 3.1). The default values are those of R70 for an empty bay. -/
structure Tc where
  st : TcState := .empty
  pos : Option Nat := none
  job : Option Job := none
  locate : Option Locate := none
  intake : List IntakeItem := []
  blockQ : List QEntry := []
  inflight : List WFrame := []
  rewrite : List WEntry := []
  delivery : List DItem := []
  pendingCredits : Nat := 0
  granted : Nat := 0
  labelCount : Option Nat := none
  watch : WatchPoint := .off
  gov : Gov := {}
deriving DecidableEq, Repr

/-! ## Chapter 9: the link -/

/-- Reasons of a REFUSED reply (R174). -/
inductive Reason where
  | state
  | busy
  | format
  | range
  | writeProtected
  | beyondEod
  | queueFull
  | duplicate
  | unknown
deriving DecidableEq, Repr

/-- An inbound frame taken into the buffer (R169 to R171): a DATA_IN or a REQUEST. -/
structure InFrame where
  dataIn : Bool
  chan : Chan
  tag : Byte
  payload : List Byte
deriving DecidableEq, Repr

/-- The receiver's condition (R171); inside a frame, the bytes taken so far after the sync byte. -/
inductive Receiver where
  | boundary
  | hunting
  | inFrame (bytes : List Byte)
deriving DecidableEq, Repr

/-- What a reply says (R174). -/
inductive ReplyBody where
  | done (result : List Byte)
  | accepted
  | refused (r : Reason)
deriving DecidableEq, Repr

/-- A reply in the reply queue (R172, R174): channel and tag of its request, the request code, and what it says. -/
structure Reply where
  chan : Chan
  tag : Byte
  code : Byte
  body : ReplyBody
deriving DecidableEq, Repr

/-- The content of a MOVE_END (R28). -/
structure MoveEnd where
  order : Order
  result : MoveResult
  loc : Option Loc
  label : Option (List Byte)
  noteState : Option NoteState
  counts : Option (Nat × Nat)
deriving DecidableEq, Repr

/-- A notice (R176). The report of a JOB_END is held as its encoded bytes (R175). -/
inductive Notice where
  | credit (t : Tr) (n : Nat)
  | jobEnd (t : Tr) (kind : JobKind) (result : JobResult) (report : List Byte)
  | moveEnd (m : MoveEnd)
  | mailArrived
  | mailTaken
  | door (isOpen : Bool)
  | earlyWarning (t : Tr) (place raw : Nat)
  | watchReached (t : Tr) (kind : JobKind) (addr : Nat) (mark : Bool) (file frame : Nat)
  | ready (st : ChgState)
deriving DecidableEq, Repr

/-- Outbound kinds (R170). -/
inductive OutKind where
  | reply
  | notice
  | dataOut
deriving DecidableEq, Repr

/-- A frame on the outbound lane (R170). -/
structure OutFrame where
  kind : OutKind
  chan : Chan
  tag : Byte
  flags : Byte
  payload : List Byte
deriving DecidableEq, Repr

/-- LNK (chapter 9). The default values are those of R185. -/
structure Lnk where
  inbound : List InFrame := []
  inboundHold : Bool := false
  rx : Receiver := .hunting
  replies : List Reply := []
  notices : List Notice := []
  lost : Bool := false
  errors : Nat := 0
  unsol0 : Nat := 0
  unsol1 : Nat := 0
  lastServed : Tr := .tc1
  lane : Option OutFrame := none
  hostHold : Bool := false
  resetting : Bool := false
deriving DecidableEq, Repr

/-! ## The whole machine -/

/-- The state of the engine, and the queue of the commands that are waiting. `free` counts the free values drawn
(log entry 2); `pending` is the model's own (log entry 1). -/
structure State where
  lnk : Lnk
  mtb : Mtb
  chg : Chg
  tc0 : Tc
  tc1 : Tc
  cx0 : Ctx
  cx1 : Ctx
  dp : Option DpOp
  free : Nat
  pending : List Instr
deriving DecidableEq, Repr

/-- What stops the machine: nothing does. The manual gives the engine no fault that halts it: a mechanism fault is a
transport state and a job result (R60), a bad frame a count (R171). Safe: no command is left without a next state. -/
inductive Fault where
deriving DecidableEq, Repr

/-- Why a command has no meaning. -/
inductive Refusal where
  /-- Raised only by an arm of `exec` for a command that has no meaning yet; no arm does. Safe: the run stops. -/
  | notModelled (mnemonic : String)
deriving DecidableEq, Repr

/-- The engine right after reset (R25, R48, R70, R104, R144, R185), with the sensor levels of log entry 4: no
cartridge anywhere, both doors closed, the host's hold line released. -/
def State.reset : State where
  lnk := {}
  mtb := {}
  chg := {}
  tc0 := {}
  tc1 := {}
  cx0 := {}
  cx1 := {}
  dp := none
  free := 0
  pending := []

end Sys2Proof.Machine
end

