-- ==== Sys2Proof/Decode.lean ====
section
/-! DEFINITION. Decoding. spec/opcode_table.json gives no row any bits, so no word spells a command. What the engine
does decode is the payload of a REQUEST (R173), refusing by the reasons of R173; the encoder stands beside it, with
the layout of an inbound frame (R170). -/

namespace Sys2Proof

open Sys2Proof.Machine

/-- The command that a word spells by the table's bits: the table gives no row any (reader's counts:
n_rows_with_fixed 0), so no word spells one. -/
def decodeTableWord (_nbits _w : Nat) : Option Instr := none

/-- Four bytes as a number field, most significant first. -/
def word4 (a b c d : Byte) : Word := a ++ b ++ c ++ d

/-- Two bytes as a number field, most significant first. -/
def half2 (a b : Byte) : Half := a ++ b

/-- The bytes of a four-byte field. -/
def wordBytes (w : Word) : List Byte :=
  [w.extractLsb' 24 8, w.extractLsb' 16 8, w.extractLsb' 8 8, w.extractLsb' 0 8]

/-- The bytes of a two-byte field. -/
def halfBytes (h : Half) : List Byte :=
  [h.extractLsb' 8 8, h.extractLsb' 0 8]

/-- The codes of R173's table that belong to a channel. -/
def codesOf : Chan → List Nat
  | .engine => [0x01, 0x02, 0x03, 0x04]
  | .changer => [0x10, 0x11, 0x12, 0x13]
  | .transport _ =>
    [0x20, 0x21, 0x22, 0x23, 0x24, 0x25, 0x26, 0x27, 0x28, 0x29, 0x2A, 0x2B, 0x2C, 0x2D, 0x2E]

/-- A byte that must be 0 or 1: the clear byte, the autoload byte (R173). -/
def bit01 (b : Byte) : Option Bool :=
  if b = 0 then some false else if b = 1 then some true else none

/-- The fields of a WRITE (R173). -/
def decodeWrite : List Byte → Option Request
  | [m, a, b, c, d, l] =>
    if m = 1 then some (.write .append l)
    else if m = 2 then some (.write (.fromFile (word4 a b c d)) l)
    else none
  | _ => none

/-- The range of a VERIFY (R173): n is not examined for TO_EOD. -/
def decodeRange (m : Byte) (n : Word) : Option VerifyRange :=
  if m = 1 then some (.count n) else if m = 2 then some .toEod else none

/-- The fields of a VERIFY (R173). -/
def decodeVerify : List Byte → Option Request
  | [a, b, c, d, r, n3, n2, n1, n0, m, p] =>
    match decodeRange r (word4 n3 n2 n1 n0) with
    | none => none
    | some range =>
      if m = 1 ∨ m = 2 then
        if p = 1 ∨ p = 2 then
          some (.verify (word4 a b c d) range (if m = 1 then .check else .compare)
            (if p = 1 then .keepFirst else .keepLast))
        else none
      else none
  | _ => none

/-- The end mode of a RESTORE (R173): n is not examined unless COUNT. -/
def decodeEnd (m : Byte) (n : Word) : Option RestoreEnd :=
  if m = 1 then some (.count n) else if m = 2 then some .toMark else if m = 3 then some .toEod else none

/-- The start of a RESTORE (R173). -/
def decodeStart (m : Byte) (n : Word) : Option RestoreStart :=
  if m = 1 then some (.address n) else if m = 2 then some (.file n) else none

/-- The fields of a RESTORE (R173). -/
def decodeRestore : List Byte → Option Request
  | [s, a, b, c, d, o3, o2, o1, o0, e, n3, n2, n1, n0] =>
    match decodeStart s (word4 a b c d), decodeEnd e (word4 n3 n2 n1 n0) with
    | some start, some stop => some (.restore start (word4 o3 o2 o1 o0) stop)
    | _, _ => none
  | _ => none

/-- The mode of an ABORT (R173). -/
def decodeAbort : List Byte → Option Request
  | [m] =>
    if m = 1 then some (.abort .immediate)
    else if m = 2 then some (.abort .finishQueued)
    else if m = 3 then some (.abort .atMark)
    else none
  | _ => none

/-- The fields of a WATCH (R173): the address is not examined unless ADDRESS. -/
def decodeWatch : List Byte → Option Request
  | [m, a, b, c, d] =>
    if m = 0 then some (.watch .off)
    else if m = 1 then some (.watch (.address (word4 a b c d)))
    else if m = 2 then some (.watch .marks)
    else none
  | _ => none

/-- The fields of a SET_GOVERNOR, in the order of R173. -/
def decodeGovernor : List Byte → Option Request
  | [s, d, ea, ma, ed, md, lmin, lmax, lstart, filler, restart, resume, n, clear] =>
    some (.setGovernor { s, d, ea, ma, ed, md, lmin, lmax, lstart, filler, restart, resume, n, clearOnApply := clear })
  | _ => none

/-- A request with no fields. -/
def decodeBare (r : Request) : List Byte → Option Request
  | [] => some r
  | _ => none

/-- The fields of a MOVE (R173). -/
def decodeMove : List Byte → Option Request
  | [src, dst, auto, t1, t0] => (bit01 auto).map fun a => .move src dst a (half2 t1 t0)
  | _ => none

/-- The fields of a SCAN (R173). -/
def decodeScan : List Byte → Option Request
  | [f, l] => some (.scan f l)
  | _ => none

/-- The clear byte of a STATUS (R173). -/
def decodeStatus : List Byte → Option Request
  | [c] => (bit01 c).map Request.status
  | _ => none

/-- The location of a MEDIA (R173). -/
def decodeMedia : List Byte → Option Request
  | [l] => some (.media l)
  | _ => none

/-- The label of a LABEL (R173). -/
def decodeLabel (cs : List Byte) : Option Request :=
  if cs.length = 12 then some (.label cs) else none

/-- The fields after a request code (R173); none for a wrong length or a value the table does not list. -/
def decodeFields (code : Nat) (fs : List Byte) : Option Request :=
  match code with
  | 0x01 => decodeBare .ident fs
  | 0x02 => decodeStatus fs
  | 0x03 => decodeMedia fs
  | 0x04 => decodeBare .resetEngine fs
  | 0x10 => decodeMove fs
  | 0x11 => decodeScan fs
  | 0x12 => decodeBare .cancel fs
  | 0x13 => decodeBare .changerReset fs
  | 0x20 => decodeBare .load fs
  | 0x21 => decodeBare .unload fs
  | 0x22 => decodeBare .rewind fs
  | 0x23 => decodeLabel fs
  | 0x24 => decodeWrite fs
  | 0x25 => decodeVerify fs
  | 0x26 => decodeRestore fs
  | 0x27 => decodeAbort fs
  | 0x28 => decodeBare .mark fs
  | 0x29 => decodeBare .close fs
  | 0x2A => decodeGovernor fs
  | 0x2B => decodeBare .apply fs
  | 0x2C => decodeBare .getGovernor fs
  | 0x2D => decodeWatch fs
  | 0x2E => decodeBare .transportReset fs
  | _ => none

/-- What LNK makes of a request payload on a channel (R173): the request, or the refusal. -/
def decodeRequest (ch : Chan) : List Byte → Except Reason Request
  | [] => .error .unknown
  | code :: fs =>
    if (codesOf ch).contains code.toNat then
      match decodeFields code.toNat fs with
      | some r => .ok r
      | none => .error .format
    else .error .unknown

/-- The code of a request (R173). -/
def Request.code : Request → Byte
  | .ident => 0x01
  | .status _ => 0x02
  | .media _ => 0x03
  | .resetEngine => 0x04
  | .move _ _ _ _ => 0x10
  | .scan _ _ => 0x11
  | .cancel => 0x12
  | .changerReset => 0x13
  | .load => 0x20
  | .unload => 0x21
  | .rewind => 0x22
  | .label _ => 0x23
  | .write _ _ => 0x24
  | .verify _ _ _ _ => 0x25
  | .restore _ _ _ => 0x26
  | .abort _ => 0x27
  | .mark => 0x28
  | .close => 0x29
  | .setGovernor _ => 0x2A
  | .apply => 0x2B
  | .getGovernor => 0x2C
  | .watch _ => 0x2D
  | .transportReset => 0x2E

/-- The fields after the code (R173); a number that is not examined is sent as zero. -/
def Request.fields : Request → List Byte
  | .status c => [flagByte c]
  | .media l => [l]
  | .move src dst auto tag => [src, dst, flagByte auto] ++ halfBytes tag
  | .scan f l => [f, l]
  | .label cs => cs
  | .write .append l => [1, 0, 0, 0, 0, l]
  | .write (.fromFile f) l => 2 :: wordBytes f ++ [l]
  | .verify a range mode policy =>
    wordBytes a ++
      (match range with
        | .count n => 1 :: wordBytes n
        | .toEod => [2, 0, 0, 0, 0]) ++
      [match mode with | .check => 1 | .compare => 2, match policy with | .keepFirst => 1 | .keepLast => 2]
  | .restore start offset stop =>
    (match start with
      | .address a => 1 :: wordBytes a
      | .file f => 2 :: wordBytes f) ++
    wordBytes offset ++
    (match stop with
      | .count n => 1 :: wordBytes n
      | .toMark => [2, 0, 0, 0, 0]
      | .toEod => [3, 0, 0, 0, 0])
  | .abort .immediate => [1]
  | .abort .finishQueued => [2]
  | .abort .atMark => [3]
  | .setGovernor g =>
    [g.s, g.d, g.ea, g.ma, g.ed, g.md, g.lmin, g.lmax, g.lstart, g.filler, g.restart, g.resume, g.n, g.clearOnApply]
  | .watch .off => [0, 0, 0, 0, 0]
  | .watch (.address a) => 1 :: wordBytes a
  | .watch .marks => [2, 0, 0, 0, 0]
  | .ident => []
  | .resetEngine => []
  | .cancel => []
  | .changerReset => []
  | .load => []
  | .unload => []
  | .rewind => []
  | .mark => []
  | .close => []
  | .apply => []
  | .getGovernor => []
  | .transportReset => []

/-- The payload of a request (R173). -/
def encodeRequest (r : Request) : List Byte := r.code :: r.fields

/-- Whether a request belongs to a channel (R173). -/
def Request.onChan (r : Request) (ch : Chan) : Bool := (codesOf ch).contains r.code.toNat

/-- Bytes 1 to 6 + length of a link frame (R170): what its check is computed over. -/
def linkBody (kind chan tag flags : Byte) (payload : List Byte) : List Byte :=
  [kind, chan, tag, flags] ++ beBytes 2 payload.length ++ payload

/-- A whole link frame (R170). -/
def linkFrame (kind chan tag flags : Byte) (payload : List Byte) : List Byte :=
  0xC5 :: linkBody kind chan tag flags payload ++
    beBytes 2 (crc16 (linkBody kind chan tag flags payload)).toNat

/-- An inbound frame as the host sends it (R170). -/
def encodeInFrame (f : InFrame) : List Byte :=
  linkFrame (if f.dataIn then 4 else 1) (chanCode f.chan) f.tag 0 f.payload

end Sys2Proof
end

