-- ==== Sys2Proof/Machine/Ops.lean ====
section
/-! DEFINITION. The named operations over the state that every family uses: the two transports and contexts, the
media table, the reply and notice queues, credits. -/

namespace Sys2Proof.Machine

/-! ## Access -/

/-- The transport controller t. -/
def State.tc (s : State) : Tr → Tc
  | .tc0 => s.tc0
  | .tc1 => s.tc1

/-- The state with the transport controller t replaced. -/
def State.setTc (s : State) (t : Tr) (c : Tc) : State :=
  match t with
  | .tc0 => { s with tc0 := c }
  | .tc1 => { s with tc1 := c }

/-- The context of transport t. -/
def State.cx (s : State) : Tr → Ctx
  | .tc0 => s.cx0
  | .tc1 => s.cx1

/-- The state with the context of transport t replaced. -/
def State.setCx (s : State) (t : Tr) (x : Ctx) : State :=
  match t with
  | .tc0 => { s with cx0 := x }
  | .tc1 => { s with cx1 := x }

/-- The state with the transport controller t changed by f. -/
def State.modTc (s : State) (t : Tr) (f : Tc → Tc) : State := s.setTc t (f (s.tc t))

/-- The state with the media table changed by f. -/
def State.modMtb (s : State) (f : Mtb → Mtb) : State := { s with mtb := f s.mtb }

/-- The state with the changer changed by f. -/
def State.modChg (s : State) (f : Chg → Chg) : State := { s with chg := f s.chg }

/-- The state with the link controller changed by f. -/
def State.modLnk (s : State) (f : Lnk → Lnk) : State := { s with lnk := f s.lnk }

/-- The next free value (log entry 2), and the state that has drawn it. -/
def State.draw (s : State) : Nat × State := (Config.unstated s.free, { s with free := s.free + 1 })

/-! ## The media table (R1 to R3, R6) -/

/-- The record in a location's entry, if any (R1). -/
def Mtb.get (m : Mtb) (l : Loc) : Option CartRecord := m.entries[l.idx]

/-- The table with one entry replaced. -/
def Mtb.put (m : Mtb) (l : Loc) (r : Option CartRecord) : Mtb :=
  { m with entries := m.entries.set l.idx r }

/-- Whether two optional labels are present and equal in all characters (R6). -/
def sameLabel (a b : Option CartRecord) : Bool :=
  match a.bind (·.label), b.bind (·.label) with
  | some x, some y => decide (x.chars = y.chars)
  | _, _ => false

/-- Whether another entry holds a label equal to that of entry i (R6). -/
def Mtb.clash (m : Mtb) (i : Fin 20) : Bool :=
  (List.finRange 20).any fun j => decide (j ≠ i) && sameLabel m.entries[j] m.entries[i]

/-- The DUPLICATE flags settled: set exactly where another record holds an equal label (R6). -/
def Mtb.settle (m : Mtb) : Mtb :=
  { m with
    entries := Vector.ofFn fun i => (m.entries[i]).map fun r => { r with duplicate := m.clash i } }

/-- The record of a location changed as one update (R3); an empty entry stays empty. -/
def Mtb.modify (m : Mtb) (l : Loc) (f : CartRecord → CartRecord) : Mtb := m.put l ((m.get l).map f)

/-- A location's record removed, and the DUPLICATE flags settled (R2, R6). -/
def Mtb.remove (m : Mtb) (l : Loc) : Mtb := (m.put l none).settle

/-- The class and protect held for a bay (R52). -/
def Mtb.bayValues (m : Mtb) : Tr → Option BayValues
  | .tc0 => m.bay0
  | .tc1 => m.bay1

/-- The values held for a bay replaced (R52). -/
def Mtb.setBayValues (m : Mtb) (t : Tr) (v : Option BayValues) : Mtb :=
  match t with
  | .tc0 => { m with bay0 := v }
  | .tc1 => { m with bay1 := v }

/-- A record with the class and protect of a bay written into it, if any are held (R8, R52). -/
def CartRecord.withBay (r : CartRecord) : Option BayValues → CartRecord
  | none => r
  | some v => { r with cls := some v.cls, protect := some v.protect }

/-- A record as it enters a location: in a bay it takes the values held for the bay (R52) and the binding of a job
that is already running there (log entry 13). -/
def Mtb.entering (m : Mtb) (jobs : Tr → Bool) (r : CartRecord) : Loc → CartRecord
  | .bay t =>
    let v := r.withBay (m.bayValues t)
    if jobs t then { v with binding := some t } else v
  | _ => r

/-- A record passes from one entry to another; a record standing there is removed first (R1, R2). -/
def Mtb.pass (m : Mtb) (jobs : Tr → Bool) (src dst : Loc) : Mtb :=
  match m.get src with
  | none => m
  | some r => ((m.put src none).put dst (some (m.entering jobs r dst))).settle

/-- Whether transport t runs a job. -/
def State.hasJob (s : State) (t : Tr) : Bool := (s.tc t).job.isSome

/-- A record passes between entries, as MTB takes it from the changer (R1). -/
def State.passRecord (s : State) (src dst : Loc) : State :=
  s.modMtb fun m => m.pass s.hasJob src dst

/-- The record of the cartridge in transport t's bay. -/
def State.bayRecord (s : State) (t : Tr) : Option CartRecord := s.mtb.get (.bay t)

/-- An update of the record in transport t's bay (R3). -/
def State.modBay (s : State) (t : Tr) (f : CartRecord → CartRecord) : State :=
  s.modMtb fun m => m.modify (.bay t) f

/-- The class that transport t uses (R71): that of its record, else the values held for its bay; with neither, a free
value (log entry 14). -/
def State.classOf (s : State) (t : Tr) : CartClass :=
  match (s.bayRecord t).bind (·.cls) with
  | some c => c
  | none =>
    match s.mtb.bayValues t with
    | some v => v.cls
    | none => Config.unsensedClass

/-- C: the number of frames on the tape in transport t (R71). -/
def State.frames (s : State) (t : Tr) : Nat := Config.capacity (s.classOf t)

/-- The first frame of the reserve zone, C - 16 (R72). -/
def State.reserveAt (s : State) (t : Tr) : Nat := s.frames t - Config.reserveFrames

/-- The first frame of the early-warning zone, C - 2048 (R72). -/
def State.warningAt (s : State) (t : Tr) : Nat := s.frames t - Config.warningFrames

/-! ## Replies and notices (R172, R176) -/

/-- A reply joins the tail of the reply queue (R172). -/
def Lnk.pushReply (l : Lnk) (r : Reply) : Lnk := { l with replies := l.replies ++ [r] }

/-- A notice joins the tail of the notice queue, or is dropped at a full queue and the loss is marked (R176, R177). -/
def Lnk.pushNotice (l : Lnk) (n : Notice) : Lnk :=
  if l.notices.length < Config.noticeMax then { l with notices := l.notices ++ [n] }
  else { l with lost := true }

/-- A notice queued by a block (R176). -/
def State.notify (s : State) (n : Notice) : State := s.modLnk (·.pushNotice n)

/-- A reply queued by the block that takes a request (R172, R174). -/
def State.reply (s : State) (ch : Chan) (tag code : Byte) (body : ReplyBody) : State :=
  s.modLnk (·.pushReply { chan := ch, tag, code, body })

/-- One more discarded frame (R171). -/
def Lnk.linkError (l : Lnk) : Lnk := { l with errors := satAdd Config.max32 l.errors 1 }

/-- Unsolicited-data count of a transport (R109, R182). -/
def Lnk.unsol (l : Lnk) : Tr → Nat
  | .tc0 => l.unsol0
  | .tc1 => l.unsol1

/-- One more unsolicited DATA_IN of a transport (R109, R182). -/
def Lnk.unsolicited (l : Lnk) (t : Tr) : Lnk :=
  match t with
  | .tc0 => { l with unsol0 := satAdd Config.max32 l.unsol0 1 }
  | .tc1 => { l with unsol1 := satAdd Config.max32 l.unsol1 1 }

/-! ## Credits (R108, R110, R176) -/

/-- Whether a notice is a CREDIT of transport t. -/
def Notice.isCredit (t : Tr) : Notice → Bool
  | .credit t' _ => decide (t' = t)
  | _ => false

/-- A waiting CREDIT notice of t with its count increased (R108). -/
def Notice.addCredit (t : Tr) (n : Nat) : Notice → Notice
  | .credit t' m => if t' = t then .credit t' (m + n) else .credit t' m
  | x => x

/-- A CREDIT notice formed or increased; none when the queue is full and no CREDIT of t waits (R108). -/
def Lnk.placeCredit (l : Lnk) (t : Tr) (n : Nat) : Option Lnk :=
  if l.notices.any (Notice.isCredit t) then
    some { l with notices := l.notices.map (Notice.addCredit t n) }
  else if l.notices.length < Config.noticeMax then
    some { l with notices := l.notices ++ [.credit t n] }
  else none

/-- The pending credits of t placed in a CREDIT notice, if one can be formed (R108). -/
def State.formCredit (s : State) (t : Tr) : State :=
  let c := s.tc t
  if c.pendingCredits = 0 then s
  else
    match s.lnk.placeCredit t c.pendingCredits with
    | none => s
    | some l =>
      { s with lnk := l }.setTc t { c with granted := c.granted + c.pendingCredits, pendingCredits := 0 }

/-- Credits earned by t (R108). -/
def State.earn (s : State) (t : Tr) (n : Nat) : State :=
  (s.modTc t fun c => { c with pendingCredits := c.pendingCredits + n }).formCredit t

/-- A notice has left the queue: transports holding pending credits form their CREDIT notices, TC0 first (R176). -/
def State.noticeLeft (s : State) : State := (s.formCredit .tc0).formCredit .tc1

/-- A waiting CREDIT notice of t withdrawn (R110, R176). -/
def State.withdrawCredit (s : State) (t : Tr) : State :=
  if s.lnk.notices.any (Notice.isCredit t) then
    (s.modLnk fun l => { l with notices := l.notices.filter fun n => !n.isCredit t }).noticeLeft
  else s

/-- The credits of t voided, and its waiting CREDIT notice withdrawn (R68, R110). -/
def State.voidCredits (s : State) (t : Tr) : State :=
  (s.modTc t fun c => { c with pendingCredits := 0, granted := 0 }).withdrawCredit t

/-! ## The contexts (R103) -/

/-- The context of t cleared, with the direction its next job gives it; an operation of it in progress is abandoned
(R103). -/
def State.clearCtx (s : State) (t : Tr) (d : Dir) : State :=
  { s.setCx t { dir := d } with
    dp := s.dp.map fun o => if o.t = t then { o with abandoned := true } else o }

/-- Whether the datapath holds an operation of t that is not abandoned (R103). -/
def State.opOf (s : State) (t : Tr) : Bool :=
  match s.dp with
  | some o => decide (o.t = t) && !o.abandoned
  | none => false

end Sys2Proof.Machine
end

