-- ==== Sys2Proof/Machine/Frames.lean ====
section
/-! DEFINITION. Tape frames (chapter 4): headers, their checks, the read-back judgement, and the accept rule. -/

namespace Sys2Proof.Machine

/-- Kind byte of a frame (R73). -/
def FrameKind.byte : FrameKind → Nat
  | .label => 1
  | .data => 2
  | .mark => 3
  | .filler => 4
  | .eod => 5

/-- The kind of a kind byte; 0 and 6 to 255 are no known kind (R73). -/
def kindOf (n : Nat) : Option FrameKind :=
  match n with
  | 1 => some .label
  | 2 => some .data
  | 3 => some .mark
  | 4 => some .filler
  | 5 => some .eod
  | _ => none

/-- Header bytes 0 to 24 (R73). -/
def Header.body (h : Header) : List Byte :=
  beBytes 1 h.kind ++ beBytes 1 h.pass ++ beBytes 4 h.frame ++ beBytes 4 h.addr ++ beBytes 4 h.file ++
    beBytes 4 h.rawLen ++ beBytes 2 h.payLen ++ beBytes 1 h.slices ++ beBytes 4 h.payCheck.toNat

/-- The 27 header bytes as written (R73). -/
def Header.bytes (h : Header) : List Byte := h.body ++ beBytes 2 (crc16 h.body).toNat

/-- A field of a header as read. -/
def field (bs : List Byte) (start size : Nat) : Nat := beNat ((bs.drop start).take size)

/-- The fields of a header as read (R73). -/
def headerFields (bs : List Byte) : Header where
  kind := field bs 0 1
  pass := field bs 1 1
  frame := field bs 2 4
  addr := field bs 6 4
  file := field bs 10 4
  rawLen := field bs 14 4
  payLen := field bs 18 2
  slices := field bs 20 1
  payCheck := BitVec.ofNat 32 (field bs 21 4)

/-- Whether the header check of 27 bytes as read is good (R76). -/
def headerGood (bs : List Byte) : Bool :=
  decide (bs.length = 27) && decide ((crc16 (bs.take 25)).toNat = field bs 25 2)

/-- A frame as the reading takes it: the header, taken only when its check is good (R73), and the payload at the
header's payload length with its check (R77). None is a bad header check. -/
structure ReadFrame where
  hdr : Header
  payload : List Byte
  payGood : Bool
deriving DecidableEq, Repr

/-- What a reading makes of a frame place (R73, R76, R77). -/
def readFrame : RawFrame → Option ReadFrame
  | .unreadable => none
  | .bytes header payload =>
    if headerGood header then
      let h := headerFields header
      let p := payload.take h.payLen
      some { hdr := h, payload := p, payGood := decide (p.length = h.payLen) && decide (crc32 p = h.payCheck) }
    else none

/-- Whether a header of a known kind is malformed (R73). -/
def Header.malformed (h : Header) : Bool :=
  match kindOf h.kind with
  | some .data =>
    !(decide (1 ≤ h.rawLen) && decide (h.rawLen ≤ 262144) && decide (h.payLen ≤ Config.payloadMax) &&
      decide (1 ≤ h.slices) && decide (h.slices ≤ Config.slicesMax))
  | some .label => decide (h.payLen ≠ 17) || decide (h.addr ≠ Config.max32)
  | some _ => decide (h.payLen ≠ 0) || decide (h.rawLen ≠ 0) || decide (h.slices ≠ 0)
  | none => false

/-- The header of a frame that a TC writes (R73, R74). -/
def mkHeader (kind : FrameKind) (pass frame addr file rawLen slices : Nat) (payload : List Byte) : Header where
  kind := kind.byte
  pass := pass
  frame := frame
  addr := addr
  file := file
  rawLen := rawLen
  payLen := payload.length
  slices := slices
  payCheck := crc32 payload

/-- The judgement of a written frame as it passes the read head (R78): true is GOOD. -/
def judge (written : Header) (raw : RawFrame) : Bool :=
  match raw with
  | .unreadable => false
  | .bytes header _ =>
    match readFrame raw with
    | none => false
    | some f => decide (header = written.bytes) && (decide (written.payLen = 0) || f.payGood)

/-- Classification of a frame by the accept rule (R82). -/
inductive Verdict where
  | accepted (f : ReadFrame) (mark : Bool)
  | endOfData (f : ReadFrame)
  | counted
  | uncounted
deriving DecidableEq, Repr

/-- The accept rule with expected address x: the first line of R82's table that applies. -/
def classify (x : Nat) (raw : RawFrame) : Verdict :=
  match readFrame raw with
  | none => .counted
  | some f =>
    match kindOf f.hdr.kind with
    | some .label => .uncounted
    | some .filler => .uncounted
    | none => .counted
    | some .data =>
      if f.hdr.malformed then .counted
      else if f.hdr.addr = x ∧ f.payGood then .accepted f false
      else .counted
    | some .mark =>
      if f.hdr.malformed then .counted
      else if f.hdr.addr = x ∧ f.payGood then .accepted f true
      else .counted
    | some .eod =>
      if f.hdr.malformed then .counted
      else if f.hdr.addr = x then .endOfData f
      else .counted

/-- What a job keeps of an accepted frame (R146). -/
def ReadFrame.info (f : ReadFrame) : ReadInfo where
  addr := f.hdr.addr
  file := f.hdr.file
  frame := f.hdr.frame
  pass := f.hdr.pass

/-- The block of an accepted DATA frame (R146). -/
def ReadFrame.block (f : ReadFrame) : Block where
  payload := f.payload
  raw := f.hdr.rawLen
  slices := f.hdr.slices

/-- The position after a frame place has passed: the frame after that of a good header, otherwise the next place
(R50, R76). Behind frame C - 1 that is C, a frame that does not exist (R71; log entry 70). -/
def Tc.passed (c : Tc) (raw : RawFrame) : Tc :=
  match readFrame raw with
  | some f => { c with pos := some (f.hdr.frame + 1) }
  | none => { c with pos := c.pos.map (· + 1) }

end Sys2Proof.Machine
end

