-- ==== Sys2Proof/Machine/Governor.lean ====
section
/-! DEFINITION. The speed governor (chapter 7). -/

namespace Sys2Proof.Machine

/-- The values of a SET_GOVERNOR clamped into the ranges of R129 (R130). -/
def clampSettings (g : GovBytes) : GovSet where
  s := clampNat 1 31 g.s.toNat
  d := clampNat 0 8 g.d.toNat
  ea := clampNat 0 7 g.ea.toNat
  ma := clampNat 0 15 g.ma.toNat
  ed := clampNat 0 7 g.ed.toNat
  md := clampNat 0 15 g.md.toNat
  lmin := clampNat 1 12 g.lmin.toNat
  lmax := clampNat 1 12 g.lmax.toNat
  lstart := clampNat 1 12 g.lstart.toNat
  filler := clampNat 0 63 g.filler.toNat
  restart := clampNat 1 32 g.restart.toNat
  resume := clampNat 0 31 g.resume.toNat
  n := clampNat 1 64 g.n.toNat
  clearOnApply := decide (g.clearOnApply ≠ 0)

/-- A copy of the settings as fourteen bytes in request order (R174). -/
def GovSet.bytes (g : GovSet) : List Byte :=
  [g.s, g.d, g.ea, g.ma, g.ed, g.md, g.lmin, g.lmax, g.lstart, g.filler, g.restart, g.resume, g.n].map
    (BitVec.ofNat 8) ++ [flagByte g.clearOnApply]

/-- The level of an accumulator value: floor((A + 128) / 256) (R137). -/
def levelOf (a : Int) : Int := (a + 128) / 256

/-- A clamped to [256 Lmin, 256 Lmax] (R132, R137). -/
def GovSet.clampA (g : GovSet) (a : Int) : Int :=
  max (256 * (g.lmin : Int)) (min (256 * (g.lmax : Int)) a)

/-- The gain K = (16 + M) 2^E (R137). -/
def gain (m e : Nat) : Nat := (16 + m) * 2 ^ e

/-- The step of an error: e K / 16 truncated toward zero, with the attack gain above 0 and the decay gain below
(R137). -/
def GovSet.delta (g : GovSet) (e : Int) : Int :=
  (e * (if 0 < e then (gain g.ma g.ea : Int) else (gain g.md g.ed : Int))).tdiv 16

/-- The pending copy moves to active (R132). -/
def Gov.move (g : Gov) : Gov :=
  let act := { g.pending with lstart := clampNat g.pending.lmin g.pending.lmax g.pending.lstart }
  let a := if act.clearOnApply then 256 * (act.lstart : Int) else act.clampA g.a
  { g with active := act, a, l := levelOf a, armed := false }

/-- The armed copy moves, if one is armed (R131). -/
def Gov.moveArmed (g : Gov) : Gov := if g.armed then g.move else g

/-- A start of streaming (R135). -/
def Gov.start (g : Gov) : Gov :=
  { g with a := 256 * (g.active.lstart : Int), l := (g.active.lstart : Int), evalCount := 0 }

/-- The update of an evaluation with error e (R137). -/
def Gov.update (g : Gov) (e : Int) : Gov :=
  if e.natAbs ≤ g.active.d then g
  else
    let a := g.active.clampA (g.a + g.active.delta e)
    { g with a, l := levelOf a }

/-- The error of an evaluation: Q - S when writing, S - Q when reading (R137). -/
def GovSet.error (g : GovSet) (writing : Bool) (q : Nat) : Int :=
  if writing then (q : Int) - g.s else (g.s : Int) - q

/-- A frame counted toward the evaluations; every Nth is one (R136), made after any armed move (R137; log entry 39). -/
def Gov.countFrame (g : Gov) (writing : Bool) (q : Nat) : Gov :=
  if g.active.n ≤ g.evalCount + 1 then
    let m := { g with evalCount := 0 }.moveArmed
    m.update (m.active.error writing q)
  else { g with evalCount := g.evalCount + 1 }

/-- What a TRANSPORT_RESET does to A, L and the evaluation count (R68, R143). -/
def Gov.afterReset (g : Gov) : Gov := g.moveArmed.start

/-- Whether the transport runs a write job. -/
def Tc.isWrite (c : Tc) : Bool :=
  match c.job with
  | some (.write _) => true
  | _ => false

/-- Whether the governor is engaged (R129). -/
def Tc.engaged (c : Tc) : Bool :=
  match c.st with
  | .writing => c.isWrite
  | .reading => true
  | .draining => true
  | _ => false

/-- The three states whose leaving moves an armed copy (R131). -/
def TcState.streams : TcState → Bool
  | .writing => true
  | .reading => true
  | .draining => true
  | _ => false

/-- A change of transport state; leaving WRITING, READING and DRAINING for another state moves an armed copy
(R131). -/
def Tc.goto (c : Tc) (st : TcState) : Tc :=
  if c.st.streams && !st.streams then { c with st, gov := c.gov.moveArmed } else { c with st }

/-- A start of streaming in WRITING, READING or DRAINING (R135). -/
def Tc.stream (c : Tc) (st : TcState) : Tc := { c with st, gov := c.gov.start }

/-- The level at which the tape runs when it reads or writes frames (R134): L while the governor is engaged, the
active Lstart otherwise. -/
def Tc.tapeLevel (c : Tc) : Int := if c.engaged then c.gov.l else (c.gov.active.lstart : Int)

end Sys2Proof.Machine
end

