-- ==== Sys2Proof/Machine/Note.lean ====
section
/-! DEFINITION. The cartridge note: interpreting a read (R18 to R20), composing an image (R21), and the choice of the
note operation at a grip (R17). -/

namespace Sys2Proof.Machine

/-- A byte of a note image. -/
def noteByte (img : List Byte) (i : Nat) : Nat := (img.getD i 0).toNat

/-- A field of a note image, most significant byte first (R16). -/
def noteField (img : List Byte) (start size : Nat) : Nat := beNat ((img.drop start).take size)

/-- What the walk of the section list has found (R19). -/
structure Sections where
  eod : Option (Nat × Nat × Nat) := none
  map : List MapEntry := []
  totals : Option (Nat × Nat) := none
deriving DecidableEq, Repr

/-- The entries of a FILE MAP section (R16). -/
def mapEntries (img : List Byte) (start : Nat) : Nat → List MapEntry
  | 0 => []
  | n + 1 =>
    { addr := noteField img start 4, frame := noteField img (start + 4) 4 } :: mapEntries img (start + 8) n

/-- The walk of the section list from byte `pos` (R19); none is DAMAGED. The first argument bounds the sections. -/
def walkSections (img : List Byte) : Nat → Nat → Sections → Option Sections
  | 0, _, _ => none
  | n + 1, pos, acc =>
    if Config.noteBytes ≤ pos then none
    else
      match noteByte img pos with
      | 0 => some acc
      | 1 =>
        if pos + 14 ≤ Config.noteBytes ∧ noteByte img (pos + 1) = 1 ∧ acc.eod = none then
          walkSections img n (pos + 14)
            { acc with
              eod := some (noteField img (pos + 2) 4, noteField img (pos + 6) 4, noteField img (pos + 10) 4) }
        else none
      | 2 =>
        if pos + 2 ≤ Config.noteBytes ∧ pos + 2 + 8 * noteByte img (pos + 1) ≤ Config.noteBytes then
          walkSections img n (pos + 2 + 8 * noteByte img (pos + 1))
            { acc with map := acc.map ++ mapEntries img (pos + 2) (noteByte img (pos + 1)) }
        else none
      | 3 =>
        if pos + 18 ≤ Config.noteBytes ∧ noteByte img (pos + 1) = 1 ∧ acc.totals = none then
          walkSections img n (pos + 18)
            { acc with totals := some (noteField img (pos + 2) 8, noteField img (pos + 10) 8) }
        else none
      | _ => none

/-- Strictly increasing in both logical address and physical frame (R11, R19). -/
def risingMap : List MapEntry → Bool
  | a :: b :: rest => decide (a.addr < b.addr) && decide (a.frame < b.frame) && risingMap (b :: rest)
  | _ => true

/-- The checks of R19 on the sections found, for a capacity; only the first 64 map entries are kept. -/
def Sections.check (sec : Sections) (cap : Nat) : Option Sections :=
  let kept := sec.map.take Config.mapMax
  let eodGood := match sec.eod with
    | none => true
    | some (a, f, files) =>
      decide (a ≠ Config.max32) && decide (f ≠ 0) && decide (f < cap) &&
        kept.all (fun e => decide (e.addr < a)) && decide (kept.length ≤ files)
  if risingMap kept && eodGood then some { sec with map := kept } else none

/-- The class of a class byte (R16, R18). -/
def classOfByte (n : Nat) : Option CartClass :=
  if n = 1 then some .t1 else if n = 2 then some .t2 else none

/-- The label of bytes 1 to 12, when all are printable (R18). -/
def noteLabel (img : List Byte) : Option Label :=
  let cs := (img.drop 1).take 12
  if isLabel cs then some { chars := cs, source := .note } else none

/-- The section list of an image examined for a class (R19). -/
def noteSections (img : List Byte) (c : CartClass) : Option Sections :=
  (walkSections img Config.noteBytes 16 {}).bind (·.check (Config.capacity c))

/-- The record rebuilt from the result of a note read (R18 to R20); none means that no memory answered. -/
def rebuild : Option (List Byte) → CartRecord
  | none => { noteState := .missing }
  | some img =>
    if noteByte img 0 ≠ 0x3C then { noteState := .invalid }
    else
      let base : CartRecord := { label := noteLabel img, loadCount := noteField img 14 2 }
      match classOfByte (noteByte img 13) with
      | none => { base with noteState := .damaged }
      | some c =>
        match noteSections img c with
        | none => { base with noteState := .damaged, cls := some c }
        | some sec =>
          { base with
            noteState := .valid
            cls := some c
            eod := match sec.eod with
              | none => .unknown
              | some (a, f, n) => .known a f n
            map := sec.map
            rawTotal := (sec.totals.map (·.1)).getD 0
            codedTotal := (sec.totals.map (·.2)).getD 0 }

/-- Class byte of a note, a LABEL frame or a MEDIA record (R16, R75, R183). -/
def CartClass.byte : CartClass → Byte
  | .t1 => 1
  | .t2 => 2

/-- The EOD section of an image (R21). -/
def eodSection : Eod → List Byte
  | .known a f n => [1, 1] ++ beBytes 4 a ++ beBytes 4 f ++ beBytes 4 n
  | _ => []

/-- The FILE MAP section of an image (R21). -/
def mapSection (m : List MapEntry) : List Byte :=
  match m with
  | [] => []
  | _ => 2 :: BitVec.ofNat 8 m.length :: (m.map fun e => beBytes 4 e.addr ++ beBytes 4 e.frame).flatten

/-- The TOTALS section of an image (R21). -/
def totalsSection (r : CartRecord) : List Byte := [3, 1] ++ beBytes 8 r.rawTotal ++ beBytes 8 r.codedTotal

/-- The bytes of an image up to its end-of-list byte (R21). -/
def noteContent (r : CartRecord) : List Byte :=
  [0x3C] ++ (match r.label with | some l => l.chars | none => List.replicate 12 0) ++
    [CartClass.byte (r.cls.getD Config.unsensedClass)] ++ beBytes 2 r.loadCount ++
    eodSection r.eod ++ mapSection r.map ++ totalsSection r ++ [0]

/-- The finished image of a record: every byte after the end-of-list byte is zero (R21). -/
def composeNote (r : CartRecord) : List Byte :=
  noteContent r ++ List.replicate (Config.noteBytes - (noteContent r).length) 0

/-- Page n of an image: bytes 32 n to 32 n + 31 (R22). -/
def notePage (img : List Byte) (n : Nat) : List Byte := (img.drop (Config.pageBytes * n)).take Config.pageBytes

/-- Page 0 of an image with another marker byte (R22). -/
def markedPage (img : List Byte) (marker : Byte) : List Byte := marker :: (notePage img 0).drop 1

/-- What a step of a note write carries to the memory: the page and its bytes; the unlock and the read back carry no
page (R22). -/
def WriteStep.carries (img : List Byte) : WriteStep → Option (Nat × List Byte)
  | .unlock => none
  | .pageClear => some (0, markedPage img 0x00)
  | .page n => some (n, notePage img n)
  | .pageSet => some (0, markedPage img 0x3C)
  | .readBack => none

/-- The note operation that a record calls for at a grip (R17): a read, a write, the clearing of dirty, or none. -/
inductive NoteChoice where
  | read
  | write
  | clearDirty
  | nothing
deriving DecidableEq, Repr

/-- R17's table, from the record as it stands when the grip is confirmed. -/
def noteChoice (r : CartRecord) : NoteChoice :=
  match r.presence with
  | .unknown => .read
  | .present =>
    if r.dirty then
      match r.protect with
      | some .set => .clearDirty
      | _ => .write
    else if r.noteState = .unread then .read
    else .nothing

end Sys2Proof.Machine
end

