-- ==== Sys2Proof/Machine/Reports.lean ====
section
/-! DEFINITION. What replies, notices and reports carry, as bytes (R174 to R176, R181 to R183, and the report tables
of chapters 3, 6 and 8), and the capacity estimate (R15). Sizes that R175 does not list: log entry 16. -/

namespace Sys2Proof.Machine

/-- An optional number field (R175). -/
def optField (size : Nat) : Option Nat → List Byte
  | none => 0 :: beBytes size 0
  | some v => 1 :: beBytes size v

/-- An optional label field (R175). -/
def optLabel : Option (List Byte) → List Byte
  | none => 0 :: List.replicate 12 0
  | some cs => 1 :: cs

/-- An optional position: an address and a block position (R175). -/
def optPoint : Option (Nat × Nat) → List Byte
  | none => 0 :: List.replicate 8 0
  | some (a, p) => 1 :: (beBytes 4 a ++ beBytes 4 p)

/-! ## Names (R175) -/

/-- Position of a changer state in R26's table. -/
def ChgState.code : ChgState → Nat
  | .homing => 1
  | .idle => 2
  | .running => 3
  | .waitBay => 4
  | .waitMail => 5
  | .halted => 6
  | .held => 7
  | .faulted => 8

/-- Position of a transport state in R49's table. -/
def TcState.code : TcState → Nat
  | .empty => 1
  | .seated => 2
  | .threading => 3
  | .identifying => 4
  | .ready => 5
  | .adrift => 6
  | .locating => 7
  | .writing => 8
  | .reading => 9
  | .hitch => 10
  | .waiting => 11
  | .draining => 12
  | .rewinding => 13
  | .unthreading => 14
  | .faulted => 15

/-- Position of a move result in the table of section 2.1. -/
def MoveResult.code : MoveResult → Nat
  | .ok => 1
  | .noteWriteFault => 2
  | .sourceEmpty => 3
  | .bayTimeout => 4
  | .mailTimeout => 5
  | .destOccupied => 6
  | .gripFault => 7
  | .travelFault => 8
  | .placeFault => 9
  | .doorOpen => 10
  | .reset => 11
  | .cancelled => 12

/-- Position of a job kind in the list of R51. -/
def JobKind.code : JobKind → Nat
  | .load => 1
  | .unload => 2
  | .rewind => 3
  | .label => 4
  | .write => 5
  | .verify => 6
  | .restore => 7

/-- Position of a job result (R175). -/
def JobResult.code : JobResult → Nat
  | .ok => 1
  | .threadFault => 2
  | .rewindFault => 3
  | .unthreadFault => 4
  | .mechanismFault => 5
  | .writeFault => 6
  | .reset => 7
  | .positionFault => 8
  | .locateFault => 9
  | .beyondEod => 10
  | .readFault => 11
  | .aborted => 12
  | .endOfMedia => 13
  | .endOfData => 14
  | .restoreFault => 15
  | .faultsFound => 16
  | .compareShort => 17

/-- Code of a refusal reason (R174). -/
def Reason.code : Reason → Nat
  | .state => 1
  | .busy => 2
  | .format => 3
  | .range => 4
  | .writeProtected => 5
  | .beyondEod => 6
  | .queueFull => 7
  | .duplicate => 8
  | .unknown => 9

/-- Position of a note state in R5's table (R183). -/
def NoteState.code : NoteState → Nat
  | .unread => 1
  | .valid => 2
  | .damaged => 3
  | .invalid => 4
  | .missing => 5

/-- Position of a fault kind in R159. -/
def VFaultKind.code : VFaultKind → Nat
  | .unreadable => 1
  | .decodeBad => 2
  | .sliceCheck => 3
  | .compareMismatch => 4

/-- Policy code (R173, R175). -/
def policyCode : FaultPolicy → Nat
  | .keepFirst => 1
  | .keepLast => 2

/-! ## The capacity estimate (R15) -/

/-- The next frame to write of a transport: the place after the frame in progress, if one is being written (R113). -/
def Tc.nextPlace (c : Tc) : Option Nat :=
  match c.job with
  | some (.write w) => if w.inProgress.isSome then c.pos.map (· + 1) else c.pos
  | _ => c.pos

/-- The next frame to write on a record's tape, where it is known (R15). -/
def State.nextToWrite (s : State) (r : CartRecord) : Option Nat :=
  match r.eod with
  | .known _ f _ => some f
  | .opened => r.binding.bind fun t => (s.tc t).nextPlace
  | .unknown => none

/-- The estimate for a class, a next frame and the two totals (R15). -/
def estimateOf (c : CartClass) (p raw coded : Nat) : Nat :=
  let usable := Config.capacity c - Config.reserveFrames - p
  if coded = 0 then usable * 32768 else usable * 32768 * raw / coded

/-- The remaining-capacity estimate of a record (R15). -/
def State.estimate (s : State) (r : CartRecord) : Option Nat :=
  match r.cls, s.nextToWrite r with
  | some c, some p => some (estimateOf c p r.rawTotal r.codedTotal)
  | _, _ => none

/-! ## Reports of the jobs -/

/-- How the record's label stood to the tape label (R55): absent 1, equal 2, different 3 (R175). -/
def labelRelation (held : Option Label) (tape : List Byte) : Nat :=
  match held with
  | none => 1
  | some l => if l.chars = tape then 2 else 3

/-- The report of a LOAD (R55); `unstatedFinding` stands for the finding of a LOAD that ended before it had one (log
entry 2). -/
def loadReport (f : Option Finding) (held : Option Label) (loadCount unstatedFinding : Nat) : List Byte :=
  (match f with
    | some (.label cs n) =>
      beBytes 1 1 ++ [0] ++ optLabel (some cs) ++ optField 4 (some n) ++ optField 1 (some (labelRelation held cs))
    | some (.noLabel u) => beBytes 1 2 ++ [flagByte u] ++ optLabel none ++ optField 4 none ++ optField 1 none
    | some .blank => beBytes 1 3 ++ [0] ++ optLabel none ++ optField 4 none ++ optField 1 none
    | none => beBytes 1 unstatedFinding ++ [0] ++ optLabel none ++ optField 4 none ++ optField 1 none) ++
  beBytes 2 loadCount

/-- The report of a LABEL (R59). -/
def labelReport (j : LabelJob) : List Byte := j.chars ++ beBytes 4 j.count

/-- The report of a write job (R127), with the estimate of its record. -/
def writeReport (w : WriteJob) (estimate : Option Nat) : List Byte :=
  optField 4 w.start ++ optField 4 w.eodAddr ++ optField 4 w.eodFrame ++
  beBytes 4 w.blocksConfirmed ++ beBytes 4 w.marksConfirmed ++ beBytes 4 w.blocksLost ++
  beBytes 4 w.framesWritten ++ beBytes 4 w.fillersWritten ++ beBytes 4 w.hitches ++ beBytes 4 w.rewritesWritten ++
  beBytes 8 w.rawAccepted ++ beBytes 8 w.rawOnTape ++ beBytes 8 w.rawDiscarded ++ beBytes 8 w.coded ++
  beBytes 8 w.rawOnTape ++ optField 8 estimate ++ [flagByte w.eodRecovered, flagByte w.eodUnconfirmed] ++
  optField 4 w.sought ++ optField 4 w.reached

/-- An entry of a fault list (R175). -/
def VFault.bytes (f : VFault) : List Byte := beBytes 4 f.addr ++ beBytes 1 f.kind.code ++ beBytes 4 f.offset

/-- The resume point a restore reports: absent when it delivered its range whole, also with the result that an ABORT
AT_MARK gives to such a job (R162, R165; log entries 28, 71). -/
def ReadJob.resumePoint (r : ReadJob) (result : JobResult) : Option (Nat × Nat) :=
  if result = .ok ∨ (result = .aborted ∧ r.ended = some .ok) then none else r.resume

/-- The report of a restore (R165; log entry 17). -/
def restoreReport (r : ReadJob) (result : JobResult) : List Byte :=
  optField 4 r.start ++ beBytes 4 r.applied ++ beBytes 4 r.x ++
  beBytes 4 r.blocksDelivered ++ beBytes 4 r.marksDelivered ++ beBytes 8 r.rawDelivered ++ beBytes 8 r.rawSkipped ++
  optPoint (r.resumePoint result) ++
  beBytes 4 r.framesRead ++ beBytes 4 r.countedSkips ++ beBytes 4 r.rewritten ++ beBytes 4 r.hitches ++
  (if result = .restoreFault then optField 4 (r.fault.map (·.1)) ++ optField 1 (r.fault.map (·.2))
   else optField 4 (if result = .readFault then r.readFault else none) ++ optField 1 none) ++
  optField 4 (if result = .restoreFault then r.readFault else none) ++
  optField 4 r.sought ++ optField 4 r.reached

/-- The report of a verify (R166; log entries 16, 17); the short point is told with the result COMPARE_SHORT (log entry
27). -/
def verifyReport (r : ReadJob) (policy : FaultPolicy) (result : JobResult) : List Byte :=
  optField 4 r.start ++ beBytes 4 r.x ++ beBytes 4 r.covered ++
  beBytes 4 r.blocksAccepted ++ beBytes 4 r.marksAccepted ++
  beBytes 8 r.rawChecked ++ beBytes 8 r.compared ++ beBytes 8 r.uncompared ++ beBytes 8 r.surplus ++
  optPoint (if result = .compareShort then r.short else none) ++ beBytes 4 r.faultCount ++ beBytes 1 (policyCode policy) ++
  beBytes 2 r.faults.length ++ (r.faults.map VFault.bytes).flatten ++
  beBytes 4 r.framesRead ++ beBytes 4 r.countedSkips ++ beBytes 4 r.rewritten ++ beBytes 4 r.hitches ++
  beBytes 4 r.resyncs ++ [flagByte r.unalignedFlag] ++
  optField 4 r.sought ++ optField 4 r.reached

/-! ## Notices (R176) -/

/-- The content of a MOVE_END (R28). -/
def MoveEnd.bytes (m : MoveEnd) : List Byte :=
  (match m.order with
    | .move _ _ _ tag => beBytes 1 1 ++ halfBytes tag
    | .scan f l => beBytes 1 2 ++ beBytes 1 f ++ beBytes 1 l) ++
  beBytes 1 m.result.code ++
  (match m.order with
    | .move _ _ _ _ =>
      optField 1 (m.loc.map fun l => l.idx.val) ++ optLabel m.label ++ optField 1 (m.noteState.map NoteState.code)
    | .scan _ _ => optField 1 (m.counts.map (·.1)) ++ optField 1 (m.counts.map (·.2)))

/-- The payload of a notice: its kind and its content (R176). -/
def Notice.payload : Notice → List Byte
  | .credit _ n => 1 :: beBytes 1 n
  | .jobEnd _ k r report => 2 :: beBytes 1 k.code ++ beBytes 1 r.code ++ report
  | .moveEnd m => 3 :: m.bytes
  | .mailArrived => [4]
  | .mailTaken => [5]
  | .door o => 6 :: beBytes 1 (if o then 1 else 2)
  | .earlyWarning _ place raw => 7 :: beBytes 4 place ++ beBytes 8 raw
  | .watchReached _ k a mark file frame =>
    8 :: beBytes 1 k.code ++ beBytes 4 a ++ beBytes 1 (if mark then 3 else 2) ++ beBytes 4 file ++ beBytes 4 frame
  | .ready st => 9 :: beBytes 1 st.code

/-- The channel of a notice (R170, R176). -/
def Notice.chan : Notice → Chan
  | .credit t _ => .transport t
  | .jobEnd t _ _ _ => .transport t
  | .earlyWarning t _ _ => .transport t
  | .watchReached t _ _ _ _ _ => .transport t
  | _ => .changer

/-! ## Replies (R174) -/

/-- The payload of a reply (R174). -/
def Reply.payload (r : Reply) : List Byte :=
  match r.body with
  | .done result => 1 :: r.code :: result
  | .accepted => [2, r.code]
  | .refused why => [3, r.code, BitVec.ofNat 8 why.code]

/-- The identity of the part (R181). -/
def identResult : List Byte :=
  beBytes 2 0x3F12 ++ beBytes 2 420 ++ beBytes 1 3 ++ [16, 1, 2, 8, 16, 16, 4, 32, 4, 16, 64, 32, 32]

/-- What STATUS reports, as it stands when LNK takes the request (R182); the widths of its counts are log entry 16. -/
def State.statusResult (s : State) : List Byte :=
  beBytes 1 s.tc0.st.code ++ beBytes 1 s.tc1.st.code ++ beBytes 1 s.chg.st.code ++ beBytes 1 s.chg.queue.length ++
  beBytes 1 s.lnk.replies.length ++ beBytes 1 s.lnk.notices.length ++ beBytes 4 s.lnk.errors ++
  [flagByte s.lnk.lost] ++ beBytes 4 s.lnk.unsol0 ++ beBytes 4 s.lnk.unsol1

/-- Job binding in a MEDIA record (R183). -/
def bindingByte : Option Tr → Byte
  | none => 0
  | some .tc0 => 1
  | some .tc1 => 2

/-- EOD fields of a MEDIA record (R183). -/
def eodBytes : Eod → List Byte
  | .known a f n => [1] ++ beBytes 4 a ++ beBytes 4 f ++ beBytes 4 n
  | .opened => 2 :: List.replicate 12 0
  | .unknown => 3 :: List.replicate 12 0

/-- A record of a MEDIA reply: 64 bytes (R183). -/
def State.mediaRecord (s : State) (l : Loc) : List Byte :=
  match s.mtb.get l with
  | none => l.code :: List.replicate 63 0
  | some r =>
    [l.code, 1, (match r.presence with | .present => 1 | .unknown => 2), BitVec.ofNat 8 r.noteState.code] ++
    (match r.label with
      | some lb => lb.chars ++ [match lb.source with | .note => 1 | .tape => 2]
      | none => List.replicate 13 0) ++
    [flagByte r.duplicate, flagByte r.mismatch,
      (match r.cls with | none => 0 | some c => CartClass.byte c),
      (match r.protect with | none => 0 | some .set => 1 | some .clear => 2)] ++
    beBytes 2 r.loadCount ++ eodBytes r.eod ++ [BitVec.ofNat 8 r.map.length] ++
    beBytes 8 r.rawTotal ++ beBytes 8 r.codedTotal ++ [flagByte r.dirty, bindingByte r.binding] ++
    optField 8 (s.estimate r)

/-- The file map entries of a location's record (R183). -/
def State.mediaMap (s : State) (l : Loc) : List Byte :=
  match s.mtb.get l with
  | none => []
  | some r => (r.map.map fun e => beBytes 4 e.addr ++ beBytes 4 e.frame).flatten

/-- What MEDIA reports: all twenty records for 0xFF, else one with its file map; none is RANGE (R183). -/
def State.mediaResult (s : State) (loc : Byte) : Option (List Byte) :=
  if loc = 0xFF then
    some (20 :: ((List.range 20).map fun n =>
      match Loc.ofCode n with
      | some l => s.mediaRecord l
      | none => []).flatten)
  else
    match Loc.ofCode loc.toNat with
    | some l => some (1 :: s.mediaRecord l ++ s.mediaMap l)
    | none => none

/-- What GET_GOVERNOR reports (R133, R174). -/
def Gov.result (g : Gov) : List Byte :=
  g.pending.bytes ++ g.active.bytes ++ [flagByte g.armed] ++ beBytes 2 g.a.toNat ++ beBytes 1 g.l.toNat ++
    beBytes 1 g.evalCount

/-! ## Outbound frames (R170) -/

/-- The frame of a reply: the channel and tag of its request, flags 0 (R170). -/
def replyFrame (r : Reply) : OutFrame where
  kind := .reply
  chan := r.chan
  tag := r.tag
  flags := 0
  payload := r.payload

/-- The frame of a notice, with the LOST flag (R170, R177). -/
def noticeFrame (n : Notice) (lost : Bool) : OutFrame where
  kind := .notice
  chan := n.chan
  tag := 0
  flags := flagByte lost
  payload := n.payload

/-- The frame of a chunk or of a mark (R150, R170). -/
def dataFrame (t : Tr) (bytes : List Byte) (mark : Bool) : OutFrame where
  kind := .dataOut
  chan := .transport t
  tag := 0
  flags := flagByte mark
  payload := bytes

/-- Kind byte of an outbound frame (R170). -/
def OutKind.byte : OutKind → Byte
  | .reply => 2
  | .notice => 3
  | .dataOut => 5

/-- The bytes of an outbound frame on the lane (R170). -/
def OutFrame.bytes (f : OutFrame) : List Byte :=
  linkFrame f.kind.byte (chanCode f.chan) f.tag f.flags f.payload

end Sys2Proof.Machine
end

