-- ==== Sys2Proof/Machine/Jobs.lean ====
section
/-! DEFINITION. What every job shares (R51, R14, R103): its start, its end with the JOB_END notice, its cutting off by a
reset or a mechanism fault (R60, R68, R128, R167), map learning (R67) and the watch point (R164). -/

namespace Sys2Proof.Machine

/-- The kind of a job (R51). -/
def Job.kind : Job → JobKind
  | .load _ => .load
  | .unload => .unload
  | .rewind => .rewind
  | .label _ => .label
  | .write _ => .write
  | .read r => match r.spec with
    | .restore _ _ => .restore
    | .verify _ _ _ _ => .verify

/-- The running write job of a transport. -/
def Tc.writeJob (c : Tc) : Option WriteJob :=
  match c.job with
  | some (.write w) => some w
  | _ => none

/-- The running read job of a transport. -/
def Tc.readJob (c : Tc) : Option ReadJob :=
  match c.job with
  | some (.read r) => some r
  | _ => none

/-- The write job of t changed by f. -/
def State.modWrite (s : State) (t : Tr) (f : WriteJob → WriteJob) : State :=
  s.modTc t fun c =>
    match c.job with
    | some (.write w) => { c with job := some (.write (f w)) }
    | _ => c

/-- The read job of t changed by f. -/
def State.modRead (s : State) (t : Tr) (f : ReadJob → ReadJob) : State :=
  s.modTc t fun c =>
    match c.job with
    | some (.read r) => { c with job := some (.read (f r)) }
    | _ => c

/-! ## Raw bytes held (R110, R127, R128) -/

/-- Bytes of the chunks of an intake queue. -/
def intakeRaw (q : List IntakeItem) : Nat :=
  (q.map fun
    | .chunk bytes _ => bytes.length
    | .item _ => 0).sum

/-- Raw length of a block queue entry. -/
def QEntry.raw : QEntry → Nat
  | .block b => b.raw
  | .readBlock _ b _ => b.raw
  | _ => 0

/-- Raw length of an entry taken for writing. -/
def WEntry.raw (e : WEntry) : Nat :=
  match e.block with
  | some b => b.raw
  | none => 0

/-- Raw bytes that a context's work holds: slice buffer, current block, closed block (R103, R124). -/
def Ctx.raw (x : Ctx) : Nat :=
  x.slice.length + x.cur.raw + (match x.closed with | some b => b.raw | none => 0)

/-- Raw bytes of the entries of written frames (R114). -/
def framesRaw (fs : List WFrame) : Nat := (fs.map fun f => ((f.entry.map WEntry.raw).getD 0)).sum

/-- Raw bytes of a write job received and neither confirmed nor yet counted (R127, R128). -/
def State.heldRaw (s : State) (t : Tr) : Nat :=
  let c := s.tc t
  intakeRaw c.intake + (s.cx t).raw + (c.blockQ.map QEntry.raw).sum + framesRaw c.inflight +
    (c.rewrite.map WEntry.raw).sum +
    (match c.writeJob with
      | some w => (match w.inProgress with | some f => framesRaw [f] | none => 0)
      | none => 0)

/-! ## Start and end of a job -/

/-- A job starts: its context is cleared (R103), the record is bound to the transport (R14, R51). -/
def State.startJob (s : State) (t : Tr) (j : Job) (st : TcState) (d : Dir) : State :=
  let s1 := (s.clearCtx t d).modTc t fun c => { c.goto st with job := some j }
  s1.modBay t fun r => { r with binding := some t }

/-- What the report of a read job is made of: a job that accepted nothing has no reading, and its applied offset and end
address are free values (R165, R166; log entries 2, 17). -/
def State.readTold (s : State) (r : ReadJob) : ReadJob × State :=
  if r.start.isSome then (r, s)
  else
    let d := s.draw
    let e := d.2.draw
    ({ r with applied := d.1, x := e.1 }, e.2)

/-- The load count that a LOAD reports: that of the record in its bay, and a free value where none stands there (R55; log
entries 2, 57). A LOAD that ends without its update reports the count as it stands (log entry 68). -/
def State.loadCountTold (s : State) (t : Tr) : Nat × State :=
  match s.bayRecord t with
  | some r => (r.loadCount, s)
  | none => s.draw

/-- The report that a JOB_END carries, and the state with the free values drawn where some are (R55, R59, R127, R165,
R166; log entry 2). A LABEL that ends before its frames are written reports what it was to write (log entry 67), a LOAD
that ends without its update the record's label and load count as they stand (log entry 68). -/
def State.jobReport (s : State) (t : Tr) (j : Job) (result : JobResult) : List Byte × State :=
  match j with
  | .load l =>
    let n := s.loadCountTold t
    match l.finding with
    | some f => (loadReport (some f) ((s.bayRecord t).bind (·.label)) n.1 0, n.2)
    | none =>
      let d := n.2.draw
      (loadReport none none n.1 d.1, d.2)
  | .unload => ([], s)
  | .rewind => ([], s)
  | .label l => (labelReport l, s)
  | .write w => (writeReport w ((s.bayRecord t).bind s.estimate), s)
  | .read r =>
    let p := s.readTold r
    match r.spec with
    | .verify _ _ _ policy => (verifyReport p.1 policy result, p.2)
    | .restore _ _ => (restoreReport p.1 result, p.2)

/-- The JOB_END of a job, and the binding returned to none at the same event (R14, R51, R176). -/
def State.jobEnd (s : State) (t : Tr) (j : Job) (result : JobResult) (report : List Byte) : State :=
  (s.notify (.jobEnd t j.kind result report)).modBay t fun r => { r with binding := none }

/-- The running job of t ends with a result: the context is cleared (R103), the credits are voided and a waiting
CREDIT notice withdrawn (R110), then the JOB_END is queued (R123; log entry 32). A place in the notice queue that the
withdrawal frees goes to pending credits of the other transport first (R176; log entry 65). The caller has set the
transport state and updated the record. -/
def State.endJob (s : State) (t : Tr) (result : JobResult) : State :=
  match (s.tc t).job with
  | none => s
  | some j =>
    let s1 := ((s.clearCtx t .none).voidCredits t).modTc t fun c =>
      { c with job := none, locate := none, intake := [], blockQ := [], inflight := [], rewrite := [], delivery := [] }
    let r := s1.jobReport t j result
    r.2.jobEnd t j result r.1

/-- Bytes left in a comparison's intake at the end of its job are surplus (R158). -/
def ReadJob.leave (r : ReadJob) (intake : List IntakeItem) : ReadJob :=
  { r with surplus := r.surplus + intakeRaw intake }

/-- The read job of t, if any, counts what its intake still holds (R158). -/
def State.countSurplus (s : State) (t : Tr) : State := s.modRead t fun r => r.leave (s.tc t).intake

/-- What the report of a cut-off job still counts: a write job's bytes not on tape as discarded (R128), the bytes left
in a comparison's intake as surplus (R158). -/
def State.cutCounts (s : State) (t : Tr) (j : Job) : Job :=
  match j with
  | .write w => .write { w with rawDiscarded := w.rawDiscarded + s.heldRaw t }
  | .read r => .read (r.leave (s.tc t).intake)
  | j => j

/-- An OPEN EOD becomes UNKNOWN and dirty is set (R10, R13, R60, R69). -/
def CartRecord.closeOpen (r : CartRecord) : CartRecord :=
  match r.eod with
  | .opened => { r with eod := .unknown, dirty := true }
  | _ => r

/-- The running job of t is cut off, with the report as it stands (R60, R68): its JOB_END, then the queues and credits
emptied and the context cleared (log entries 31, 32). -/
def State.cutJob (s : State) (t : Tr) (result : JobResult) : State :=
  let s1 :=
    match (s.tc t).job with
    | none => s
    | some j =>
      let j1 := s.cutCounts t j
      let r := s.jobReport t j1 result
      r.2.jobEnd t j1 result r.1
  let s2 := s1.modTc t fun c =>
    { c with job := none, locate := none, intake := [], blockQ := [], inflight := [], rewrite := [], delivery := [] }
  ((s2.voidCredits t).clearCtx t .none).modBay t CartRecord.closeOpen

/-- A mechanism fault (R60): the tape stops, the transport goes to FAULTED, a running job ends. -/
def State.mechFault (s : State) (t : Tr) (result : JobResult) : State :=
  (s.cutJob t result).modTc t fun c => { c.goto .faulted with pos := none }

/-! ## Map learning and the watch point -/

/-- A mark accepted or confirmed is entered when its index is the map's length and below 64 (R11, R67, R115). -/
def CartRecord.learn (r : CartRecord) (k addr frame : Nat) : CartRecord :=
  if r.map.length = k ∧ k < Config.mapMax then { r with map := r.map ++ [{ addr, frame }] } else r

/-- A mark that a reading accepts is learned, and dirty set when it is entered (R67). -/
def CartRecord.learnRead (r : CartRecord) (k addr frame : Nat) : CartRecord :=
  if r.map.length = k ∧ k < Config.mapMax then { r.learn k addr frame with dirty := true } else r

/-- An accepted frame offered to map learning (R67). -/
def State.learn (s : State) (t : Tr) (i : ReadInfo) (mark : Bool) : State :=
  if mark then s.modBay t fun r => r.learnRead i.file i.addr i.frame else s

/-- The watch point tested against a confirmed or accepted frame (R164). -/
def State.watchTest (s : State) (t : Tr) (kind : JobKind) (mark : Bool) (addr file frame : Nat) : State :=
  match (s.tc t).watch with
  | .off => s
  | .marks => if mark then s.notify (.watchReached t kind addr mark file frame) else s
  | .address a =>
    if addr = a.toNat then
      (s.modTc t fun c => { c with watch := .off }).notify (.watchReached t kind addr mark file frame)
    else s

end Sys2Proof.Machine
end

