-- ==== Sys2Proof/Machine/Transport.lean ====
section
/-! DEFINITION. A transport apart from its streaming jobs (chapter 3, and the governor and watch requests): seating,
LOAD, UNLOAD, REWIND, LABEL, identification, mechanism events, TRANSPORT_RESET. -/

namespace Sys2Proof.Machine

/-! ## Replies of a transport's channel (R174) -/

/-- A DONE reply on a transport's channel. -/
def State.done (s : State) (t : Tr) (tag code : Byte) (result : List Byte) : State :=
  s.reply (.transport t) tag code (.done result)

/-- An ACCEPTED reply on a transport's channel. -/
def State.accept (s : State) (t : Tr) (tag code : Byte) : State :=
  s.reply (.transport t) tag code .accepted

/-- A REFUSED reply on a transport's channel. -/
def State.refuse (s : State) (t : Tr) (tag code : Byte) (why : Reason) : State :=
  s.reply (.transport t) tag code (.refused why)

/-! ## Seating (R52) -/

/-- MTB takes class and protect of a bay: written into the record that stands there, and held for the bay (R52). -/
def Mtb.seatBay (m : Mtb) (t : Tr) (v : BayValues) : Mtb :=
  (m.modify (.bay t) fun r => r.withBay (some v)).setBayValues t (some v)

/-- The running order's place at the bay of t learns that the transport has reached SEATED (R36). -/
def Chg.seatReached (c : Chg) (t : Tr) : Chg :=
  match c.step, c.queue with
  | some (.place r _), .move _ (.bay t') _ _ :: _ => if t' = t then { c with step := some (.place r true) } else c
  | _, _ => c

/-- A cartridge seats in an EMPTY bay (R52). -/
def State.seat (s : State) (t : Tr) (v : BayValues) : State :=
  ((s.modTc t fun c => { c.goto .seated with pos := none }).modMtb (·.seatBay t v)).modChg (·.seatReached t)

/-- The cartridge leaves its seat: EMPTY, no label count, no values held for the bay (R52, R55). -/
def State.unseat (s : State) (t : Tr) : State :=
  (s.modTc t fun c => { c.goto .empty with pos := none, labelCount := none }).modMtb (·.setBayValues t none)

/-- Threaded states: every state but EMPTY and SEATED (R52, R60; log entry 18). -/
def TcState.threaded : TcState → Bool
  | .empty => false
  | .seated => false
  | _ => true

/-! ## LOAD (R53 to R55) -/

/-- A LOAD starts (R53). -/
def State.startLoad (s : State) (t : Tr) : State := s.startJob t (.load {}) .threading .none

/-- A LOAD request (R51, R53). -/
def State.takeLoad (s : State) (t : Tr) (tag : Byte) : State :=
  if (s.tc t).st ≠ .seated then s.refuse t tag 0x20 .state
  else if s.chg.takeHold = some t then s.refuse t tag 0x20 .busy
  else (s.accept t tag 0x20).startLoad t

/-- An autoload handed over at a place: a LOAD without a reply, dropped unless the transport is SEATED (R37). -/
def State.autoload (s : State) (t : Tr) : State :=
  if (s.tc t).st = .seated ∧ s.chg.takeHold ≠ some t then s.startLoad t else s

/-- The tape is threaded (R53). -/
def State.threaded (s : State) (t : Tr) : State :=
  if (s.tc t).st = .threading then s.modTc t fun c => { c.goto .identifying with pos := some 0 } else s

/-- The finding that the first frame with a good header gives (R54). -/
def findingOf (f : ReadFrame) : Finding :=
  if kindOf f.hdr.kind = some .label then
    if f.hdr.malformed || !f.payGood || !isLabel (f.payload.take 12) then .noLabel true
    else .label (f.payload.take 12) (beNat ((f.payload.drop 13).take 4))
  else .noLabel false

/-- One frame read in identification (R54). -/
def LoadJob.readOne (j : LoadJob) (raw : RawFrame) : LoadJob :=
  match readFrame raw with
  | some f => { framesRead := j.framesRead + 1, finding := some (findingOf f) }
  | none =>
    { framesRead := j.framesRead + 1,
      finding := if Config.blankRun ≤ j.framesRead + 1 then some .blank else none }

/-- A frame read while no finding stands yet (R54); afterwards the tape rewinds. -/
def State.identify (s : State) (t : Tr) (raw : RawFrame) : State :=
  match (s.tc t).st, (s.tc t).job with
  | .identifying, some (.load j) =>
    if j.finding.isSome then s
    else s.modTc t fun c => { c.passed raw with job := some (.load (j.readOne raw)) }
  | _, _ => s

/-- What the successful end of a LOAD does to the record (R55, R7, R9). -/
def CartRecord.loaded (r : CartRecord) (f : Finding) : CartRecord :=
  let r1 := { r with loadCount := satAdd Config.max16 r.loadCount 1, dirty := true }
  match f with
  | .label cs _ =>
    let tape : Option Label := some { chars := cs, source := .tape }
    match r.label with
    | none => { r1 with label := tape, mismatch := false }
    | some l =>
      if l.chars = cs then { r1 with label := tape, mismatch := false }
      else { r1 with label := tape, mismatch := true, eod := .unknown, map := [], rawTotal := 0, codedTotal := 0 }
  | _ => r1

/-- The label count a LOAD leaves with the transport (R55). -/
def Finding.count : Finding → Option Nat
  | .label _ n => some n
  | _ => none

/-- A LOAD ends OK at its rewind (R54, R55): the report carries how the record's label stood before, absent where no
record stands in the bay (log entry 57). -/
def State.endLoad (s : State) (t : Tr) (f : Finding) : State :=
  let held := (s.bayRecord t).bind (·.label)
  let s1 := s.modTc t fun c => { c.goto .ready with pos := some 0, labelCount := f.count }
  let s2 := s1.modMtb fun m => (m.modify (.bay t) fun r => r.loaded f).settle
  let n := ((s2.clearCtx t .none).modTc t fun c => { c with job := none }).loadCountTold t
  n.2.jobEnd t (.load { finding := some f }) .ok (loadReport (some f) held n.1 0)

/-! ## UNLOAD and REWIND (R56, R57) -/

/-- An UNLOAD request (R51, R56). -/
def State.takeUnload (s : State) (t : Tr) (tag : Byte) : State :=
  match (s.tc t).st with
  | .ready | .adrift | .faulted => (s.accept t tag 0x21).startJob t .unload .rewinding .none
  | _ => s.refuse t tag 0x21 .state

/-- A REWIND request (R51, R57). -/
def State.takeRewind (s : State) (t : Tr) (tag : Byte) : State :=
  match (s.tc t).st with
  | .ready | .adrift => (s.accept t tag 0x22).startJob t .rewind .rewinding .none
  | _ => s.refuse t tag 0x22 .state

/-- The tape is unthreaded: SEATED, and the UNLOAD ends OK (R56). -/
def State.unthreaded (s : State) (t : Tr) : State :=
  if (s.tc t).st = .unthreading then
    (s.modTc t fun c => { c.goto .seated with pos := none }).endJob t .ok
  else s

/-! ## LABEL (R58, R59) -/

/-- Whether another record holds a label equal to this one (R6). -/
def Mtb.labelHeld (m : Mtb) (own : Loc) (cs : List Byte) : Bool :=
  (List.finRange 20).any fun j =>
    decide (j ≠ own.idx) && (match m.entries[j].bind (·.label) with
      | some l => decide (l.chars = cs)
      | none => false)

/-- The label count that a LABEL job writes (R58, R75). -/
def nextLabelCount : Option Nat → Nat
  | none => 1
  | some n => satAdd Config.max32 n 1

/-- The protect tab of the cartridge in t's bay, as its record holds it (R8). -/
def State.protectOf (s : State) (t : Tr) : Option Protect := (s.bayRecord t).bind (·.protect)

/-- A LABEL request (R51, R58). -/
def State.takeLabel (s : State) (t : Tr) (tag : Byte) (cs : List Byte) : State :=
  if (s.tc t).st ≠ .ready then s.refuse t tag 0x23 .state
  else if !isLabel cs then s.refuse t tag 0x23 .range
  else if s.protectOf t ≠ some .clear then s.refuse t tag 0x23 .writeProtected
  else if s.mtb.labelHeld (.bay t) cs then s.refuse t tag 0x23 .duplicate
  else
    (s.accept t tag 0x23).startJob t
      (.label { chars := cs, count := nextLabelCount (s.tc t).labelCount, cls := s.classOf t }) .rewinding .none

/-- The payload of a LABEL frame (R75). -/
def LabelJob.payload (j : LabelJob) : List Byte := j.chars ++ [CartClass.byte j.cls] ++ beBytes 4 j.count

/-- Frame 0 of a LABEL job (R58, R74). -/
def LabelJob.frame0 (j : LabelJob) : WFrame where
  hdr := mkHeader .label 0 0 Config.max32 0 0 0 j.payload
  payload := j.payload
  entry := none
  fromRewrite := false

/-- Frame 1 of a LABEL job: an EOD frame with address 0 and file number 0 (R58). -/
def labelEod : WFrame where
  hdr := mkHeader .eod 0 1 0 0 0 0 []
  payload := []
  entry := none
  fromRewrite := false

/-- A rewind completes (R50, R54, R56, R57, R58). -/
def State.rewound (s : State) (t : Tr) : State :=
  match (s.tc t).st, (s.tc t).job with
  | .rewinding, some .rewind => (s.modTc t fun c => { c.goto .ready with pos := some 0 }).endJob t .ok
  | .rewinding, some .unload => s.modTc t fun c => { c.goto .unthreading with pos := some 0 }
  | .rewinding, some (.label j) =>
    s.modTc t fun c =>
      { c.goto .writing with pos := some 0, job := some (.label { j with inProgress := some j.frame0 }) }
  | .identifying, some (.load j) =>
    match j.finding with
    | some f => s.endLoad t f
    | none => s
  | _, _ => s

/-- Whether a rewind is in progress (R54, R56, R57). -/
def Tc.rewindRuns (c : Tc) : Bool :=
  match c.st, c.job with
  | .rewinding, _ => true
  | .identifying, some (.load j) => j.finding.isSome
  | _, _ => false

/-- A frame of a LABEL job is written: the EOD frame follows the LABEL frame (R58). -/
def State.labelWritten (s : State) (t : Tr) (j : LabelJob) : State :=
  match j.inProgress with
  | none => s
  | some f =>
    s.modTc t fun c =>
      { c with
        pos := some (f.hdr.frame + 1)
        inflight := c.inflight ++ [f]
        job := some (.label { j with inProgress := if f.hdr.frame = 0 then some labelEod else none }) }

/-- What the successful end of a LABEL job does to the record (R59). -/
def CartRecord.labelled (r : CartRecord) (cs : List Byte) : CartRecord :=
  { r with
    label := some { chars := cs, source := .tape }
    mismatch := false
    eod := .known 0 1 0
    map := []
    rawTotal := 0
    codedTotal := 0
    dirty := true }

/-- A read-back result of a LABEL job; at the second, the job ends (R58, R59). -/
def State.labelResult (s : State) (t : Tr) (j : LabelJob) (f : WFrame) (raw : RawFrame) : State :=
  let j1 := { j with results := j.results + 1, bad := j.bad || !judge f.hdr raw }
  let s1 := s.modTc t fun c => { c with inflight := c.inflight.tail, job := some (.label j1) }
  if j1.results < 2 then s1
  else if j1.bad then
    (s1.modTc t fun c => { c.goto .ready with labelCount := none }).endJob t .writeFault
  else
    let s2 := s1.modTc t fun c => { c.goto .ready with labelCount := some j.count }
    (s2.modMtb fun m => (m.modify (.bay t) fun r => r.labelled j.chars).settle).endJob t .ok

/-! ## Governor and watch requests (R130 to R133, R163) -/

/-- A SET_GOVERNOR request (R130). -/
def State.takeSetGovernor (s : State) (t : Tr) (tag : Byte) (b : GovBytes) : State :=
  let p := clampSettings b
  if p.lmax < p.lmin then s.refuse t tag 0x2A .range
  else
    (s.modTc t fun c => { c with gov := { c.gov with pending := p } }).done t tag 0x2A p.bytes

/-- What an APPLY does to a transport: armed while the governor is engaged, else moved at once (R131). -/
def Tc.applied (c : Tc) : Tc :=
  if c.engaged then { c with gov := { c.gov with armed := true } } else { c with gov := c.gov.move }

/-- An APPLY request (R131): the answer tells whether the copy moved at once (1) or is armed (2). -/
def State.takeApply (s : State) (t : Tr) (tag : Byte) : State :=
  (s.modTc t Tc.applied).done t tag 0x2B [if (s.tc t).engaged then 2 else 1]

/-- A GET_GOVERNOR request (R133). -/
def State.takeGetGovernor (s : State) (t : Tr) (tag : Byte) : State :=
  s.done t tag 0x2C (s.tc t).gov.result

/-- A WATCH request (R163). -/
def State.takeWatch (s : State) (t : Tr) (tag : Byte) (w : WatchPoint) : State :=
  if w = .address 0xFFFFFFFF#32 then s.refuse t tag 0x2D .range
  else (s.modTc t fun c => { c with watch := w }).done t tag 0x2D []

/-! ## TRANSPORT_RESET (R68, R69, R143) -/

/-- The state that the bay sensors give (R69, R70). -/
def senseState (b : BaySense) : TcState :=
  if b.tapeOut then .adrift else if b.seated then .seated else .empty

/-- What follows from the state that a reset leaves (R69): a cartridge lost without the picker, a cartridge unseated
or seated unseen (log entry 34). -/
def State.settleBay (s : State) (t : Tr) (was : TcState) (b : BaySense) : State :=
  match (senseState b) with
  | .empty =>
    let s1 := s.unseat t
    if was.threaded then s1.modMtb (·.remove (.bay t)) else s1
  | .seated => if was = .empty then s.seat t { cls := b.cls, protect := b.protect } else s
  | _ => s

/-- What a TRANSPORT_RESET does, apart from its reply (R68, R69, R143). -/
def State.resetTransport (s : State) (t : Tr) (b : BaySense) : State :=
  let was := (s.tc t).st
  let s1 := s.cutJob t .reset
  let s2 := s1.modTc t fun c => { c.goto (senseState b) with pos := none, watch := .off }
  let s3 := s2.settleBay t was b
  s3.modTc t fun c => { c with gov := c.gov.afterReset }

/-- A TRANSPORT_RESET request (R68). -/
def State.takeTransportReset (s : State) (t : Tr) (tag : Byte) (b : BaySense) : State :=
  (s.done t tag 0x2E []).resetTransport t b

end Sys2Proof.Machine
end

