-- ==== Sys2Proof/Machine/Changer.lean ====
section
/-! DEFINITION. The changer and the note reader (chapter 2, and the note operations of chapter 1): orders and their
steps, the doors, the hand, the resets. -/

namespace Sys2Proof.Machine

/-! ## Replies and orders -/

/-- A reply on the changer's channel (R174). -/
def State.chgReply (s : State) (tag code : Byte) (b : ReplyBody) : State := s.reply .changer tag code b

/-- Whether an order names M (R44). -/
def Order.namesMail : Order → Bool
  | .move src dst _ _ => decide (src = .mail) || decide (dst = .mail)
  | .scan f l => decide (f ≤ 16) && decide (16 ≤ l)

/-- The mail lock recomputed from the queue (R44). -/
def Chg.relock (c : Chg) : Chg := { c with mailLock := c.queue.any Order.namesMail }

/-- Where an order is to grip: its source, or the location a SCAN has reached. -/
def Chg.gripLoc (c : Chg) : Order → Loc
  | .move src _ _ _ => src
  | .scan _ _ => scanLoc c.scanAt

/-- Where an order is to place: its destination, or the location a SCAN has reached (R38). -/
def Chg.placeLoc (c : Chg) : Order → Loc
  | .move _ dst _ _ => dst
  | .scan _ _ => scanLoc c.scanAt

/-- Where the record of the gripped cartridge stands: H for a MOVE, the scanned location for a SCAN (R1). -/
def Chg.heldLoc (c : Chg) : Order → Loc
  | .move _ _ _ _ => .hand
  | .scan _ _ => scanLoc c.scanAt

/-- Whether an order is a SCAN. -/
def Order.isScan : Order → Bool
  | .scan _ _ => true
  | .move _ _ _ _ => false

/-- The state in which the changer rests with an empty queue (R26). -/
def Chg.rest (c : Chg) : ChgState := if c.hand = .holding then .held else .idle

/-! ## The end of orders (R28) -/

/-- Where the record of a running MOVE stands, by the step reached (R28). -/
def stepLoc (src : Loc) : OrderStep → Loc
  | .travelSource | .senseSource | .waitBay _ | .waitMailSource | .grip => src
  | .note | .travelDest | .senseDest | .waitMailDest | .place _ _ => .hand

/-- The MOVE_END of an order; a MOVE that had started reports the record at `loc`, a SCAN its counts (R28). -/
def State.moveEndOf (s : State) (o : Order) (res : MoveResult) (loc : Option Loc) (started : Bool) : MoveEnd :=
  let r := loc.bind s.mtb.get
  { order := o
    result := res
    loc := if r.isSome then loc else none
    label := (r.bind (·.label)).map (·.chars)
    noteState := r.map (·.noteState)
    counts := if o.isScan && started then some (s.chg.visited, s.chg.notesRead) else none }

/-- The head order ends with a result and leaves the queue; `loc` is where a MOVE's record stands (R28, R44). -/
def State.endHead (s : State) (res : MoveResult) (loc : Option Loc) : State :=
  match s.chg.queue with
  | [] => s
  | o :: rest =>
    let s1 := s.notify (.moveEnd (s.moveEndOf o res (if o.isScan then none else loc) true))
    s1.modChg fun c =>
      { c with queue := rest, step := none, scanAt := 0, visited := 0, notesRead := 0, noteFault := false }.relock

/-- The head order ends where its step has left the record (R28). -/
def State.endRunning (s : State) (res : MoveResult) : State :=
  match s.chg.queue, s.chg.step with
  | .move src _ _ _ :: _, some st => s.endHead res (some (stepLoc src st))
  | _, _ => s.endHead res none

/-- Orders that have not started are ended CANCELLED, in queue order (R28, R45). -/
def State.cancelOrders (s : State) (os : List Order) : State :=
  os.foldl (fun acc o => acc.notify (.moveEnd (acc.moveEndOf o .cancelled none false))) s

/-- Every order left in the queue is ended CANCELLED (R28, R44). -/
def State.cancelRest (s : State) : State :=
  (s.cancelOrders s.chg.queue).modChg fun c => { c with queue := [], step := none }.relock

/-- The changer goes to a state. -/
def State.chgGoto (s : State) (st : ChgState) : State := s.modChg fun c => { c with st }

/-- The next order may start, or the changer rests (R26); the start itself is made at the end of the event. -/
def State.chgNext (s : State) : State := s.chgGoto .running

/-- A mechanism fault of the changer: the running order ends, the queue is cancelled, FAULTED (R29, R33, R36). -/
def State.chgFault (s : State) (res : MoveResult) : State := ((s.endRunning res).cancelRest).chgGoto .faulted

/-! ## Sources (R29 to R32) -/

/-- The order proceeds to the grip; at a bay it places its take-hold first (R31, R33). -/
def State.beginGrip (s : State) (l : Loc) : State :=
  s.modChg fun c =>
    { c with
      st := .running
      step := some .grip
      takeHold := match l with | .bay t => some t | _ => c.takeHold }

/-- The source is found empty: a record standing there is removed, and the MOVE ends SOURCE_EMPTY (R30; log entry
38). -/
def State.sourceEmpty (s : State) (l : Loc) : State :=
  ((if (s.mtb.get l).isSome then s.modMtb (·.remove l) else s).endHead .sourceEmpty (some l)).chgNext

/-- The picker stands at a bay that is the source (R30, R31). -/
def State.readBay (s : State) (t : Tr) : State :=
  match (s.tc t).st with
  | .empty => s.sourceEmpty (.bay t)
  | .seated => s.beginGrip (.bay t)
  | _ => s.modChg fun c => { c with st := .waitBay, step := some (.waitBay t) }

/-- The picker stands at a source or scanned location (R30, R32, R38). -/
def State.arriveSource (s : State) (l : Loc) : State :=
  match l with
  | .bay t => s.readBay t
  | .mail =>
    if s.chg.mailOpen then s.modChg fun c => { c with st := .waitMail, step := some .waitMailSource }
    else s.modChg fun c => { c with st := .running, step := some .senseSource }
  | _ => s.modChg fun c => { c with st := .running, step := some .senseSource }

/-- A travel step to a source or scanned location; it ends at its start when the picker stands there (R29). -/
def State.travelSource (s : State) (l : Loc) : State :=
  if s.chg.picker = .atLoc l then s.arriveSource l
  else s.modChg fun c => { c with st := .running, step := some .travelSource, picker := .inTravel }

/-! ## Destinations (R35, R36) -/

/-- The place begins (R36). -/
def State.beginPlace (s : State) : State :=
  s.modChg fun c => { c with st := .running, step := some (.place false false) }

/-- An occupied destination: the cartridge stays in the hand, the queue is cancelled, HELD (R35). -/
def State.destOccupied (s : State) : State := ((s.endHead .destOccupied (some .hand)).cancelRest).chgGoto .held

/-- The destination is sensed (R35): a bay is occupied unless its transport is EMPTY. -/
def State.senseDest (s : State) (l : Loc) (present : Bool) : State :=
  let occupied : Bool :=
    match l with
    | .bay t => decide ((s.tc t).st ≠ .empty)
    | _ => present
  if occupied then s.destOccupied else s.beginPlace

/-- The picker stands at the destination (R32, R35). -/
def State.arriveDest (s : State) (l : Loc) (present : Bool) : State :=
  if l = .mail ∧ s.chg.mailOpen then s.modChg fun c => { c with st := .waitMail, step := some .waitMailDest }
  else s.senseDest l present

/-- A travel step to the destination (R29); when the picker stands there already, the destination is still to be
sensed (R35; log entry 11). -/
def State.travelDest (s : State) (l : Loc) : State :=
  if s.chg.picker = .atLoc l then
    match l with
    | .bay _ => s.arriveDest l false
    | .mail =>
      if s.chg.mailOpen then s.arriveDest l false
      else s.modChg fun c => { c with st := .running, step := some .senseDest }
    | _ => s.modChg fun c => { c with st := .running, step := some .senseDest }
  else s.modChg fun c => { c with st := .running, step := some .travelDest, picker := .inTravel }

/-! ## Starting orders (R26, R30) -/

/-- The head order starts (R29, R30, R38); for a source H the grip sensor is read before any travel (log entry 10). -/
def State.beginHead (s : State) : State :=
  match s.chg.queue with
  | [] => s
  | .move src _ _ _ :: _ =>
    if src = .hand then s.arriveSource .hand else s.travelSource src
  | .scan f _ :: _ =>
    (s.modChg fun c => { c with scanAt := f, visited := 0, notesRead := 0 }).travelSource (scanLoc f)

/-- While no order is running the next one starts; with an empty queue the changer rests (R26, R28). The argument
bounds the orders that end at once. -/
def State.chgDriveN : Nat → State → State
  | 0, s => s
  | n + 1, s =>
    if s.chg.st = .running ∧ s.chg.step = none then
      match s.chg.queue with
      | [] => s.chgGoto s.chg.rest
      | _ => State.chgDriveN n s.beginHead
    else s

/-- R26's start of the next order, at the end of an event. -/
def State.chgDrive (s : State) : State := State.chgDriveN (s.chg.queue.length + 1) s

/-- An order in WAIT_BAY takes the state of its transport (R31). -/
def State.chgWatch (s : State) : State :=
  match s.chg.st, s.chg.step with
  | .waitBay, some (.waitBay t) =>
    match (s.tc t).st with
    | .seated => s.beginGrip (.bay t)
    | .empty => s.sourceEmpty (.bay t)
    | _ => s
  | _, _ => s

/-- A SCAN goes on to its next location, or ends OK (R38, R39). -/
def State.scanNext (s : State) (last : Nat) : State :=
  if last ≤ s.chg.scanAt then (s.endHead .ok none).chgNext
  else
    let s1 := s.modChg fun c => { c with scanAt := c.scanAt + 1, st := .running, step := none }
    s1.travelSource (scanLoc s1.chg.scanAt)

/-! ## Requests (R27, R45, R46) -/

/-- Whether a MOVE may be accepted from a bay (R27). -/
def State.bayMayGive (s : State) : Loc → Bool
  | .bay t =>
    decide ((s.tc t).st = .seated) || (match (s.tc t).job with | some .unload => true | _ => false)
  | _ => true

/-- States in which MOVE and SCAN are refused (R27). -/
def ChgState.refuses : ChgState → Bool
  | .homing | .halted | .faulted => true
  | _ => false

/-- An order joins the queue, and starts at once in IDLE and HELD (R27, R44). -/
def State.queueOrder (s : State) (o : Order) : State :=
  s.modChg fun c =>
    { c with
      queue := c.queue ++ [o]
      st := if c.st = ChgState.idle ∨ c.st = ChgState.held then .running else c.st }.relock

/-- The order that a MOVE asks for, when its codes are in range (R27). -/
def moveOrder (src dst : Byte) (autoload : Bool) (tag : Half) : Option Order :=
  match Loc.ofCode src.toNat, Loc.ofCode dst.toNat with
  | some a, some b => if b = .hand ∨ a = b then none else some (.move a b autoload tag)
  | _, _ => none

/-- A MOVE request (R27). -/
def State.takeMove (s : State) (tag : Byte) (src dst : Byte) (autoload : Bool) (orderTag : Half) : State :=
  match moveOrder src dst autoload orderTag with
  | none => s.chgReply tag 0x10 (.refused .range)
  | some o =>
    if s.chg.st.refuses then s.chgReply tag 0x10 (.refused .state)
    else if s.chg.st = .held ∧ s.chg.gripLoc o ≠ .hand then s.chgReply tag 0x10 (.refused .state)
    else if !s.bayMayGive (s.chg.gripLoc o) then s.chgReply tag 0x10 (.refused .state)
    else if Config.orderMax ≤ s.chg.queue.length then s.chgReply tag 0x10 (.refused .queueFull)
    else (s.chgReply tag 0x10 .accepted).queueOrder o

/-- A SCAN request (R27). -/
def State.takeScan (s : State) (tag : Byte) (first last : Byte) : State :=
  if 16 < first.toNat ∨ 16 < last.toNat ∨ last.toNat < first.toNat then s.chgReply tag 0x11 (.refused .range)
  else if s.chg.st.refuses ∨ s.chg.st = .held then s.chgReply tag 0x11 (.refused .state)
  else if Config.orderMax ≤ s.chg.queue.length then s.chgReply tag 0x11 (.refused .queueFull)
  else (s.chgReply tag 0x11 .accepted).queueOrder (.scan first.toNat last.toNat)

/-- The orders that have not started: those behind a running head (R45). -/
def Chg.waitingOrders (c : Chg) : List Order := if c.step.isSome then c.queue.tail else c.queue

/-- A CANCEL request (R45). -/
def State.takeCancel (s : State) (tag : Byte) : State :=
  if s.chg.st = .faulted then s.chgReply tag 0x12 (.refused .state)
  else
    let os := s.chg.waitingOrders
    ((s.chgReply tag 0x12 (.done (beBytes 1 os.length))).cancelOrders os).modChg fun c =>
      { c with queue := if c.step.isSome then c.queue.take 1 else [] }.relock

/-! ## Interruption (R24, R39, R40, R46) -/

/-- A note write that did not complete leaves its record's note state INVALID (R23, R24). -/
def State.noteInvalid (s : State) (o : Order) : State :=
  s.modMtb fun m => m.modify (s.chg.heldLoc o) fun r => { r with noteState := .invalid }

/-- A note operation in progress is ended, and the image discarded (R24). -/
def State.cutNote (s : State) : State :=
  match s.chg.queue, s.chg.noteOp with
  | o :: _, some (.write _ _) => (s.noteInvalid o).modChg fun c => { c with noteOp := none, image := none }
  | _, some _ => s.modChg fun c => { c with noteOp := none, image := none }
  | _, none => s

/-- What a cut-off step leaves of the hand contents (R39, R40, R46). -/
def Chg.cutHand (c : Chg) : Hand :=
  match c.queue, c.step with
  | o :: _, some .grip => .unsettledGrip (c.gripLoc o)
  | o :: _, some (.place _ _) => .unsettledPlace (c.placeLoc o)
  | o :: _, some .note => if o.isScan then .unsettledPlace (c.placeLoc o) else c.hand
  | _, _ => c.hand

/-- The running order, if any, is cut off with a result, and the queued orders are cancelled (R28, R40, R46). -/
def State.cutOrders (s : State) (res : MoveResult) : State :=
  let s1 := s.cutNote
  let h := s1.chg.cutHand
  let s2 := if s1.chg.step.isSome then s1.endRunning res else s1
  (s2.modChg fun c => { c with hand := h }).cancelRest

/-- A homing starts (R47). -/
def State.startHoming (s : State) : State :=
  s.modChg fun c => { c with st := .homing, picker := .inTravel, homingOwed := false }

/-- A CHANGER_RESET request (R46). -/
def State.takeChangerReset (s : State) (tag : Byte) : State :=
  let s1 := (s.chgReply tag 0x13 (.done [])).cutOrders .reset
  if s1.chg.mainOpen then s1.modChg fun c => { c with st := .halted, homingOwed := true } else s1.startHoming

/-! ## Note operations (R16 to R23, R34, R38) -/

/-- The note step has ended: a MOVE travels on, a SCAN pushes the cartridge back (R34, R38). -/
def State.noteDone (s : State) : State :=
  let s1 := s.modChg fun c => { c with noteOp := none }
  match s1.chg.queue with
  | .move _ dst _ _ :: _ => s1.travelDest dst
  | .scan _ _ :: _ => s1.beginPlace
  | [] => s1

/-- The note operation that the record at the grip calls for (R17). -/
def State.startNote (s : State) (l : Loc) (r : CartRecord) : State :=
  match noteChoice r with
  | .read => s.modChg fun c => { c with step := some .note, noteOp := some .read }
  | .write =>
    s.modChg fun c =>
      { c with step := some .note, noteOp := some (.write r .unlock), image := some (composeNote r) }
  | .clearDirty => (s.modMtb fun m => m.modify l fun r => { r with dirty := false }).noteDone
  | .nothing => s.noteDone

/-- The transport of a bay takes its unseating at the grip, and the take-hold is removed (R33). -/
def State.gripUnseats (s : State) : Loc → State
  | .bay t =>
    (if (s.tc t).st = .seated then s.unseat t else s).modChg fun c => { c with takeHold := none }
  | _ => s

/-- A record created for a cartridge found without one (R1, R2). -/
def State.createRecord (s : State) (l : Loc) : State :=
  if (s.mtb.get l).isSome then s else s.modMtb fun m => m.put l (some {})

/-- The grip is confirmed (R17, R33, R38). -/
def State.gripped (s : State) : State :=
  match s.chg.step, s.chg.queue with
  | some .grip, o :: _ =>
    let l := s.chg.heldLoc o
    let s1 := if o.isScan then s else s.passRecord (s.chg.gripLoc o) l
    let s2 := ((s1.createRecord l).gripUnseats (s.chg.gripLoc o)).modChg fun c => { c with hand := .holding }
    match s2.mtb.get l with
    | some r => s2.startNote l r
    | none => s2
  | _, _ => s

/-- The page that NRD is sending to the note memory, with its bytes (R22). -/
def Chg.pageSent (c : Chg) : Option (Nat × List Byte) :=
  match c.noteOp, c.image with
  | some (.write _ st), some img => st.carries img
  | _, _ => none

/-- The next step of a note write (R22). -/
def WriteStep.next : WriteStep → WriteStep
  | .unlock => .pageClear
  | .pageClear => .page 1
  | .page n => if n < 63 then .page (n + 1) else .pageSet
  | .pageSet => .readBack
  | .readBack => .readBack

/-- The unlock or a page completes (R22). -/
def State.pageDone (s : State) : State :=
  match s.chg.noteOp with
  | some (.write r st) => s.modChg fun c => { c with noteOp := some (.write r st.next) }
  | _ => s

/-- Whether MTB took a change for the record since the grip (R21, R23; log entry 30). -/
def changedSince (grip now : CartRecord) : Bool :=
  decide ({ grip with duplicate := false } ≠ { now with duplicate := false })

/-- A note write ends well: VALID, and clean unless a change came meanwhile (R23). -/
def CartRecord.noteWritten (r grip : CartRecord) : CartRecord :=
  { r with noteState := .valid, dirty := changedSince grip r }

/-- A note write has failed: INVALID, dirty stays, and a MOVE will report it (R23, R34). -/
def State.noteFailed (s : State) : State :=
  match s.chg.queue with
  | o :: _ => ((s.noteInvalid o).modChg fun c => { c with noteFault := !o.isScan }).noteDone
  | [] => s

/-- A note read completes (R18, R20, R22, R23, R38). The read back of a write is compared with the image and does not
replace it (log entry 48). -/
def State.noteRead (s : State) (image : Option (List Byte)) : State :=
  match s.chg.queue, s.chg.noteOp with
  | o :: _, some .read =>
    let s1 := s.modMtb fun m => (m.put (s.chg.heldLoc o) (some (rebuild image))).settle
    (s1.modChg fun c =>
      { c with image, notesRead := if o.isScan then c.notesRead + 1 else c.notesRead }).noteDone
  | o :: _, some (.write r .readBack) =>
    if image.isSome ∧ image = s.chg.image then
      (s.modMtb fun m => m.modify (s.chg.heldLoc o) fun now => now.noteWritten r).noteDone
    else s.noteFailed
  | _, _ => s

/-- A note write timeout (R22, R23). -/
def State.noteTimeout (s : State) : State :=
  match s.chg.noteOp with
  | some (.write _ .readBack) => s
  | some (.write _ _) => s.noteFailed
  | _ => s

/-! ## Picker events (R29, R30, R36, R38) -/

/-- The picker reports its arrival (R29), with the presence sensor of the location reached (R35). -/
def State.arrived (s : State) (present : Bool) : State :=
  match s.chg.step, s.chg.queue with
  | some .travelSource, o :: _ =>
    let l := s.chg.gripLoc o
    (s.modChg fun c => { c with picker := .atLoc l }).arriveSource l
  | some .travelDest, o :: _ =>
    let l := s.chg.placeLoc o
    (s.modChg fun c => { c with picker := .atLoc l }).arriveDest l present
  | _, _ => s

/-- A travel step is not reported in time (R29). -/
def State.travelLost (s : State) : State :=
  match s.chg.step with
  | some .travelSource | some .travelDest =>
    (s.chgFault .travelFault).modChg fun c => { c with picker := .inTravel }
  | _ => s

/-- Whether a SCAN reads the note of a cartridge it senses (R38). -/
def needsReading : Option CartRecord → Bool
  | none => true
  | some r => decide (r.presence = .unknown) || decide (r.noteState = .unread)

/-- A SCAN acts on what it sensed (R2, R38; log entry 42). -/
def State.scanSensed (s : State) (last : Nat) (present : Bool) : State :=
  let l := scanLoc s.chg.scanAt
  let s1 := s.modChg fun c => { c with visited := c.visited + 1 }
  if present then
    if needsReading (s1.mtb.get l) then (s1.createRecord l).beginGrip l else s1.scanNext last
  else (if (s1.mtb.get l).isSome then s1.modMtb (·.remove l) else s1).scanNext last

/-- The grip sensor is read for a MOVE from H (R30; log entry 10): the order goes on to its destination with the
cartridge held, or finds the hand empty, which holds no image then (log entry 47). -/
def State.handSensed (s : State) (dst : Loc) (present : Bool) : State :=
  if present then (s.modChg fun c => { c with hand := .holding }).travelDest dst
  else (s.modChg fun c => { c with hand := .empty, image := none }).sourceEmpty .hand

/-- Presence is sensed (R30, R35, R38). -/
def State.sensed (s : State) (present : Bool) : State :=
  match s.chg.step, s.chg.queue with
  | some .senseSource, .move src dst _ _ :: _ =>
    if src = .hand then s.handSensed dst present
    else if present then s.beginGrip src
    else s.sourceEmpty src
  | some .senseSource, .scan _ last :: _ => s.scanSensed last present
  | some .senseDest, o :: _ => s.senseDest (s.chg.placeLoc o) present
  | _, _ => s

/-- A grip is not confirmed in time (R33, R39). -/
def State.gripLost (s : State) : State :=
  match s.chg.step, s.chg.queue with
  | some .grip, o :: _ =>
    let l := s.chg.gripLoc o
    (s.chgFault .gripFault).modChg fun c => { c with hand := .unsettledGrip l }
  | _, _ => s

/-- The place of a MOVE is confirmed: the record passes, the order ends, an autoload may be handed over, before the next
order starts (R36, R37; log entry 56). Where H holds no record the destination's entry stays as it is, and the MOVE_END tells
what it holds (log entry 66). -/
def State.placedMove (s : State) (dst : Loc) (autoload : Bool) : State :=
  let s1 := (s.passRecord .hand dst).modChg fun c => { c with hand := .empty, image := none }
  let s2 := (s1.endHead (if s.chg.noteFault then .noteWriteFault else .ok) (some dst)).chgNext
  match dst with
  | .bay t => if autoload then s2.autoload t else s2
  | _ => s2

/-- The place is confirmed (R36, R38). -/
def State.placed (s : State) : State :=
  match s.chg.queue with
  | .move _ dst auto _ :: _ => s.placedMove dst auto
  | .scan _ last :: _ => (s.modChg fun c => { c with hand := .empty, image := none }).scanNext last
  | [] => s

/-- Whether a place at a bay is confirmed: the hand empty and the transport SEATED since the place began (R36). -/
def Chg.placeDone (c : Chg) : Bool :=
  match c.step, c.queue with
  | some (.place released seated), .move _ (.bay _) _ _ :: _ => released && seated
  | some (.place released _), _ => released
  | _, _ => false

/-- The place ends once it is confirmed (R36). -/
def State.placeTest (s : State) : State := if s.chg.placeDone then s.placed else s

/-- The grip sensor shows the hand empty in a place (R36; log entry 12). -/
def State.released (s : State) : State :=
  match s.chg.step with
  | some (.place _ seated) => (s.modChg fun c => { c with step := some (.place true seated) }).placeTest
  | _ => s

/-- A place is not confirmed in time (R36, R39). Whether the hand has released the cartridge, and with it the image, is
found when the hand is settled (log entry 47). -/
def State.placeLost (s : State) : State :=
  match s.chg.step, s.chg.queue with
  | some (.place _ _), o :: _ =>
    let l := s.chg.placeLoc o
    (s.chgFault .placeFault).modChg fun c => { c with hand := .unsettledPlace l }
  | _, _ => s

/-- The WAIT_BAY timer expires (R31). -/
def State.bayLost (s : State) : State :=
  if s.chg.st = .waitBay then (s.endRunning .bayTimeout).chgNext else s

/-- The WAIT_MAIL timer expires (R32). -/
def State.mailLost (s : State) : State :=
  if s.chg.st = .waitMail then
    match s.chg.step with
    | some .waitMailDest => ((s.endRunning .mailTimeout).cancelRest).chgGoto .held
    | _ => (s.endRunning .mailTimeout).chgNext
  else s

/-! ## Settling the hand (R42) -/

/-- What a settled hand does to the records (R42). A cartridge held after a scan's place takes the record of the scanned
location, and none where that has lost its record (log entry 49), and so does one held after the place of a MOVE whose
record H has lost (log entry 60); the other combinations that R42 does not list are log entry 37. -/
def State.settleRecords (s : State) (h : Hand) (grip : Bool) : State :=
  match h, grip, (s.mtb.get .hand).isSome with
  | .unsettledGrip l, true, false => (s.passRecord l .hand).createRecord .hand
  | .unsettledPlace l, false, true => s.passRecord .hand l
  | .unsettledPlace l, true, false => s.passRecord l .hand
  | _, _, _ => s

/-- An unsettled hand is settled from the grip sensor; a take-hold is removed (R42), and the image is discarded with a
hand found empty (R16; log entry 47). -/
def State.settleHand (s : State) (grip : Bool) : State :=
  match s.chg.hand with
  | .unsettledGrip _ | .unsettledPlace _ =>
    (s.settleRecords s.chg.hand grip).modChg fun c =>
      { c with
        hand := if grip then .holding else .empty
        image := if grip then c.image else none
        takeHold := none }
  | _ => s

/-! ## Doors and homing (R40 to R44, R47) -/

/-- A record that may have been exchanged unseen (R4). -/
def CartRecord.doubt (r : CartRecord) : CartRecord := { r with presence := .unknown }

/-- Every record in S0 to S15 and M becomes UNKNOWN (R4). -/
def Mtb.doubtAll (m : Mtb) : Mtb :=
  { m with entries := Vector.ofFn fun i => if i.val ≤ 16 then (m.entries[i]).map CartRecord.doubt else m.entries[i] }

/-- The main door opens (R40). -/
def State.mainOpened (s : State) : State :=
  if s.chg.mainOpen then s
  else
    let was := s.chg.st
    let s1 := (s.cutOrders .doorOpen).modMtb Mtb.doubtAll
    (s1.notify (.door true)).modChg fun c =>
      { c with
        mainOpen := true
        st := if was = .faulted then .faulted else .halted
        homingOwed := c.homingOwed || decide (was = .homing) }

/-- The main door closes, with the grip sensor (R41). -/
def State.mainClosed (s : State) (grip : Bool) : State :=
  if !s.chg.mainOpen then s
  else
    let s1 := (s.notify (.door false)).modChg fun c => { c with mainOpen := false }
    if s.chg.st = .halted then
      if s.chg.homingOwed then s1.startHoming
      else
        let s2 := s1.settleHand grip
        s2.chgGoto s2.chg.rest
    else s1

/-- The mail door opens, unless the lock holds it closed (R43, R44; log entry 33). -/
def State.mailOpened (s : State) : State :=
  if s.chg.mailLock ∧ !s.chg.mailOpen then s else s.modChg fun c => { c with mailOpen := true }

/-- The mail-slot presence taken at a closing of the mail door (R43). -/
def State.mailTaken (s : State) (present : Bool) : State :=
  match present, (s.mtb.get .mail).isSome with
  | true, false => (s.modMtb fun m => m.put .mail (some {})).notify .mailArrived
  | true, true => s.modMtb fun m => m.modify .mail CartRecord.doubt
  | false, true => (s.modMtb (·.remove .mail)).notify .mailTaken
  | false, false => s

/-- An order in WAIT_MAIL resumes at the closing (R32; log entry 45). -/
def State.mailResume (s : State) (present : Bool) : State :=
  match s.chg.st, s.chg.step with
  | .waitMail, some .waitMailSource => s.arriveSource .mail
  | .waitMail, some .waitMailDest => s.senseDest .mail present
  | _, _ => s

/-- The mail door closes, with the mail-slot presence sensor (R32, R43). -/
def State.mailClosed (s : State) (present : Bool) : State :=
  if !s.chg.mailOpen then s
  else ((s.modChg fun c => { c with mailOpen := false }).mailTaken present).mailResume present

/-- The picker arrives home, with the grip sensor (R42, R47). -/
def State.homed (s : State) (grip : Bool) : State :=
  if s.chg.st = .homing then
    let s1 := (s.modChg fun c => { c with picker := .home }).settleHand grip
    (s1.chgGoto s1.chg.rest).notify (.ready s1.chg.rest)
  else s

/-- The homing timer expires (R47). -/
def State.homingLost (s : State) : State :=
  if s.chg.st = .homing then (s.chgGoto .faulted).notify (.ready .faulted) else s

end Sys2Proof.Machine
end

