-- ==== Sys2Proof/Machine/Compression.lean ====
section
/-! DEFINITION. The compressor's arithmetic (chapter 5): the matcher, its tokens, the slice and the decoder, as
functions of bytes; the contexts and the datapath that use them are in Gather, ReadJob and Datapath. -/

namespace Sys2Proof.Machine

/-! ## Compressing a slice (R92 to R94) -/

/-- The hash of three bytes (R92). -/
def hash3 (b0 b1 b2 : Byte) : Nat := (64 * b0.toNat + 8 * b1.toNat + b2.toNat) % 1024

/-- The content of a hash table entry (R89). -/
def tableGet (tb : List (Nat × Nat)) (h : Nat) : Option Nat :=
  match tb with
  | [] => none
  | (k, v) :: rest => if k = h then some v else tableGet rest h

/-- A hash table entry set; the occupied entries stay in rising order (R92). -/
def tableSet (tb : List (Nat × Nat)) (h i : Nat) : List (Nat × Nat) :=
  match tb with
  | [] => [(h, i)]
  | (k, v) :: rest =>
    if h < k then (h, i) :: (k, v) :: rest
    else if k = h then (h, i) :: rest
    else (k, v) :: tableSet rest h i

/-- The greatest length, at most `cap`, over which two byte runs agree (R92). -/
def matchLen : Nat → List Byte → List Byte → Nat
  | n + 1, x :: xs, y :: ys => if x = y then 1 + matchLen n xs ys else 0
  | _, _, _ => 0

/-- A literal run token (R93); nothing for no literals. -/
def literalToken (lits : List Byte) : List Byte :=
  match lits with
  | [] => []
  | _ => BitVec.ofNat 8 (lits.length - 1) :: lits

/-- A match token (R93). -/
def matchToken (len dist : Nat) : List Byte := BitVec.ofNat 8 (0x80 + (len - 3)) :: beBytes 2 (dist - 1)

/-- The matcher's working state: hash table, pending literals, tokens emitted. -/
structure Matcher where
  table : List (Nat × Nat)
  pending : List Byte
  out : List Byte
deriving DecidableEq, Repr

/-- A byte joins the pending literals, which are emitted when they reach 128 (R93). -/
def Matcher.literal (m : Matcher) (b : Byte) : Matcher :=
  let p := m.pending ++ [b]
  if p.length = 128 then { m with pending := [], out := m.out ++ literalToken p } else { m with pending := p }

/-- The matcher over the bytes from block position i to the end of the slice (R92). `buf` holds the raw bytes from
block position `base` on; the last argument is the bytes still to visit, the first bounds the visits. -/
def matchRun (buf : List Byte) (base : Nat) : Nat → Nat → List Byte → Matcher → Matcher
  | 0, _, _, m => m
  | _ + 1, _, [], m => m
  | n + 1, i, b0 :: rest, m =>
    match rest with
    | b1 :: b2 :: _ =>
      let h := hash3 b0 b1 b2
      let cand := tableGet m.table h
      let m1 := { m with table := tableSet m.table h i }
      match cand with
      | none => matchRun buf base n (i + 1) rest (m1.literal b0)
      | some c =>
        let len := matchLen 66 (buf.drop (c - base)) (b0 :: rest)
        if c < i ∧ i - c ≤ 4096 ∧ 3 ≤ len then
          matchRun buf base n (i + len) ((b0 :: rest).drop len)
            { m1 with pending := [], out := m1.out ++ literalToken m1.pending ++ matchToken len (i - c) }
        else matchRun buf base n (i + 1) rest (m1.literal b0)
    | _ => matchRun buf base n (i + 1) rest (m.literal b0)

/-- The token stream of a slice that begins at block position s, and the table after it (R92, R93). -/
def tokenize (table : List (Nat × Nat)) (history slice : List Byte) (s : Nat) : Matcher :=
  let m := matchRun (history ++ slice) (s - history.length) slice.length s slice
    { table, pending := [], out := [] }
  { m with pending := [], out := m.out ++ literalToken m.pending }

/-- A slice header and its coded bytes (R87). -/
def sliceBytes (mode : Byte) (raw coded : List Byte) : List Byte :=
  mode :: beBytes 2 raw.length ++ beBytes 2 coded.length ++ beBytes 4 (crc32 raw).toNat ++ coded

/-- The coded slice: COMPRESSED exactly when the token stream is shorter than the raw bytes, else STORED (R94). -/
def codeSlice (tokens raw : List Byte) : List Byte :=
  if tokens.length < raw.length then sliceBytes 1 raw tokens else sliceBytes 2 raw raw

/-- The last 4096 bytes of a run: a history (R89, R96). -/
def lastHistory (bs : List Byte) : List Byte := bs.drop (bs.length - 4096)

/-! ## Decoding (R97, R98) -/

/-- A slice header as read (R87). -/
structure SliceHeader where
  mode : Nat
  raw : Nat
  coded : Nat
  check : BitVec 32
deriving DecidableEq, Repr

/-- The slice header at the start of some bytes, if nine bytes are there (R87, R97). -/
def sliceHeader (bs : List Byte) : Option SliceHeader :=
  if bs.length < 9 then none
  else some {
    mode := beNat (bs.take 1)
    raw := beNat ((bs.drop 1).take 2)
    coded := beNat ((bs.drop 3).take 2)
    check := BitVec.ofNat 32 (beNat ((bs.drop 5).take 4)) }

/-- Whether a slice header passes the walk, with the bytes from the header on (R97). -/
def SliceHeader.passes (h : SliceHeader) (bs : List Byte) : Bool :=
  decide (9 + h.coded ≤ bs.length) && (decide (h.mode = 1) || decide (h.mode = 2)) &&
    decide (1 ≤ h.raw) && decide (h.raw ≤ Config.sliceMax) && decide (h.coded ≤ h.raw) &&
    (decide (h.mode = 1) || decide (h.coded = h.raw))

/-- The walk over the slice headers of a block (R97): the slice at which it fails, or none when it passes. The first
argument counts the headers still to take. -/
def walkBlock (raw : Nat) : Nat → Nat → Nat → List Byte → Option Nat
  | 0, j, sum, bs => if bs = [] ∧ sum = raw then none else some (j - 1)
  | n + 1, j, sum, bs =>
    match sliceHeader bs with
    | none => some j
    | some h =>
      if h.passes bs then walkBlock raw n (j + 1) (sum + h.raw) (bs.drop (9 + h.coded)) else some j

/-- n bytes copied one at a time from `dist` back, on bytes held newest first (R98). -/
def copyBack (dist : Nat) : Nat → List Byte → List Byte
  | 0, w => w
  | n + 1, w => copyBack dist n (w.getD (dist - 1) 0 :: w)

/-- The token stream of a slice decoded (R98). `w` holds history and output newest first, `before` the decoded count
of the block when the slice begins, `made` the bytes made so far; the answer tells whether the stream decodes. -/
def decodeTokens (raw before : Nat) : Nat → List Byte → Nat → List Byte → Bool × List Byte × Nat
  | _, [], made, w => (decide (made = raw), w, made)
  | 0, _ :: _, made, w => (false, w, made)
  | n + 1, h :: rest, made, w =>
    if h.toNat < 0x80 then
      let len := h.toNat + 1
      if rest.length < len ∨ raw < made + len then (false, w, made)
      else decodeTokens raw before n (rest.drop len) (made + len) ((rest.take len).reverse ++ w)
    else if h.toNat < 0xC0 then
      let len := h.toNat - 0x80 + 3
      match rest with
      | v1 :: v0 :: rest' =>
        let v := beNat [v1, v0]
        if 0x0FFF < v ∨ before + made < v + 1 ∨ raw < made + len then (false, w, made)
        else decodeTokens raw before n rest' (made + len) (copyBack (v + 1) len w)
      | _ => (false, w, made)
    else (false, w, made)

/-- How a slice decode ends (R99), with the slice index for the two faults. -/
inductive DecodeEnd where
  | good
  | decodeError (slice : Nat)
  | checkFault (slice : Nat)
deriving DecidableEq, Repr

/-- What a slice decode gives: the bytes it makes, and how it ends. -/
structure SliceOut where
  bytes : List Byte
  size : Nat
  result : DecodeEnd
deriving DecidableEq, Repr

/-- The decode of the slice whose header stands at the start of `bs` (R98). -/
def decodeSlice (j before : Nat) (history bs : List Byte) : SliceOut :=
  match sliceHeader bs with
  | none => { bytes := [], size := 0, result := .decodeError j }
  | some h =>
    let coded := (bs.drop 9).take h.coded
    if h.mode = 2 then
      { bytes := coded, size := 9 + h.coded,
        result := if crc32 coded = h.check then .good else .checkFault j }
    else
      let (ok, w, made) := decodeTokens h.raw before coded.length coded 0 history.reverse
      let out := (w.take made).reverse
      { bytes := out, size := 9 + h.coded,
        result := if ok then (if crc32 out = h.check then .good else .checkFault j) else .decodeError j }

end Sys2Proof.Machine
end

