-- ==== Sys2Proof/Machine/Delivery.lean ====
section
/-! DEFINITION. The delivery queue (R101, R148 to R150, R156): how decoded bytes are placed, checked, removed, closed
and sent. -/

namespace Sys2Proof.Machine

/-- The chunk places in use, and the bytes held in the place of the filling chunk while it is not closed, after one more
entry: a gap occupies no room and leaves the filling chunk open (R101, R148, R157; log entry 24). -/
def DItem.fill (p : Nat × Option Nat) : DItem → Nat × Option Nat
  | .chunk bs closed goesOn =>
    let q := if goesOn && decide (0 < p.1) then (p.1, p.2.getD 0 + bs.length) else (p.1 + 1, bs.length)
    (q.1, if closed then none else some q.2)
  | .mark => (p.1, none)
  | .gap _ => p

/-- The chunk places in use of a delivery queue, and the bytes held in its filling chunk while that is open. -/
def filling (d : List DItem) : Nat × Option Nat := d.foldl DItem.fill (0, none)

/-- Bytes that go on in the filling chunk: into the last entry, or behind a gap (R148, R157). -/
def goOn (bs : List DByte) (d : List DItem) : List DItem :=
  match d.getLast? with
  | some (.chunk have_ false g) => d.dropLast ++ [.chunk (have_ ++ bs) false g]
  | _ => d ++ [.chunk bs false true]

/-- Bytes placed at the tail of the filling chunk, a new chunk beginning at each 4096 (R148; log entries 24, 54). The
first argument bounds the chunks begun. -/
def placeBytes : Nat → List DByte → List DItem → List DItem
  | 0, _, d => d
  | _ + 1, [], d => d
  | n + 1, bs, d =>
    let room := Config.chunkBytes - (filling d).2.getD Config.chunkBytes
    if 0 < room then placeBytes n (bs.drop room) (goOn (bs.take room) d)
    else placeBytes n (bs.drop Config.chunkBytes) (d ++ [.chunk (bs.take Config.chunkBytes) false false])

/-- A slice's bytes placed in the delivery queue (R148). -/
def deliver (bs : List DByte) (d : List DItem) : List DItem := placeBytes (bs.length + 1) bs d

/-- The room of a delivery queue: that of the filling chunk, and 4096 bytes for each free chunk place (R101). A byte that
the comparison takes out of the filling chunk frees its room at once (log entry 54). -/
def deliveryRoom (d : List DItem) : Nat :=
  let p := filling d
  (Config.chunkBytes - p.2.getD Config.chunkBytes) + Config.chunkBytes * (Config.chunkMax - p.1)

/-- All bytes of an entry become checked (R99). -/
def DItem.check : DItem → DItem
  | .chunk bs closed g => .chunk (bs.map fun b => { b with checked := true }) closed g
  | i => i

/-- The unchecked bytes of an entry removed; nothing is left of a chunk that held no other (R99, R148). -/
def DItem.strip : DItem → Option DItem
  | .chunk bs closed g =>
    match bs.filter (·.checked) with
    | [] => none
    | kept => some (.chunk kept closed g)
  | i => some i

/-- The filling chunk closed; one that holds no byte is dropped (R149, R150). -/
def closeFilling (d : List DItem) : List DItem :=
  match d.getLast? with
  | some (.chunk [] _ _) => d.dropLast
  | some (.chunk bs false g) => d.dropLast ++ [.chunk bs true g]
  | _ => d

/-- Whether an entry at the head may be sent (R150). -/
def DItem.sendable : DItem → Bool
  | .chunk bs closed _ =>
    (closed || decide (Config.chunkBytes ≤ bs.length)) && !bs.isEmpty && bs.all (·.checked)
  | .mark => true
  | .gap _ => false

end Sys2Proof.Machine
end

