-- ==== Sys2Proof/Machine/ReadJob.lean ====
section
/-! DEFINITION. Restore and verify (chapter 8) from the end of their locate to their report: the reading, the block and
delivery queues, the comparison, faults and resync, ABORT. -/

namespace Sys2Proof.Machine

/-! ## What the job was asked for -/

/-- Whether a read job is a restore. -/
def ReadJob.isRestore (r : ReadJob) : Bool :=
  match r.spec with
  | .restore _ _ => true
  | .verify _ _ _ _ => false

/-- Whether a read job is a COMPARE-mode verify. -/
def ReadJob.isCompare (r : ReadJob) : Bool :=
  match r.spec with
  | .verify _ _ .compare _ => true
  | _ => false

/-! ## The fault list (R159) -/

/-- A fault recorded: counted, and entered as the policy says (R159). -/
def ReadJob.record (r : ReadJob) (f : VFault) : ReadJob :=
  let keepLast : Bool :=
    match r.spec with
    | .verify _ _ _ .keepLast => true
    | _ => false
  { r with
    faultCount := r.faultCount + 1
    faults :=
      if r.faults.length < Config.faultMax then r.faults ++ [f]
      else if keepLast then r.faults.tail ++ [f]
      else r.faults }

/-! ## The end of the reading (R147, R154) -/

/-- The result with which end of data ends a reading (R147, R154). -/
def ReadJob.atEnd (r : ReadJob) : JobResult :=
  match r.spec with
  | .restore _ .toEod => .ok
  | .verify _ .toEod _ _ => .ok
  | _ => .endOfData

/-- Whether the reading has met its own end condition with an acceptance (R147, R154). -/
def ReadJob.meets (r : ReadJob) (mark : Bool) : Bool :=
  match r.spec with
  | .restore _ (.count n) => decide (n.toNat ≤ r.accepted)
  | .restore _ .toMark => mark
  | .restore _ .toEod => false
  | .verify a (.count n) _ _ => decide (a + n.toNat ≤ r.x)
  | .verify _ .toEod _ _ => false

/-- The result that an acceptance decides, if it ends the reading: the job's own condition first, then the end bound
(R84, R147), then the mark that an ABORT AT_MARK waits for (R162). -/
def ReadJob.endsAt (r : ReadJob) (mark : Bool) : Option JobResult :=
  if r.meets mark then some .ok
  else if r.bound = some r.x then some r.atEnd
  else if r.atMark && mark then some .aborted
  else none

/-- The reading ends: the tape stops and the transport waits for the job's end (R147). -/
def State.endReading (s : State) (t : Tr) (res : JobResult) : State :=
  (s.modRead t fun r => { r with ended := some res }).modTc t fun c => { c.goto .waiting with locate := none }

/-! ## Marks and gaps at the head of the block queue (R149, R154, R157) -/

/-- A mark at the head leaves the block queue: it joins a restore's delivery queue behind the closed filling chunk, and
is dropped by a verify; gaps carried by the head entry go into the delivery queue ahead of it. -/
def takeHeads (restore : Bool) : List QEntry → List DItem → List QEntry × List DItem
  | .readMark _ gaps :: rest, d =>
    let d1 := d ++ gaps.map DItem.gap
    takeHeads restore rest (if restore then closeFilling d1 ++ [.mark] else d1)
  | .readBlock i b gaps :: rest, d => (.readBlock i b [] :: rest, d ++ gaps.map DItem.gap)
  | q, d => (q, d)

/-- R149 for the transport of a read job. -/
def State.takeHeads (s : State) (t : Tr) : State :=
  match (s.tc t).readJob with
  | some r =>
    s.modTc t fun c =>
      let p := Machine.takeHeads r.isRestore c.blockQ c.delivery
      { c with blockQ := p.1, delivery := p.2 }
  | none => s

/-- Gaps that no later entry will carry, placed when the reading has ended and the block queue is empty (R157). -/
def State.lastGaps (s : State) (t : Tr) : State :=
  match (s.tc t).readJob with
  | some r =>
    if r.ended.isSome ∧ (s.tc t).blockQ = [] then
      (s.modTc t fun c => { c with delivery := c.delivery ++ r.pendingGaps.map DItem.gap }).modRead t fun r =>
        { r with pendingGaps := [] }
    else s
  | none => s

/-! ## Resuming after a read-side hitch (R141, R142) -/

/-- The resume test of R141. -/
def State.readResume (s : State) (t : Tr) : State :=
  match (s.tc t).readJob with
  | some r =>
    if (s.tc t).st = .waiting ∧ r.ended = none ∧ (s.tc t).blockQ.length ≤ (s.tc t).gov.active.resume then
      s.modTc t fun c => c.stream .reading
    else s
  | none => s

/-! ## The comparison (R155 to R158) -/

/-- What the comparison works on. -/
structure Cmp where
  delivery : List DItem
  intake : List IntakeItem
  job : ReadJob
  earned : Nat := 0
deriving DecidableEq, Repr

/-- n host bytes taken from the head chunk; a chunk used up leaves and earns a credit (R155). -/
def Cmp.takeHost (c : Cmp) (n : Nat) : Cmp :=
  match c.intake with
  | .chunk bytes size :: rest =>
    match bytes.drop n with
    | [] => { c with intake := rest, earned := c.earned + 1 }
    | left => { c with intake := .chunk left size :: rest }
  | _ => c

/-- A pair taken (R156): equal bytes are counted; the first differing byte of a block records COMPARE_MISMATCH; the
bytes of a block after it are consumed uncompared (log entry 26). -/
def ReadJob.pair (r : ReadJob) (d : DByte) (host : Byte) : ReadJob :=
  if r.mismatchAt = some d.addr then { r with uncompared := r.uncompared + 1 }
  else if d.byte = host then { r with compared := r.compared + 1 }
  else { r.record { addr := d.addr, kind := .compareMismatch, offset := d.pos } with mismatchAt := some d.addr }

/-- One step of the comparison; none when it can go no further (R156 to R158). A decoded byte taken leaves the delivery
queue, and an emptied chunk its place (log entry 54). A gap behind the unaligned marker is dropped uncounted (log entry
59). A COMPARE_SHORT at a gap carries the gap's own address and position (log entry 63). -/
def Cmp.step (c : Cmp) : Option Cmp :=
  if c.job.short.isSome then none
  else if c.job.unaligned then
    match c.intake with
    | .chunk bytes _ :: _ =>
      some ({ c with job := { c.job with uncompared := c.job.uncompared + bytes.length } }.takeHost bytes.length)
    | _ =>
      match c.delivery with
      | .chunk [] _ _ :: rest => some { c with delivery := rest }
      | .chunk (d :: bs) k g :: rest =>
        if d.checked then
          some { c with delivery := .chunk bs k g :: rest, job := { c.job with uncompared := c.job.uncompared + 1 } }
        else none
      | _ :: rest => some { c with delivery := rest }
      | [] => none
  else
    match c.delivery with
    | [] => none
    | .mark :: rest => some { c with delivery := rest }
    | .gap .unaligned :: rest => some { c with delivery := rest, job := { c.job with unaligned := true } }
    | .gap (.bytes a p n) :: rest =>
      if n = 0 then some { c with delivery := rest }
      else
        match c.intake with
        | .chunk bytes _ :: _ =>
          let k := min n bytes.length
          some ({ c with delivery := .gap (.bytes a (p + k) (n - k)) :: rest,
                         job := { c.job with uncompared := c.job.uncompared + k } }.takeHost k)
        | .item _ :: _ => some { c with job := { c.job with short := some (a, p) } }
        | [] => none
    | .chunk [] _ _ :: rest => some { c with delivery := rest }
    | .chunk (d :: bs) k g :: rest =>
      if d.checked then
        match c.intake with
        | .chunk (h :: _) _ :: _ =>
          some ({ c with delivery := .chunk bs k g :: rest, job := c.job.pair d h }.takeHost 1)
        | .chunk [] _ :: _ => some (c.takeHost 0)
        | .item _ :: _ => some { c with job := { c.job with short := some (d.addr, d.pos) } }
        | [] => none
      else none

/-- The comparison run until it can go no further; the argument bounds its steps. -/
def Cmp.run : Nat → Cmp → Cmp
  | 0, c => c
  | n + 1, c =>
    match c.step with
    | none => c
    | some c1 => Cmp.run n c1

/-- A bound on the steps of the comparison: every step takes a byte, a gap's part, or an entry. -/
def Cmp.steps (c : Cmp) : Nat :=
  (c.delivery.map fun
    | .chunk bs _ _ => bs.length + 2
    | _ => 2).sum + 2 * c.intake.length + 2

/-- The comparison of a COMPARE-mode verify goes as far as both sides offer bytes (R156). -/
def State.compare (s : State) (t : Tr) : State :=
  match (s.tc t).readJob with
  | some r =>
    if r.isCompare then
      let c : Cmp := { delivery := (s.tc t).delivery, intake := (s.tc t).intake, job := r }
      let d := Cmp.run c.steps c
      let s1 := s.modTc t fun c => { c with delivery := d.delivery, intake := d.intake, job := some (.read d.job) }
      if d.earned = 0 then s1 else s1.earn t d.earned
    else s
  | none => s

/-! ## The end of the job (R152, R161) -/

/-- The result of a read job that ends as usual (R147, R151, R161, R162; log entry 27). -/
def ReadJob.result (r : ReadJob) : JobResult :=
  match r.ended with
  | some .restoreFault => .restoreFault
  | some res =>
    if r.atMark then .aborted
    else if res = .ok ∧ 0 < r.faultCount then .faultsFound
    else res
  | none => .aborted

/-- A read job ends with a result: READY; bytes left in a comparison's intake are surplus (R152, R158, R161). -/
def State.endRead (s : State) (t : Tr) (res : JobResult) : State :=
  ((s.countSurplus t).modTc t fun c => c.goto .ready).endJob t res

/-- COMPARE_SHORT ends the job at its decision (R158), whatever the reading has ended with (R161; log entry 64), and ABORTED
after an ABORT AT_MARK (R162; log entry 27). -/
def State.shortEnd (s : State) (t : Tr) : State :=
  match (s.tc t).readJob with
  | some r => if r.short.isSome then s.endRead t (if r.atMark then .aborted else .compareShort) else s
  | none => s

/-- Decoding has ended: the filling chunk of a restore is closed, and a job with nothing left to deliver ends (R150,
R152, R161). -/
def State.readEndTest (s : State) (t : Tr) : State :=
  match (s.tc t).readJob with
  | some r =>
    if r.ended.isSome ∧ (s.tc t).blockQ = [] ∧ !s.opOf t then
      let s1 := if r.isRestore then s.modTc t fun c => { c with delivery := closeFilling c.delivery } else s
      if (s1.tc t).delivery = [] then s1.endRead t r.result else s1
    else s
  | none => s

/-- Everything that follows in a read job when its queues or settings have changed: a reading in WAITING resumes (R141)
before the comparison is looked at (R158; log entry 62). -/
def State.readPump (s : State) (t : Tr) : State :=
  (((((s.takeHeads t).lastGaps t).readResume t).compare t).shortEnd t).readEndTest t

/-! ## Reading frames (R146, R154, R160) -/

/-- What a job counts at an acceptance, the first included (R146, R148, R154). -/
def ReadJob.take (r : ReadJob) (f : ReadFrame) (mark : Bool) : ReadJob :=
  let raw := if mark then 0 else f.hdr.rawLen
  let applied :=
    match r.spec with
    | .restore offset _ => min offset raw
    | .verify _ _ _ _ => 0
  let r1 := if r.start.isSome then r
    else { r with start := some f.hdr.addr, applied, resume := some (f.hdr.addr, applied) }
  { r1 with
    x := f.hdr.addr + 1
    skip := 0
    searchStart := f.hdr.frame + 1
    resynced := false
    lastSeen := none
    pendingGaps := []
    accepted := r.accepted + 1
    covered := r.covered + 1
    blocksAccepted := if mark then r.blocksAccepted else r.blocksAccepted + 1
    marksAccepted := if mark then r.marksAccepted + 1 else r.marksAccepted
    rewritten := if 0 < f.hdr.pass then r.rewritten + 1 else r.rewritten }

/-- The block queue entry of an accepted frame, with the gaps it carries (R146, R157). -/
def ReadFrame.entry (f : ReadFrame) (mark : Bool) (gaps : List Gap) : QEntry :=
  if mark then .readMark f.info gaps else .readBlock f.info f.block gaps

/-- An acceptance (R146): the entry joins the block queue, the mark is learned, the watch point tested. -/
def State.acceptFrame (s : State) (t : Tr) (r : ReadJob) (f : ReadFrame) (mark : Bool) : State :=
  let s1 := s.modTc t fun c => { c with blockQ := c.blockQ ++ [f.entry mark r.pendingGaps] }
  let s2 := (s1.modRead t fun r => r.take f mark).learn t f.info mark
  s2.watchTest t (Job.kind (.read r)) mark f.hdr.addr f.hdr.file f.hdr.frame

/-- After a frame read, in READING: the evaluation with Q as it stands (R136), then the end of the reading, or the
read-side hitch at 32 entries (R139, R140), or the next frame (log entry 29). A frame that both ends the reading and
brings the queue to 32 ends it without a hitch (log entry 72). -/
def State.afterFrame (s : State) (t : Tr) (stop : Option JobResult) : State :=
  let s1 := s.takeHeads t
  let s2 := s1.modTc t fun c => { c with gov := c.gov.countFrame false c.blockQ.length }
  match stop with
  | some res => (s2.endReading t res).readPump t
  | none =>
    if Config.blockMax ≤ (s2.tc t).blockQ.length then
      ((s2.modRead t fun r => { r with hitches := r.hitches + 1 }).modTc t (·.goto .hitch)).readPump t
    else s2.readPump t

/-- The gap that an UNREADABLE address leaves (R157). -/
def ReadJob.faultGap (r : ReadJob) : Gap :=
  match r.lastSeen with
  | some n => .bytes r.x 0 n
  | none => .unaligned

/-- What a read fault on x does to a verify's counts; x stays where it is (R157, R159, R160). -/
def ReadJob.unreadable (r : ReadJob) : ReadJob :=
  let r1 := r.record { addr := r.x, kind := .unreadable, offset := 0 }
  { r1 with
    covered := r.covered + 1
    lastSeen := none
    pendingGaps := if r.isCompare then r.pendingGaps ++ [r.faultGap] else r.pendingGaps
    unalignedFlag := r.unalignedFlag || (r.isCompare && r.lastSeen.isNone) }

/-- The reading behind its unreadable address x, as the end of a resync's fast move lets it go on (R160). -/
def ReadJob.past (r : ReadJob) : ReadJob := { r with x := r.x + 1, skip := 0 }

/-- A verify's fast move back to its search start (R160). -/
def ReadJob.resync (r : ReadJob) : ReadJob := { r with resynced := true, resyncs := r.resyncs + 1 }

/-- The locate that a resync is: it leads to the address behind the unreadable one (R160; log entry 55). -/
def ReadJob.resyncLocate (r : ReadJob) : Locate :=
  { writing := false, goal := .address, a := r.x + 1, e := r.searchStart, x := r.x + 1, phase := .resync r.searchStart }

/-- A read fault on x (R83, R147, R160): it ends a restore's reading; a verify records it, and ends, or resynchronises
once for each search start. A read fault that covers the last address of the range, or the last before the end bound, ends
the reading there, a second one too (log entry 52). -/
def State.readFault (s : State) (t : Tr) : State :=
  match (s.tc t).readJob with
  | none => s
  | some r =>
    if r.isRestore then
      ((s.modRead t fun r => { r with readFault := some r.x }).endReading t .readFault).readPump t
    else
      let r1 := r.unreadable
      let s1 := s.modRead t fun _ => r1
      match r1.past.endsAt false with
      | some res => (s1.endReading t res).readPump t
      | none =>
        if r.resynced then (s1.endReading t .readFault).readPump t
        else
          ((s1.modRead t ReadJob.resync).modTc t fun c =>
            { c.goto .locating with locate := some r1.resyncLocate }).readPump t

/-- The raw length that a passed frame of address x gives to a gap: 0 for a MARK (R157). -/
def seenLength (x : Nat) (raw : RawFrame) : Option Nat :=
  match readFrame raw with
  | some f =>
    if f.hdr.addr = x then
      match kindOf f.hdr.kind with
      | some .data => some f.hdr.rawLen
      | some .mark => some 0
      | _ => none
    else none
  | none => none

/-- A counted skip of the reading (R82, R83, R146). -/
def ReadJob.skipOne (r : ReadJob) (raw : RawFrame) : ReadJob :=
  { r with
    skip := r.skip + 1
    countedSkips := r.countedSkips + 1
    lastSeen := match seenLength r.x raw with | some n => some n | none => r.lastSeen }

/-- A frame read in READING (R146, R147, R154). -/
def State.readOne (s : State) (t : Tr) (raw : RawFrame) : State :=
  match (s.tc t).st, (s.tc t).readJob with
  | .reading, some r0 =>
    let s1 := (s.modTc t fun c => c.passed raw).modRead t fun r => { r with framesRead := r.framesRead + 1 }
    match classify r0.x raw with
    | .accepted f mark =>
      let s2 := s1.acceptFrame t r0 f mark
      s2.afterFrame t (((s2.tc t).readJob).bind (·.endsAt mark))
    | .endOfData _ => s1.afterFrame t (some r0.atEnd)
    | .uncounted => s1.afterFrame t none
    | .counted =>
      let s2 := s1.modRead t fun r => r.skipOne raw
      if Config.skipMax ≤ r0.skip + 1 then
        (s2.modTc t fun c => { c with gov := c.gov.countFrame false c.blockQ.length }).readFault t
      else s2.afterFrame t none
  | _, _ => s

/-- A reading locate has ended OK on an accepted frame: a start of streaming, and the job's first acceptance (R135,
R146); a COMPARE-mode verify grants its credits (R153), whose CREDIT is queued before a WATCH_REACHED for that frame (log
entry 53). -/
def State.readStart (s : State) (t : Tr) (f : ReadFrame) (mark : Bool) : State :=
  match (s.tc t).readJob with
  | none => s
  | some r =>
    let s1 := s.modTc t fun c => { c.stream .reading with locate := none }
    let s2 := s1.modRead t fun r => { r with framesRead := 1, x := f.hdr.addr }
    let s3 := if r.isCompare then s2.earn t Config.startCredits else s2
    let s4 := s3.acceptFrame t r f mark
    match ((s4.tc t).readJob).bind (·.endsAt mark) with
    | some res => (s4.endReading t res).readPump t
    | none => s4.readPump t

/-- The stop and back-up of a read-side hitch completes (R140, R141). -/
def State.readHitched (s : State) (t : Tr) : State :=
  if (s.tc t).st = .hitch then (s.modTc t fun c => c.goto .waiting).readPump t else s

/-! ## Decoding (R96, R99, R101, R148, R150, R151, R157) -/

/-- The DATA entry being decoded, or to be decoded next: the head of the block queue (R96, R149). -/
def Tc.headBlock (c : Tc) : Option (ReadInfo × Block) :=
  match c.blockQ with
  | .readBlock i b _ :: _ => some (i, b)
  | _ => none

/-- The number of leading bytes of a block that a job does not place: the applied offset in a restore's first block,
all of it in CHECK mode (R101, R148). -/
def ReadJob.excluded (r : ReadJob) (i : ReadInfo) (b : Block) : Nat :=
  match r.spec with
  | .restore _ _ => if r.start = some i.addr then r.applied else 0
  | .verify _ _ .compare _ => 0
  | .verify _ _ .check _ => b.raw

/-- The raw length of the next slice for the test of readiness (R101). -/
def nextRaw (bs : List Byte) : Nat :=
  match sliceHeader bs with
  | some h => if Config.sliceMax < h.raw then Config.sliceMax else h.raw
  | none => Config.sliceMax

/-- The slice decode that the context of t performs on a block (R97, R98). -/
def decodeNext (x : Ctx) (b : Block) : SliceOut :=
  if x.next = 0 then
    match walkBlock b.raw b.slices 0 0 b.payload with
    | some j => { bytes := [], size := 0, result := .decodeError j }
    | none => decodeSlice 0 0 [] b.payload
  else decodeSlice x.next x.decoded x.history (b.payload.drop x.off)

/-- The bytes of a slice that the job places, unchecked (R148, R156). -/
def placedBytes (i : ReadInfo) (b : Block) (excluded start : Nat) (bytes : List Byte) : List DByte :=
  let skip := excluded - start
  ((bytes.drop skip).zipIdx (start + min skip bytes.length)).map fun p =>
    { byte := p.1, addr := i.addr, pos := p.2, last := decide (p.2 + 1 = b.raw), checked := false }

/-- Whether the context of t is ready to decode (R101). -/
def State.readReady (s : State) (t : Tr) : Bool :=
  match (s.tc t).readJob, (s.tc t).headBlock with
  | some r, some (i, b) =>
    let x := s.cx t
    let begun := if x.ref then x.decoded else 0
    let raw := nextRaw (b.payload.drop (if x.ref then x.off else 0))
    !s.opOf t && decide (x.dir = .read) && r.start.isSome &&
      (match r.spec with
        | .verify _ _ .check _ => true
        | _ => decide ((begun + raw) - max begun (r.excluded i b) ≤ deliveryRoom (s.tc t).delivery))
  | _, _ => false

/-- The datapath takes the next slice of t to decode: the bytes it makes are placed unchecked (R96, R100, R148; log
entry 23). -/
def State.beginDecode (s : State) (t : Tr) : State :=
  match (s.tc t).readJob, (s.tc t).headBlock with
  | some r, some (i, b) =>
    let x0 := s.cx t
    let x := if x0.ref then x0 else { x0 with ref := true, next := 0, off := 0, decoded := 0, history := [] }
    let out := decodeNext x b
    let s1 := (s.setCx t x).modTc t fun c =>
      { c with delivery := deliver (placedBytes i b (r.excluded i b) x.decoded out.bytes) c.delivery }
    { s1 with dp := some { t, decode := true, abandoned := false } }
  | _, _ => s

/-- The context after a good slice (R96, R99). -/
def Ctx.sliceDone (x : Ctx) (out : SliceOut) (slices : Nat) : Ctx :=
  if x.next + 1 < slices then
    { x with next := x.next + 1, off := x.off + out.size, decoded := x.decoded + out.bytes.length,
             history := lastHistory (x.history ++ out.bytes) }
  else { x with ref := false, next := 0, off := 0, decoded := 0, history := [] }

/-- The context after a faulty slice: the block is given up (R99). -/
def Ctx.giveUp (x : Ctx) : Ctx := { x with ref := false, next := 0, off := 0, decoded := 0, history := [] }

/-- What a good slice adds to the job's counts (R148, R150, R166); the bytes it skips are counted with it (log entry
58). -/
def ReadJob.sliceGood (r : ReadJob) (i : ReadInfo) (b : Block) (start n : Nat) (last : Bool) : ReadJob :=
  let skipped := if r.isRestore then min n (r.excluded i b - start) else 0
  { r with
    rawSkipped := r.rawSkipped + skipped
    rawChecked := if r.isRestore then r.rawChecked else r.rawChecked + n
    blocksDelivered :=
      if r.isRestore && last && decide (b.raw ≤ r.excluded i b) then r.blocksDelivered + 1 else r.blocksDelivered }

/-- A slice decode completes good (R99). -/
def State.sliceGood (s : State) (t : Tr) (i : ReadInfo) (b : Block) (out : SliceOut) : State :=
  let x := s.cx t
  let last := decide (b.slices ≤ x.next + 1)
  let s1 := s.modRead t fun r => r.sliceGood i b x.decoded out.bytes.length last
  (s1.setCx t (x.sliceDone out b.slices)).modTc t fun c =>
    { c with delivery := c.delivery.map DItem.check, blockQ := if last then c.blockQ.tail else c.blockQ }

/-- A restore decides RESTORE_FAULT (R151). -/
def State.restoreFault (s : State) (t : Tr) (addr slice : Nat) : State :=
  let s1 := s.modRead t fun r => { r with fault := some (addr, slice) }
  let s2 := (s1.endReading t .restoreFault).clearCtx t .read
  s2.modTc t fun c => { c with blockQ := [], delivery := closeFilling c.delivery }

/-- A slice decode completes with a fault (R99, R151, R154, R157). -/
def State.sliceBad (s : State) (t : Tr) (i : ReadInfo) (b : Block) (kind : VFaultKind) (slice : Nat) : State :=
  let x := s.cx t
  let s1 := (s.setCx t x.giveUp).modTc t fun c =>
    { c with delivery := c.delivery.filterMap DItem.strip, blockQ := c.blockQ.tail }
  match (s.tc t).readJob with
  | none => s1
  | some r =>
    if r.isRestore then s1.restoreFault t i.addr slice
    else
      let s2 := s1.modRead t fun r => r.record { addr := i.addr, kind, offset := 0 }
      if r.isCompare then
        s2.modTc t fun c =>
          { c with delivery := c.delivery ++ [.gap (.bytes i.addr x.decoded (b.raw - x.decoded))] }
      else s2

/-- The decode in progress for t completes (R99). -/
def State.decoded (s : State) (t : Tr) : State :=
  match (s.tc t).headBlock with
  | none => s
  | some (i, b) =>
    let out := decodeNext (s.cx t) b
    (match out.result with
      | .good => s.sliceGood t i b out
      | .decodeError j => s.sliceBad t i b .decodeBad j
      | .checkFault j => s.sliceBad t i b .sliceCheck j).readPump t

/-! ## Sending (R150, R165) -/

/-- Whether the head of t's delivery queue may be sent: only a restore sends (R150, R156). -/
def State.dataReady (s : State) (t : Tr) : Bool :=
  match (s.tc t).readJob, (s.tc t).delivery with
  | some r, d :: _ => r.isRestore && d.sendable
  | _, _ => false

/-- What sending an entry adds to a restore's counts (R149, R150, R165). The resume point stays in the block of the last
byte sent, also behind that block's last byte (log entry 71). -/
def ReadJob.sent (r : ReadJob) : DItem → ReadJob
  | .chunk bs _ _ =>
    { r with
      rawDelivered := r.rawDelivered + bs.length
      blocksDelivered := r.blocksDelivered + (bs.filter (·.last)).length
      resume := match bs.getLast? with | some b => some (b.addr, b.pos + 1) | none => r.resume }
  | .mark => { r with marksDelivered := r.marksDelivered + 1 }
  | .gap _ => r

/-- The frame of an entry of t's delivery queue (R150, R170). -/
def DItem.frame (t : Tr) : DItem → OutFrame
  | .chunk bs _ _ => dataFrame t (bs.map (·.byte)) false
  | .mark => dataFrame t [] true
  | .gap _ => dataFrame t [] false

/-- LNK takes the head of t's delivery queue for the lane (R150, R152, R179). -/
def State.sendData (s : State) (t : Tr) : State :=
  match (s.tc t).delivery with
  | [] => s
  | d :: rest =>
    let s1 := (s.modTc t fun c => { c with delivery := rest }).modRead t fun r => r.sent d
    (s1.modLnk fun l => { l with lane := some (d.frame t), lastServed := t }).readPump t

/-! ## ABORT and CLOSE (R155, R162) -/

/-- The position at which an ABORT stops the tape: the tachometer's in a fast move, in a locate the frame after the last
good header read since the last fast move (R65), and before any such header the frame place reached (log entry 61). -/
def Tc.abortPos (c : Tc) (tach : Nat) : Option Nat :=
  match c.locate with
  | some l =>
    match l.phase with
    | .fast _ | .fastFirst | .resync _ => some tach
    | _ =>
      match l.lastHeader with
      | some p => some (p + 1)
      | none => c.pos
  | none => c.pos

/-- An ABORT IMMEDIATE of a read job: what is not yet delivered stays so, however the reading ended (R162, R165). -/
def State.abortReadNow (s : State) (t : Tr) (tach : Nat) : State :=
  let s1 := s.modRead t fun r => { r with ended := some .aborted }
  (s1.modTc t fun c => { c with pos := c.abortPos tach }).endRead t .aborted

/-- An ABORT of a read job whose locate has ended (R162), apart from its reply. After COMPARE_SHORT it has no further
effect. -/
def State.abortRead (s : State) (t : Tr) (r : ReadJob) (now : Bool) (tach : Nat) : State :=
  if r.short.isSome then s
  else if now then s.abortReadNow t tach
  else if r.ended.isSome then s
  else s.modRead t fun r => { r with atMark := true }

/-- Whether a COMPARE-mode verify accepts a CLOSE (R155; log entry 41). -/
def ReadJob.takesClose (r : ReadJob) : Bool :=
  r.isCompare && !r.closing &&
    (match r.ended with
      | none | some .ok | some .aborted => true
      | _ => false)

/-- A CLOSE accepted by a COMPARE-mode verify (R155). -/
def State.closeCompare (s : State) (t : Tr) (tag : Byte) : State :=
  let s1 := (s.accept t tag 0x29).modTc t fun c => { c with intake := c.intake ++ [.item .close] }
  (s1.modRead t fun r => { r with closing := true }).readPump t

end Sys2Proof.Machine
end

