-- ==== Sys2Proof/Machine/Gather.lean ====
section
/-! DEFINITION. The context in the write direction (R89 to R91, R94): how it takes bytes and items from the intake
queue, and how slices and blocks come about. -/

namespace Sys2Proof.Machine

/-- What the gathering of one context works on: the context, the intake and block queues, and what has come of it: the
credits earned and the raw bytes accepted (R110). -/
structure Pump where
  cx : Ctx
  intake : List IntakeItem
  blockQ : List QEntry
  earned : Nat := 0
  accepted : Nat := 0
deriving DecidableEq, Repr

/-- Space of the current block (R89). -/
def Ctx.space (x : Ctx) : Nat := Config.payloadMax - x.cur.payload.length

/-- The block queue entry of an item (R112). -/
def itemEntry : Item → QEntry
  | .mark => .mark
  | .close => .close

/-- A block with nothing in it (R89). -/
def emptyBlock : Block := { payload := [], raw := 0, slices := 0 }

/-- The current block closes: handed to the block queue if that has room, else kept as the closed block; a block with
no slice is discarded (R91). -/
def Pump.closeBlock (p : Pump) : Pump :=
  if p.cx.cur.slices = 0 then { p with cx := { p.cx with cur := emptyBlock } }
  else if p.blockQ.length < Config.blockMax ∧ p.cx.closed = none then
    { p with cx := { p.cx with cur := emptyBlock }, blockQ := p.blockQ ++ [.block p.cx.cur] }
  else { p with cx := { p.cx with cur := emptyBlock, closed := some p.cx.cur } }

/-- An item ended at the context follows the block: into the block queue if that has room, else held (R91). -/
def Pump.handItem (p : Pump) (i : Item) : Pump :=
  if p.blockQ.length < Config.blockMax ∧ p.cx.closed = none then { p with blockQ := p.blockQ ++ [itemEntry i] }
  else { p with cx := { p.cx with held := some i } }

/-- A closed block taken into the block queue once that has room (R91). -/
def Pump.flushBlock (p : Pump) : Pump :=
  match p.cx.closed with
  | some b =>
    if p.blockQ.length < Config.blockMax then
      { p with cx := { p.cx with closed := none }, blockQ := p.blockQ ++ [.block b] }
    else p
  | none => p

/-- A held item taken into the block queue, behind the closed block, once that has room (R91). -/
def Pump.flushItem (p : Pump) : Pump :=
  match p.cx.held, p.cx.closed with
  | some i, none =>
    if p.blockQ.length < Config.blockMax then
      { p with cx := { p.cx with held := none }, blockQ := p.blockQ ++ [itemEntry i] }
    else p
  | _, _ => p

/-- What has been kept at a full block queue moves on (R91). -/
def Pump.flush (p : Pump) : Pump := p.flushBlock.flushItem

/-- Bytes taken from the head chunk into the slice buffer, up to the slice's raw limit (R90, R110). -/
def Pump.takeBytes (p : Pump) (bytes : List Byte) (size : Nat) (rest : List IntakeItem) : Pump :=
  let x := p.cx
  let fresh := x.slice.isEmpty
  let limit := if fresh then min Config.sliceMax (x.space - 9) else x.limit
  let x1 := if fresh && decide (x.cur.slices = 0) then { x with table := [], history := [] } else x
  let n := limit - x.slice.length
  let slice := x.slice ++ bytes.take n
  let left := bytes.drop n
  let x2 := { x1 with slice, limit, complete := decide (limit ≤ slice.length) }
  match left with
  | [] => { p with cx := x2, intake := rest, earned := p.earned + 1, accepted := p.accepted + size }
  | _ => { p with cx := x2, intake := .chunk left size :: rest }

/-- One step of the gathering; none when the context can go no further (R90, R91). -/
def Pump.step (p : Pump) : Option Pump :=
  if p.cx.complete then none
  else
    match p.intake with
    | [] => none
    | .item i :: rest =>
      if !p.cx.slice.isEmpty then some { p with cx := { p.cx with complete := true } }
      else if p.cx.held.isSome then none
      else some ({ p.closeBlock with intake := rest }.handItem i)
    | .chunk bytes size :: rest =>
      if p.cx.closed.isSome || p.cx.held.isSome || decide (Config.blockMax ≤ p.blockQ.length) then none
      else if p.cx.slice.isEmpty && decide (1 ≤ p.cx.cur.slices) && decide (p.cx.space < Config.spaceMin) then
        some p.closeBlock
      else some (p.takeBytes bytes size rest)

/-- The gathering run until it can go no further; the argument bounds its steps. -/
def Pump.run : Nat → Pump → Pump
  | 0, p => p
  | n + 1, p =>
    match p.step with
    | none => p
    | some p1 => Pump.run n p1

/-- Everything the context can take at an event (R90, R91; log entry 46): each chunk or item of the intake needs at most two
steps. -/
def Pump.gather (p : Pump) : Pump := Pump.run (2 * p.intake.length + 2) p.flush

/-- The context of t takes what it can from its intake; credits are earned for the chunks used up (R108, R110). -/
def State.gather (s : State) (t : Tr) : State :=
  match (s.tc t).writeJob with
  | none => s
  | some _ =>
    let c := s.tc t
    let p := Pump.gather { cx := s.cx t, intake := c.intake, blockQ := c.blockQ }
    let s1 := (s.setCx t p.cx).setTc t { c with intake := p.intake, blockQ := p.blockQ }
    let s2 := s1.modWrite t fun w => { w with rawAccepted := w.rawAccepted + p.accepted }
    if p.earned = 0 then s2 else s2.earn t p.earned

/-- The context after a slice's compression (R94): the coded slice appended, the history moved on, the buffer
emptied. -/
def Ctx.compressed (x : Ctx) : Ctx :=
  let m := tokenize x.table x.history x.slice x.cur.raw
  { x with
    table := m.table
    history := lastHistory (x.history ++ x.slice)
    slice := []
    complete := false
    cur := { payload := x.cur.payload ++ codeSlice m.out x.slice
             raw := x.cur.raw + x.slice.length
             slices := x.cur.slices + 1 } }

/-- A block that now holds 32 slices closes (R91, R94). -/
def Pump.sliceLimit (p : Pump) : Pump := if Config.slicesMax ≤ p.cx.cur.slices then p.closeBlock else p

/-- A compression completes in the context of t (R94). -/
def State.compressed (s : State) (t : Tr) : State :=
  let c := s.tc t
  let p := Pump.sliceLimit { cx := (s.cx t).compressed, intake := c.intake, blockQ := c.blockQ }
  ((s.setCx t p.cx).setTc t { c with blockQ := p.blockQ }).gather t

end Sys2Proof.Machine
end

