-- ==== Sys2Proof/Machine/WriteJob.lean ====
section
/-! DEFINITION. The write job (chapter 6) from the end of its locate to its report: the formatter, read-back and the
tail rewrite, hitches, the drain, ABORT. -/

namespace Sys2Proof.Machine

/-! ## What the formatter looks at -/

/-- Whether the job has begun to end (R109, R111). -/
def WriteJob.ending (w : WriteJob) : Bool :=
  w.closing || decide (w.abort ≠ .none) || w.verdict.isSome

/-- Whether a frame of a DATA or MARK entry is in flight (R119, R121). -/
def Tc.blocksInFlight (c : Tc) : Bool := c.inflight.any (·.entry.isSome)

/-- Whether a written frame is of a kind (R114). -/
def WFrame.isKind (f : WFrame) (k : FrameKind) : Bool := decide (f.hdr.kind = k.byte)

/-- The result of a job that drains: a decided WRITE_FAULT or END_OF_MEDIA, else ABORTED after an ABORT, else OK
(R121, R124, R126). -/
def WriteJob.result (w : WriteJob) : JobResult :=
  match w.verdict with
  | some v => v
  | none => if w.abort = .none then .ok else .aborted

/-- The frame of an entry at a frame place: its write pass is its rewrite count (R81, R113, R118). -/
def WEntry.frame (e : WEntry) (place : Nat) (fromRewrite : Bool) : WFrame where
  hdr :=
    match e.block with
    | some b => mkHeader .data e.rewrites place e.addr e.file b.raw b.slices b.payload
    | none => mkHeader .mark e.rewrites place e.addr e.file 0 0 []
  payload := (e.block.map (·.payload)).getD []
  entry := some e
  fromRewrite := fromRewrite

/-- A FILLER or EOD frame: next address, next file number, write pass 0 (R74, R113, R122). -/
def WriteJob.plainFrame (w : WriteJob) (kind : FrameKind) (place : Nat) : WFrame where
  hdr := mkHeader kind 0 place w.nextAddr w.nextFile 0 0 []
  payload := []
  entry := none
  fromRewrite := false

/-! ## Beginning a frame -/

/-- EARLY_WARNING at the first frame place at or beyond C - 2048 (R125). -/
def State.warn (s : State) (t : Tr) (place : Nat) : State :=
  match (s.tc t).writeJob with
  | some w =>
    if !w.warned && decide (s.warningAt t ≤ place) then
      (s.modWrite t fun w => { w with warned := true }).notify (.earlyWarning t place w.rawOnTape)
    else s
  | none => s

/-- The formatter hands a frame to the mechanism (R113). -/
def State.beginFrame (s : State) (t : Tr) (f : WFrame) : State :=
  (s.warn t f.hdr.frame).modWrite t fun w => { w with inProgress := some f }

/-- An entry taken from the block queue for its first writing takes the next address, and a mark the next file number
as its index (R112). -/
def State.firstWriting (s : State) (t : Tr) (w : WriteJob) (place : Nat) (block : Option Block)
    (rest : List QEntry) : State :=
  let e : WEntry := { block, addr := w.nextAddr, file := w.nextFile, rewrites := 0 }
  let s1 := s.modTc t fun c => { c with blockQ := rest }
  let s2 := s1.modWrite t fun w =>
    { w with nextAddr := w.nextAddr + 1, nextFile := if block.isNone then w.nextFile + 1 else w.nextFile }
  s2.beginFrame t (e.frame place false)

/-- The frame of a drain: a FILLER while DATA or MARK frames are in flight, then the EOD frame (R121, R122). -/
def State.drainFrame (s : State) (t : Tr) (place : Nat) : State :=
  match (s.tc t).writeJob with
  | some w =>
    s.beginFrame t (w.plainFrame (if (s.tc t).blocksInFlight then .filler else .eod) place)
  | none => s

/-! ## Discarding (R110, R117, R124, R126) -/

/-- Intake, context's work, and the block queue unless it is kept, discarded and counted (R110, R124). -/
def State.discardWork (s : State) (t : Tr) (keepQueue : Bool) : State :=
  let c := s.tc t
  let raw := intakeRaw c.intake + (s.cx t).raw + (if keepQueue then 0 else (c.blockQ.map QEntry.raw).sum)
  let s1 := (s.clearCtx t .write).modTc t fun c =>
    { c with intake := [], blockQ := if keepQueue then c.blockQ else [] }
  s1.modWrite t fun w => { w with rawDiscarded := w.rawDiscarded + raw }

/-- The job stops writing entries: DRAINING, when it streams (R121); a drain out of HITCH or WAITING starts from
WAITING (R120). -/
def Tc.toDrain (c : Tc) : Tc := if c.st = .writing then c.goto .draining else c

/-- WRITE_FAULT or END_OF_MEDIA is decided (R117, R126): the first decision stands; the entries given up are counted
as lost, next address and file number return to the first of them; everything queued is discarded. -/
def State.giveUp (s : State) (t : Tr) (v : JobResult) (given : List WEntry) : State :=
  let s1 := s.discardWork t false
  let s2 := s1.modWrite t fun w =>
    { w with
      verdict := some (w.verdict.getD v)
      blocksLost := w.blocksLost + given.length
      rawDiscarded := w.rawDiscarded + (given.map WEntry.raw).sum
      nextAddr := match given with | e :: _ => e.addr | [] => w.nextAddr
      nextFile := match given with | e :: _ => e.file | [] => w.nextFile }
  s2.modTc t fun c => ({ c with rewrite := [] }).toDrain

/-! ## The choice (R113) -/

/-- The transport hitches: the in-flight fillers are removed, the filler count returns to 0 (R120, R142). -/
def State.writeHitch (s : State) (t : Tr) : State :=
  let s1 := s.modTc t fun c =>
    { c.goto .hitch with inflight := c.inflight.filter fun f => !f.isKind .filler }
  s1.modWrite t fun w =>
    { w with hitches := w.hitches + 1, fillers := 0, fillerLimit := (s1.tc t).gov.active.filler }

/-- R113's table, at a frame place. -/
def State.chooseFrame (s : State) (t : Tr) (w : WriteJob) (place : Nat) : State :=
  let c := s.tc t
  if decide (s.reserveAt t ≤ place) && (decide (c.st ≠ .draining) || !c.rewrite.isEmpty) then
    (s.giveUp t .endOfMedia c.rewrite).drainFrame t place
  else
    match c.rewrite with
    | e :: rest => (s.modTc t fun c => { c with rewrite := rest }).beginFrame t (e.frame place true)
    | [] =>
      if c.st = .draining then s.drainFrame t place
      else
        match c.blockQ with
        | .block b :: rest => s.firstWriting t w place (some b) rest
        | .mark :: rest => s.firstWriting t w place none rest
        | .close :: rest => (s.modTc t fun c => ({ c with blockQ := rest }).toDrain).drainFrame t place
        | _ =>
          if w.fillers < w.fillerLimit ∨ c.blocksInFlight then s.beginFrame t (w.plainFrame .filler place)
          else s.writeHitch t

/-- An ABORT FINISH_QUEUED goes to DRAINING once the block queue has been written (R121; log entry 43). -/
def Tc.finishQueued (c : Tc) : Tc :=
  match c.writeJob with
  | some w => if w.abort = .finishQueued ∧ c.blockQ = [] ∧ w.inProgress = none then c.toDrain else c
  | none => c

/-- Whether the formatter may choose now (R113, R122): streaming, no frame being written, no result of a frame four
places back or of an EOD frame outstanding. -/
def Tc.mayChoose (c : Tc) (w : WriteJob) (place : Nat) : Bool :=
  (decide (c.st = .writing) || decide (c.st = .draining)) && w.inProgress.isNone &&
    c.inflight.all fun f => decide (place < f.hdr.frame + 4) && !f.isKind .eod

/-- The formatter chooses the next frame, if it may (R113). -/
def State.choose (s : State) (t : Tr) : State :=
  let s1 := s.modTc t Tc.finishQueued
  match (s1.tc t).writeJob, (s1.tc t).pos with
  | some w, some place => if (s1.tc t).mayChoose w place then s1.chooseFrame t w place else s1
  | _, _ => s1

/-! ## Resuming from WAITING (R120, R142) -/

/-- Whether a write job in WAITING resumes streaming (R120). -/
def Tc.writeResumes (c : Tc) (w : WriteJob) : Bool :=
  decide (c.st = .waiting) && w.start.isSome &&
    (decide (c.gov.active.restart ≤ c.blockQ.length) || c.blockQ.contains .mark || c.blockQ.contains .close ||
      decide (w.abort ≠ .none) || w.verdict.isSome)

/-- The state in which a write job resumes: DRAINING when all that is left is to drain (R121, R135). -/
def Tc.resumeState (c : Tc) (w : WriteJob) : TcState :=
  if w.verdict.isSome || decide (w.abort = .immediate) || (decide (w.abort = .finishQueued) && c.blockQ.isEmpty)
  then .draining else .writing

/-- The resume test, and the first choice of the new streaming (R113, R120, R135). -/
def State.writeResume (s : State) (t : Tr) : State :=
  match (s.tc t).writeJob with
  | some w =>
    if (s.tc t).writeResumes w then (s.modTc t fun c => c.stream (c.resumeState w)).choose t else s
  | none => s

/-- Everything that follows in a write job when its intake, its block queue or its settings have changed. -/
def State.writePump (s : State) (t : Tr) : State := ((s.gather t).writeResume t).gather t

/-! ## The start (R106) -/

/-- The locate of a write job has ended OK at the position held: first address, file number, and whether the search
recovered them (R66, R106; log entry 44). -/
def State.writeStart (s : State) (t : Tr) (addr file : Nat) (recovered : Bool) : State :=
  let s1 := s.modWrite t fun w =>
    { w with start := some addr, nextAddr := addr, nextFile := file, eodRecovered := recovered,
             fillerLimit := (s.tc t).gov.active.filler }
  let s2 := s1.modTc t fun c => { c with locate := none }
  match (s2.tc t).pos with
  | some place =>
    if s2.reserveAt t ≤ place then (s2.modTc t fun c => c.goto .ready).endJob t .endOfMedia
    else ((s2.modTc t fun c => c.goto .waiting).earn t Config.startCredits).writePump t
  | none => s2

/-! ## Write completions (R107, R113, R114, R136) -/

/-- What the first frame written by a job does to the record (R107). -/
def CartRecord.firstFrame (r : CartRecord) (mode : StartMode) : CartRecord :=
  let r1 := { r with eod := .opened, dirty := true }
  match mode with
  | .append => r1
  | .fromFile f =>
    let r2 := { r1 with map := r1.map.take f.toNat }
    if f = 0 then { r2 with rawTotal := 0, codedTotal := 0 } else r2

/-- What a completed frame does to the job's counts (R119, R122, R127, R142). -/
def WriteJob.wroteFrame (w : WriteJob) (f : WFrame) (limit : Nat) : WriteJob :=
  let w1 := { w with
    inProgress := none
    wrote := true
    framesWritten := w.framesWritten + 1
    rewritesWritten := if f.fromRewrite then w.rewritesWritten + 1 else w.rewritesWritten }
  if f.isKind .filler then { w1 with fillers := w1.fillers + 1, fillersWritten := w1.fillersWritten + 1 }
  else if f.isKind .eod then { w1 with eodFrames := w1.eodFrames + 1 }
  else { w1 with fillers := 0, fillerLimit := limit }

/-- Whether a completed frame joins the in-flight list: all but a DATA or MARK frame whose entry has moved to the
rewrite list meanwhile (R114; log entry 9). -/
def WFrame.joins (f : WFrame) : Bool := f.entry.isSome || f.isKind .filler || f.isKind .eod

/-- A frame of a write job is written: in flight, position advanced (log entry 70), evaluation, next choice (R107,
R113, R136). -/
def State.frameWritten (s : State) (t : Tr) (w : WriteJob) : State :=
  match w.inProgress with
  | none => s
  | some f =>
    let s1 := if w.wrote then s else s.modBay t fun r => r.firstFrame w.mode
    let s2 := s1.modTc t fun c =>
      { c with
        pos := some (f.hdr.frame + 1)
        inflight := if f.joins then c.inflight ++ [f] else c.inflight }
    let s3 := s2.modWrite t fun w => w.wroteFrame f (s.tc t).gov.active.filler
    let s4 := s3.modTc t fun c =>
      if c.st = .writing then { c with gov := c.gov.countFrame true c.blockQ.length } else c
    (s4.choose t).gather t

/-! ## Read-back results (R114 to R117, R122, R123) -/

/-- What a confirmation does to the record (R11, R12, R115). -/
def CartRecord.confirm (r : CartRecord) (e : WEntry) (frame : Nat) : CartRecord :=
  match e.block with
  | some b =>
    { r with rawTotal := satAdd Config.max64 r.rawTotal b.raw
             codedTotal := satAdd Config.max64 r.codedTotal b.payload.length }
  | none => r.learn e.file e.addr frame

/-- What a confirmation does to the job's counts (R115, R127). -/
def WriteJob.confirm (w : WriteJob) (e : WEntry) : WriteJob :=
  match e.block with
  | some b =>
    { w with blocksConfirmed := w.blocksConfirmed + 1, rawOnTape := w.rawOnTape + b.raw,
             coded := w.coded + b.payload.length }
  | none => { w with marksConfirmed := w.marksConfirmed + 1 }

/-- A GOOD result confirms the oldest entry (R115, R164). -/
def State.confirm (s : State) (t : Tr) (f : WFrame) (e : WEntry) : State :=
  let s1 := s.modTc t fun c => { c with inflight := c.inflight.tail }
  let s2 := s1.modBay t fun r => r.confirm e f.hdr.frame
  (s2.modWrite t fun w => w.confirm e).watchTest t .write e.block.isNone e.addr e.file f.hdr.frame

/-- An entry moved to the rewrite list: its rewrite count increases by one (R117). -/
def WEntry.again (e : WEntry) : WEntry := { e with rewrites := e.rewrites + 1 }

/-- The entries of the failed tail, in write order: those in flight, and that of a frame being written (R117; log
entry 9). -/
def Tc.tail (c : Tc) (w : WriteJob) : List WEntry :=
  (c.inflight.filterMap (·.entry)) ++ ((w.inProgress.bind (·.entry)).toList)

/-- A BAD result for the oldest entry (R117). -/
def State.tailRewrite (s : State) (t : Tr) (w : WriteJob) : State :=
  let c := s.tc t
  let moved := (c.tail w).map WEntry.again
  let all := moved ++ c.rewrite
  let s1 := (s.modTc t fun c => { c with inflight := [], rewrite := all }).modWrite t fun w =>
    { w with inProgress := w.inProgress.map fun f => { f with entry := none } }
  let worst := match moved with | e :: _ => e.rewrites | [] => 0
  if w.limit < worst then s1.giveUp t .writeFault all
  else if s.reserveAt t ≤ (c.nextPlace).getD 0 then s1.giveUp t .endOfMedia all
  else s1

/-- The update of the record at the end of a drain (R123). -/
def CartRecord.writeEnd (r : CartRecord) (h : Header) : CartRecord :=
  { r with eod := .known h.addr h.frame h.file, dirty := true }

/-- The end of a write job after its drain, at the last EOD frame (R110, R122, R123), the position behind it (log entry
70). -/
def State.endWrite (s : State) (t : Tr) (h : Header) (unconfirmed : Bool) : State :=
  let s1 := (s.modBay t fun r => r.writeEnd h).modTc t fun c => { c.goto .ready with pos := some (h.frame + 1) }
  let s2 := s1.modWrite t fun w =>
    { w with eodAddr := some h.addr, eodFrame := some h.frame, eodUnconfirmed := unconfirmed,
             rawDiscarded := w.rawDiscarded + intakeRaw (s.tc t).intake }
  match (s.tc t).writeJob with
  | some w => s2.endJob t w.result
  | none => s2

/-- The result of an EOD frame (R122). -/
def State.eodResult (s : State) (t : Tr) (w : WriteJob) (f : WFrame) (good : Bool) : State :=
  let s1 := s.modTc t fun c => { c with inflight := c.inflight.tail }
  if good then s1.endWrite t f.hdr false
  else if w.eodFrames < 3 ∧ (s.tc t).pos.getD 0 < s.frames t then s1.choose t
  else s1.endWrite t f.hdr true

/-- A read-back result of a write job: taken for the oldest entry; for a frame that has left the list it is discarded
(R114 to R117, R122). -/
def State.writeResult (s : State) (t : Tr) (w : WriteJob) (place : Nat) (raw : RawFrame) : State :=
  match (s.tc t).inflight with
  | [] => s
  | f :: _ =>
    if f.hdr.frame ≠ place then s
    else
      match f.entry with
      | some e =>
        let s1 := if judge f.hdr raw then s.confirm t f e else s.tailRewrite t w
        (s1.choose t).gather t
      | none =>
        if f.isKind .eod then s.eodResult t w f (judge f.hdr raw)
        else ((s.modTc t fun c => { c with inflight := c.inflight.tail }).choose t).gather t

/-! ## MARK, CLOSE and ABORT (R111, R124) -/

/-- The MARK and CLOSE items of an intake queue (R111). -/
def itemCount (q : List IntakeItem) : Nat :=
  (q.filter fun
    | .item _ => true
    | .chunk _ _ => false).length

/-- A MARK or CLOSE taken by a running write job that has not begun to end (R111). -/
def State.takeItem (s : State) (t : Tr) (tag code : Byte) (i : Item) : State :=
  if itemCount (s.tc t).intake < Config.itemMax then
    let s1 := (s.accept t tag code).modTc t fun c => { c with intake := c.intake ++ [.item i] }
    (s1.modWrite t fun w => { w with closing := w.closing || decide (i = .close) }).writePump t
  else s.refuse t tag code .queueFull

/-- The job ends ABORTED before it has written a frame: all it holds is discarded (R124). -/
def State.abortUnwritten (s : State) (t : Tr) : State :=
  let s1 := s.discardWork t false
  (s1.modTc t fun c => c.goto .ready).endJob t .aborted

/-- An ABORT of a write job whose locate has ended (R124), apart from its reply. -/
def State.abortWrite (s : State) (t : Tr) (w : WriteJob) (now : Bool) : State :=
  let c := s.tc t
  if c.st = .draining ∨ w.verdict.isSome ∨ w.abort = .immediate then s
  else if c.st = .waiting ∧ !w.wrote then s.abortUnwritten t
  else if now then
    let s1 := (s.discardWork t false).modWrite t fun w => { w with abort := .immediate }
    ((s1.modTc t Tc.toDrain).choose t).writePump t
  else if w.abort = .finishQueued then s
  else
    let s1 := (s.discardWork t true).modWrite t fun w => { w with abort := .finishQueued }
    (s1.choose t).writePump t

/-! ## Hitch completion (R120) -/

/-- The stop and back-up of a write-side hitch completes (R120). -/
def State.writeHitched (s : State) (t : Tr) : State :=
  if (s.tc t).st = .hitch then (s.modTc t fun c => c.goto .waiting).writePump t else s

end Sys2Proof.Machine
end

