-- ==== Sys2Proof/Machine/Locate.lean ====
section
/-! DEFINITION. Locating by address, by file and to the end of data (sections 3.8 to 3.10), and the requests that begin
with it: WRITE (R105), VERIFY (R153), RESTORE (R145). -/

namespace Sys2Proof.Machine

/-! ## Failure (R62 to R66) -/

/-- The address that a locate seeks, as its failure reports it (R63; log entry 19): that of the block located, or the
expected address of a mark count, of an end-of-data search or of a resync. -/
def Locate.sought (l : Locate) : Nat :=
  match l.phase with
  | .fast _ | .checking _ _ | .forward _ => l.a
  | _ => l.x

/-- What the job of a failed locate will report: the address sought, the frame reached for LOCATE_FAULT and BEYOND_EOD
(R63), which is C behind frame C - 1 (log entry 70), the address of a read fault, the bytes left in a comparison's intake
(R158). -/
def State.tellLocate (s : State) (t : Tr) (l : Locate) (res : JobResult) : State :=
  let reached := if res = .locateFault ∨ res = .beyondEod then (s.tc t).pos else none
  ((s.modWrite t fun w => { w with sought := some l.sought, reached }).countSurplus t).modRead t fun r =>
    { r with sought := some l.sought, reached, readFault := if res = .readFault then some l.x else r.readFault }

/-- A locate ends in a failure: its job ends with the same result, the transport READY (R63). -/
def State.locateFail (s : State) (t : Tr) (l : Locate) (res : JobResult) : State :=
  ((s.tellLocate t l res).modTc t fun c => c.goto .ready).endJob t res

/-- A locate ends POSITION_FAULT: the transport is ADRIFT (R50, R62). A resync's is told as its failed locate (log entry
55), and the bytes left in its job's intake are surplus (R158). -/
def State.positionLost (s : State) (t : Tr) (l : Locate) : State :=
  ((s.tellLocate t l .positionFault).modTc t fun c => { c.goto .adrift with pos := none }).endJob t .positionFault

/-! ## The estimate (R61) -/

/-- The map entry with the greatest logical address not above a, wherever it stands in the map (R61); of two with the same
address the later one (log entry 69). -/
def entryFor : List MapEntry → Nat → Option MapEntry
  | [], _ => none
  | e :: m, a =>
    match entryFor m a with
    | some b => if e.addr ≤ a ∧ b.addr < e.addr then some e else some b
    | none => if e.addr ≤ a then some e else none

/-- The estimate of R61 from a file map: from the label frame it is a + 1. -/
def estimateFor (m : List MapEntry) (a : Nat) : Nat :=
  match entryFor m a with
  | some e => e.frame + (a - e.addr)
  | none => a + 1

/-- The file map of the cartridge in t's bay (R11). -/
def State.mapOf (s : State) (t : Tr) : List MapEntry := ((s.bayRecord t).map (·.map)).getD []

/-- The EOD field of the cartridge in t's bay (R10). -/
def State.eodOf (s : State) (t : Tr) : Eod := ((s.bayRecord t).map (·.eod)).getD .unknown

/-- The end bound a reading holds (R84). -/
def State.boundOf (s : State) (t : Tr) : Option Nat :=
  match s.eodOf t with
  | .known a _ _ => some a
  | _ => none

/-- A locate by address begins: BEYOND_EOD without motion at an estimate of C or more, else the fast move to the
estimate minus 8 (R61). -/
def State.locateAddress (s : State) (t : Tr) (writing : Bool) (goal : LocGoal) (a e : Nat) : State :=
  let l : Locate := { writing, goal, a, e, bound := s.boundOf t, x := a, phase := .fast (max 1 (e - 8)) }
  if s.frames t ≤ e then s.locateFail t l .beyondEod else s.modTc t fun c => { c with locate := some l }

/-- A search or mark count begins: at the last map entry, located by address, or by a fast move to frame 1 (R64, R66;
log entry 20). -/
def State.locateFrom (s : State) (t : Tr) (writing : Bool) (goal : LocGoal) : State :=
  match (s.mapOf t).getLast? with
  | some e =>
    let s1 := s.locateAddress t false goal e.addr e.frame
    s1.modTc t fun c => { c with locate := c.locate.map fun l => { l with writing } }
  | none =>
    s.modTc t fun c =>
      { c with locate := some { writing, goal, a := 0, e := 1, bound := s.boundOf t, x := 0, phase := .fastFirst } }

/-- A locate to file f begins (R64). -/
def State.locateFile (s : State) (t : Tr) (writing : Bool) (f : Nat) : State :=
  if f = 0 then s.locateAddress t writing .address 0 (estimateFor (s.mapOf t) 0)
  else
    match (s.mapOf t)[f - 1]? with
    | some e => s.locateAddress t writing .address (e.addr + 1) (estimateFor (s.mapOf t) (e.addr + 1))
    | none => s.locateFrom t writing (.marks f)

/-! ## The end-of-data search (R66) -/

/-- The search begins at the position held; a place in the reserve zone ends the job END_OF_MEDIA (R66). -/
def State.searchStart (s : State) (t : Tr) (l : Locate) (files : Nat) : State :=
  let place := (s.tc t).pos.getD 0
  if s.reserveAt t ≤ place then s.locateFail t l .endOfMedia
  else
    s.modTc t fun c =>
      { c with locate := some { l with phase := .searching { startFrame := place, startFiles := files }, skip := 0 } }

/-- The file count that a recovered end of data hands on (R66). -/
def Search.files (sr : Search) : Nat :=
  match sr.lastAccepted with
  | some (k, mark) => if mark then k + 1 else k
  | none => sr.startFiles

/-- The first frame to write after a recovered end of data (R66). -/
def Search.place (sr : Search) : Nat :=
  match sr.lastGood with
  | some p => p + 1
  | none => sr.startFrame

/-- What a frame as read does to the tracking of a search (R66). -/
def Search.track (sr : Search) (raw : RawFrame) : Search :=
  match readFrame raw with
  | some f => { sr with lastGood := some f.hdr.frame, run := 0 }
  | none => { sr with run := sr.run + 1 }

/-- The search goes on unless it has reached the reserve zone (R66). -/
def State.searchOn (s : State) (t : Tr) (l : Locate) : State :=
  if s.reserveAt t ≤ (s.tc t).pos.getD 0 then s.locateFail t l .endOfMedia
  else s.modTc t fun c => { c with locate := some l }

/-- A frame without a good header in the end-of-data search: the run of R66 takes it before the accept rule (R82), so the
skip run stays (log entry 50). The position has already passed it. -/
def State.searchLost (s : State) (t : Tr) (l : Locate) (sr : Search) : State :=
  if Config.blankRun ≤ sr.run then
    (s.modTc t fun c => { c with pos := some sr.place }).writeStart t l.x sr.files true
  else s.searchOn t { l with phase := .searching sr }

/-- A frame with a good header in the end-of-data search, under the accept rule (R66, R82, R83). The position has already
passed it. -/
def State.searchAccept (s : State) (t : Tr) (l : Locate) (sr : Search) (raw : RawFrame) : State :=
  match classify l.x raw with
  | .endOfData f => (s.modTc t fun c => { c with pos := some f.hdr.frame }).writeStart t l.x f.hdr.file false
  | .accepted f mark =>
    (s.learn t f.info mark).searchOn t
      { l with x := l.x + 1, skip := 0, phase := .searching { sr with lastAccepted := some (f.hdr.file, mark) } }
  | .uncounted => s.searchOn t { l with phase := .searching sr }
  | .counted =>
    if Config.skipMax ≤ l.skip + 1 then s.locateFail t l .readFault
    else s.searchOn t { l with skip := l.skip + 1, phase := .searching sr }

/-- A frame read in the end-of-data search (R66, R82; log entry 21). -/
def State.searchFrame (s : State) (t : Tr) (l : Locate) (sr : Search) (raw : RawFrame) : State :=
  let s1 := s.modTc t fun c => c.passed raw
  match readFrame raw with
  | none => s1.searchLost t l (sr.track raw)
  | some _ => s1.searchAccept t l (sr.track raw) raw

/-! ## Counting marks (R64) -/

/-- The mark-counting goes on with the next expected address, unless the end bound is met (R64, R84). -/
def State.countOn (s : State) (t : Tr) (l : Locate) : State :=
  if l.bound = some l.x then s.locateFail t l .beyondEod else s.modTc t fun c => { c with locate := some l }

/-- Whether an accepted frame is the mark that a mark count seeks (R64). -/
def LocGoal.soughtMark (g : LocGoal) (f : ReadFrame) (mark : Bool) : Bool :=
  match g with
  | .marks k => mark && decide (f.hdr.file + 1 = k)
  | _ => false

/-- The file a mark count leads to (R64). -/
def LocGoal.file : LocGoal → Nat
  | .marks k => k
  | _ => 0

/-- A frame accepted in a mark count, or by the locate of the mark it starts from (R64, R67). At the mark sought a writing
locate ends OK, also at the end bound, where a reading one has met the end of data (R84; log entry 51). -/
def State.countAccept (s : State) (t : Tr) (l : Locate) (found : Bool) (f : ReadFrame) (mark : Bool) : State :=
  if found then s.readStart t f mark
  else
    let s1 := s.learn t f.info mark
    if l.goal.soughtMark f mark && l.writing then s1.writeStart t (f.hdr.addr + 1) l.goal.file false
    else
      s1.countOn t { l with x := f.hdr.addr + 1, skip := 0, phase := .counting (l.goal.soughtMark f mark) }

/-- A frame read in a mark count (R64). -/
def State.countFrame (s : State) (t : Tr) (l : Locate) (found : Bool) (raw : RawFrame) : State :=
  let s1 := s.modTc t fun c => c.passed raw
  match classify l.x raw with
  | .accepted f mark => s1.countAccept t l found f mark
  | .endOfData _ => s1.locateFail t l .beyondEod
  | .uncounted => s1.modTc t fun c => { c with locate := some l }
  | .counted =>
    if Config.skipMax ≤ l.skip + 1 then s1.locateFail t l .readFault
    else s1.modTc t fun c => { c with locate := some { l with skip := l.skip + 1 } }

/-! ## The forward search (R63) -/

/-- A reading locate by address has accepted its block: the job's first acceptance, or the start of a mark count or of
the end-of-data search (R63, R64, R66). -/
def State.located (s : State) (t : Tr) (l : Locate) (f : ReadFrame) (mark : Bool) : State :=
  match l.goal with
  | .address => s.readStart t f mark
  | .marks _ => s.countAccept t l false f mark
  | .endOfData =>
    (s.learn t f.info mark).searchStart t { l with x := f.hdr.addr + 1 } ((s.mapOf t).length)

/-- The address and file number at which a write job's located first frame stands (R106). -/
def State.writeTarget (s : State) (t : Tr) (l : Locate) : Nat × Nat :=
  match (s.tc t).writeJob with
  | some w =>
    match w.mode, s.eodOf t with
    | .append, .known a _ n => (a, n)
    | .append, _ => (l.a, 0)
    | .fromFile f, _ => (l.a, f.toNat)
  | none => (l.a, 0)

/-- Whether a frame ends a writing locate by address: a good header of a DATA, MARK or EOD frame with the address
sought (R63). -/
def Locate.writingHit (l : Locate) (f : ReadFrame) : Bool :=
  l.writing && decide (l.goal = .address) && decide (f.hdr.addr = l.a) &&
    (decide (f.hdr.kind = 2) || decide (f.hdr.kind = 3) || decide (f.hdr.kind = 5))

/-- Whether an EOD frame ends a locate BEYOND_EOD: any with a good header check that is not above the address sought, for
a reading locate, or below it, for a writing one (R63). -/
def Locate.eodHit (l : Locate) (f : ReadFrame) : Bool :=
  decide (f.hdr.kind = 5) &&
    (if l.writing && decide (l.goal = .address) then decide (f.hdr.addr < l.a) else decide (f.hdr.addr ≤ l.a))

/-- A frame of the forward search (R63); the position has already passed it. -/
def State.forwardFrame (s : State) (t : Tr) (l : Locate) (read : Nat) (raw : RawFrame) : State :=
  let on : State :=
    if Config.windowMax ≤ read + 1 then s.locateFail t l .locateFault
    else s.modTc t fun c => { c with locate := some { l with phase := .forward (read + 1) } }
  match readFrame raw with
  | none => on
  | some f =>
    if l.writingHit f then
      let p := s.writeTarget t l
      (s.modTc t fun c => { c with pos := some f.hdr.frame }).writeStart t p.1 p.2 false
    else if l.eodHit f then s.locateFail t l .beyondEod
    else
      match classify l.a raw with
      | .accepted g mark => if l.writing && decide (l.goal = .address) then on else s.located t l g mark
      | _ => on

/-! ## Tries (R62) -/

/-- The locate after a failed try, in the fast move to `target` (R62). -/
def Locate.retry (l : Locate) (target : Nat) : Locate :=
  { l with tries := l.tries + 1, lastHeader := none, phase := .fast (max 1 target) }

/-- A try has failed: POSITION_FAULT at the third, else a fast move to `target` (R62). -/
def State.tryFailed (s : State) (t : Tr) (l : Locate) (target : Nat) : State :=
  if Config.triesMax ≤ l.tries + 1 then s.positionLost t l
  else s.modTc t fun c => { c with locate := some (l.retry target) }

/-- A frame read before the first good header of a try (R62). -/
def State.checkFrame (s : State) (t : Tr) (l : Locate) (start read : Nat) (raw : RawFrame) : State :=
  let s1 := s.modTc t fun c => c.passed raw
  match readFrame raw with
  | some f =>
    if f.hdr.frame ≤ l.e then s1.forwardFrame t { l with phase := .forward 0 } 0 raw
    else s1.tryFailed t l (l.e - 16)
  | none =>
    if Config.tryFrames ≤ read + 1 then s1.tryFailed t l (start - 16)
    else s1.modTc t fun c => { c with locate := some { l with phase := .checking start (read + 1) } }

/-- A frame read by a locate: the frame of a good header is noted (R65). -/
def Locate.noted (l : Locate) (raw : RawFrame) : Locate :=
  match readFrame raw with
  | some f => { l with lastHeader := some f.hdr.frame }
  | none => l

/-- A frame read in a locate (R62 to R64). -/
def State.locateFrame (s : State) (t : Tr) (raw : RawFrame) : State :=
  match (s.tc t).locate with
  | none => s
  | some l0 =>
    let l := l0.noted raw
    match l.phase with
    | .checking start read => s.checkFrame t l start read raw
    | .forward read => (s.modTc t fun c => c.passed raw).forwardFrame t l read raw
    | .counting found => s.countFrame t l found raw
    | _ => s

/-- A frame read in an end-of-data search (R66). -/
def State.eodSearchFrame (s : State) (t : Tr) (raw : RawFrame) : State :=
  match (s.tc t).locate with
  | none => s
  | some l0 =>
    let l := l0.noted raw
    match l.phase with
    | .searching sr => s.searchFrame t l sr raw
    | _ => s

/-! ## Fast moves (R50) -/

/-- Whether a fast move is in progress (R50). -/
def Locate.fastMoving (l : Locate) : Bool :=
  match l.phase with
  | .fast _ => true
  | .fastFirst => true
  | .resync _ => true
  | _ => false

/-- A fast move completes, with the tachometer's frame number (R50, R62, R64, R66, R160). -/
def State.fastMoved (s : State) (t : Tr) (tach : Nat) : State :=
  match (s.tc t).locate with
  | none => s
  | some l =>
    let s1 := s.modTc t fun c => { c with pos := some tach }
    match l.phase with
    | .fast _ => s1.modTc t fun c => { c with locate := some { l with phase := .checking tach 0 } }
    | .fastFirst =>
      match l.goal with
      | .endOfData => s1.searchStart t l 0
      | _ => s1.modTc t fun c => { c with locate := some { l with phase := .counting false } }
    | .resync _ =>
      ((s1.modRead t ReadJob.past).modTc t fun c => { c.stream .reading with locate := none }).readPump t
    | _ => s

/-- A fast move is not reported complete in time (R50, R62, R160). -/
def State.fastMoveLost (s : State) (t : Tr) : State :=
  match (s.tc t).locate with
  | none => s
  | some l => if l.fastMoving then s.positionLost t l else s

/-- The physical end of the tape is read (R63, R64, R66, R71, R83; log entry 25). -/
def State.physicalEnd (s : State) (t : Tr) : State :=
  match (s.tc t).locate with
  | some l =>
    match l.phase with
    | .checking _ _ | .forward _ => s.locateFail t l .locateFault
    | .counting _ | .searching _ => s.locateFail t l .readFault
    | _ => s
  | none => if (s.tc t).st = .reading then s.readFault t else s

/-! ## The requests (R105, R145, R153) -/

/-- The first check of R105 that fails. -/
def State.writeRefusal (s : State) (t : Tr) (mode : StartMode) : Option Reason :=
  if (s.tc t).st ≠ .ready then some .state
  else
    let range : Bool := match mode with | .fromFile f => decide (f = 0xFFFFFFFF#32) | .append => false
    if range then some .range
    else if s.protectOf t ≠ some .clear then some .writeProtected
    else
      match mode, s.eodOf t with
      | .fromFile f, .known _ _ n => if n < f.toNat then some .beyondEod else none
      | _, _ => none

/-- The locate of a write job begins (R106). -/
def State.beginWriteLocate (s : State) (t : Tr) (mode : StartMode) : State :=
  match mode with
  | .append =>
    match s.eodOf t with
    | .known a p _ => s.locateAddress t true .address a p
    | _ => s.locateFrom t true .endOfData
  | .fromFile f => s.locateFile t true f.toNat

/-- A WRITE request (R105, R106). -/
def State.takeWrite (s : State) (t : Tr) (tag : Byte) (mode : StartMode) (limit : Byte) : State :=
  match s.writeRefusal t mode with
  | some why => s.refuse t tag 0x24 why
  | none =>
    ((s.accept t tag 0x24).startJob t (.write { mode, limit := min 15 limit.toNat }) .locating .write).beginWriteLocate
      t mode

/-- Whether a KNOWN EOD lies at or before an address (R145, R153). -/
def State.beyond (s : State) (t : Tr) (a : Nat) : Bool :=
  match s.eodOf t with
  | .known e _ _ => decide (e ≤ a)
  | _ => false

/-- The first check of R153 that fails. -/
def State.verifyRefusal (s : State) (t : Tr) (a : Word) (range : VerifyRange) : Option Reason :=
  if (s.tc t).st ≠ .ready then some .state
  else if a = 0xFFFFFFFF#32 ∨ range = .count 0 then some .range
  else if s.beyond t a.toNat then some .beyondEod
  else none

/-- A VERIFY request (R153). -/
def State.takeVerify (s : State) (t : Tr) (tag : Byte) (a : Word) (range : VerifyRange) (mode : VerifyMode)
    (policy : FaultPolicy) : State :=
  match s.verifyRefusal t a range with
  | some why => s.refuse t tag 0x25 why
  | none =>
    ((s.accept t tag 0x25).startJob t
      (.read { spec := .verify a.toNat range mode policy, x := a.toNat, bound := s.boundOf t })
      .locating .read).locateAddress t false .address a.toNat (estimateFor (s.mapOf t) a.toNat)

/-- The address at which a reading is to begin: for a file it stands only once its locate has ended (R145, R146). -/
def startAddress : RestoreStart → Nat
  | .address a => a.toNat
  | .file _ => 0

/-- The address or file at which a restore starts (R145). -/
def startValue : RestoreStart → Word
  | .address a => a
  | .file f => f

/-- The first check of R145 that fails. -/
def State.restoreRefusal (s : State) (t : Tr) (start : RestoreStart) (stop : RestoreEnd) : Option Reason :=
  if (s.tc t).st ≠ .ready then some .state
  else if startValue start = 0xFFFFFFFF#32 ∨ stop = .count 0 then some .range
  else
    match start, s.eodOf t with
    | .address a, .known e _ _ => if e ≤ a.toNat then some .beyondEod else none
    | .file f, .known _ _ n => if n < f.toNat then some .beyondEod else none
    | _, _ => none

/-- The locate of a restore begins (R146). -/
def State.beginRestoreLocate (s : State) (t : Tr) : RestoreStart → State
  | .address a => s.locateAddress t false .address a.toNat (estimateFor (s.mapOf t) a.toNat)
  | .file f => s.locateFile t false f.toNat

/-- A RESTORE request (R145). -/
def State.takeRestore (s : State) (t : Tr) (tag : Byte) (start : RestoreStart) (offset : Word) (stop : RestoreEnd) :
    State :=
  match s.restoreRefusal t start stop with
  | some why => s.refuse t tag 0x26 why
  | none =>
    ((s.accept t tag 0x26).startJob t
      (.read { spec := .restore offset.toNat stop, x := startAddress start, bound := s.boundOf t })
      .locating .read).beginRestoreLocate t start

/-! ## Requests that reach running streaming jobs -/

/-- Whether a job's first locate is in progress: every locate but a verify's resync (R65, R124, R162). -/
def Tc.locatingFirst (c : Tc) : Bool :=
  match c.locate with
  | some l =>
    match l.phase with
    | .resync _ => false
    | _ => true
  | none => false

/-- An ABORT during a job's first locate ends it ABORTED at once (R65). -/
def State.abortLocate (s : State) (t : Tr) (tach : Nat) : State :=
  let s1 := ((s.countSurplus t).discardWork t false).modTc t fun c => { c.goto .ready with pos := c.abortPos tach }
  s1.endJob t .aborted

/-- An ABORT request (R51, R65, R124, R162). -/
def State.takeAbort (s : State) (t : Tr) (tag : Byte) (mode : AbortMode) (bay : BaySense) : State :=
  match (s.tc t).job with
  | some (.write w) =>
    if mode = .atMark then s.refuse t tag 0x27 .range
    else
      let s1 := s.done t tag 0x27 []
      if (s.tc t).locatingFirst then s1.abortLocate t bay.tach else s1.abortWrite t w (decide (mode = .immediate))
  | some (.read r) =>
    if mode = .finishQueued then s.refuse t tag 0x27 .range
    else
      let s1 := s.done t tag 0x27 []
      if (s.tc t).locatingFirst then s1.abortLocate t bay.tach
      else s1.abortRead t r (decide (mode = .immediate)) bay.tach
  | _ => s.refuse t tag 0x27 .state

/-- A MARK request (R51, R111). -/
def State.takeMark (s : State) (t : Tr) (tag : Byte) : State :=
  match (s.tc t).writeJob with
  | some w => if w.ending then s.refuse t tag 0x28 .state else s.takeItem t tag 0x28 .mark
  | none => s.refuse t tag 0x28 .state

/-- A CLOSE request (R51, R111, R155). -/
def State.takeClose (s : State) (t : Tr) (tag : Byte) : State :=
  match (s.tc t).job with
  | some (.write w) => if w.ending then s.refuse t tag 0x29 .state else s.takeItem t tag 0x29 .close
  | some (.read r) => if r.takesClose then s.closeCompare t tag else s.refuse t tag 0x29 .state
  | _ => s.refuse t tag 0x29 .state

/-- A chunk joins the intake queue against a credit (R109). -/
def Tc.takeChunk (c : Tc) (bytes : List Byte) : Tc :=
  { c with granted := c.granted - 1, intake := c.intake ++ [.chunk bytes bytes.length] }

/-- A credit is used by a chunk that is discarded (R109). -/
def Tc.useCredit (c : Tc) : Tc := { c with granted := c.granted - 1 }

/-- A DATA_IN frame on a transport's channel (R109, R155; log entry 22). -/
def State.takeDataIn (s : State) (t : Tr) (bytes : List Byte) : State :=
  if bytes = [] then s
  else if (s.tc t).granted = 0 then s.modLnk (·.unsolicited t)
  else
    match (s.tc t).job with
    | some (.write w) =>
      if w.ending then
        (s.modTc t Tc.useCredit).modWrite t fun w => { w with rawDiscarded := w.rawDiscarded + bytes.length }
      else (s.modTc t fun c => c.takeChunk bytes).writePump t
    | some (.read r) =>
      if r.closing || r.atMark then
        (s.modTc t Tc.useCredit).modRead t fun r => { r with surplus := r.surplus + bytes.length }
      else (s.modTc t fun c => c.takeChunk bytes).readPump t
    | _ => s.modTc t Tc.useCredit

/-- A stop and back-up completes (R120, R140). -/
def State.hitched (s : State) (t : Tr) : State :=
  match (s.tc t).job with
  | some (.write _) => s.writeHitched t
  | some (.read _) => s.readHitched t
  | _ => s

/-- A write completion (R58, R113). -/
def State.writeCompleted (s : State) (t : Tr) : State :=
  match (s.tc t).job with
  | some (.label j) => s.labelWritten t j
  | some (.write w) => s.frameWritten t w
  | _ => s

/-- A read-back result (R59, R114). -/
def State.readBack (s : State) (t : Tr) (place : Nat) (raw : RawFrame) : State :=
  match (s.tc t).job with
  | some (.label j) =>
    match (s.tc t).inflight with
    | f :: _ => if f.hdr.frame = place then s.labelResult t j f raw else s
    | [] => s
  | some (.write w) => s.writeResult t w place raw
  | _ => s

/-- The jobs look at their queues again after a move of the settings (R142). -/
def State.settingsMoved (s : State) (t : Tr) : State :=
  match (s.tc t).job with
  | some (.write _) => s.writePump t
  | some (.read _) => s.readPump t
  | _ => s

end Sys2Proof.Machine
end

