-- ==== Sys2Proof/Machine/Datapath.lean ====
section
/-! DEFINITION. The shared datapath of the CMU (R100 to R102): readiness, the choice of the next operation, and its
completions (R94, R99). -/

namespace Sys2Proof.Machine

/-- Whether the context of t is ready to compress: a complete slice that no operation has taken (R101). -/
def State.writeReady (s : State) (t : Tr) : Bool :=
  (s.tc t).isWrite && (s.cx t).complete && !s.opOf t

/-- Whether the context of t is ready (R101). -/
def State.ready (s : State) (t : Tr) : Bool := s.writeReady t || s.readReady t

/-- The datapath takes the context of t (R100). -/
def State.dpTake (s : State) (t : Tr) : State :=
  if s.writeReady t then { s with dp := some { t, decode := false, abandoned := false } } else s.beginDecode t

/-- At a completion of context `last`: the other context if it is ready, else the same, else idle (R102). -/
def State.dpNext (s : State) (last : Tr) : State :=
  if s.ready last.other then s.dpTake last.other
  else if s.ready last then s.dpTake last
  else s

/-- While idle, the datapath takes a context that has become ready, TC0's first when both have (R102; log entry 8). -/
def State.dpKick (s : State) : State :=
  if s.dp.isSome then s
  else if s.ready .tc0 then s.dpTake .tc0
  else if s.ready .tc1 then s.dpTake .tc1
  else s

/-- A compression completes: its slice is appended, unless the operation was abandoned, and the datapath chooses (R94,
R102, R103). -/
def State.compressionDone (s : State) : State :=
  match s.dp with
  | some o =>
    if o.decode then s
    else
      let s1 := { s with dp := none }
      (if o.abandoned then s1 else (s1.compressed o.t).writePump o.t).dpNext o.t
  | none => s

/-- A decode completes, or the completion of an abandoned one is discarded, and the datapath chooses (R99, R102,
R103). -/
def State.decodeDone (s : State) : State :=
  match s.dp with
  | some o =>
    if o.decode then
      let s1 := { s with dp := none }
      (if o.abandoned then s1 else s1.decoded o.t).dpNext o.t
    else s
  | none => s

end Sys2Proof.Machine
end

