-- ==== Sys2Proof/Machine/Link.lean ====
section
/-! DEFINITION. The host link (chapter 9) and what ends every event: the receiver, the outbound lane, the handling of
frames, the engine's own requests, and the whole-engine reset. -/

namespace Sys2Proof.Machine

/-! ## The outbound lane (R177 to R179) -/

/-- The transport whose DATA_OUT is served next (R179). -/
def State.laneData (s : State) : Option Tr :=
  if s.dataReady s.lnk.lastServed.other then some s.lnk.lastServed.other
  else if s.dataReady s.lnk.lastServed then some s.lnk.lastServed
  else none

/-- LNK's choice for a free lane: the oldest reply, else the oldest notice, else data (R178; log entry 7). -/
def State.laneChoose (s : State) : State :=
  if s.lnk.lane.isSome || s.lnk.hostHold then s
  else
    match s.lnk.replies with
    | r :: rest => s.modLnk fun l => { l with replies := rest, lane := some (replyFrame r) }
    | [] =>
      match s.lnk.notices with
      | n :: rest =>
        (s.modLnk fun l =>
          { l with notices := rest, lane := some (noticeFrame n l.lost), lost := false }).noticeLeft
      | [] =>
        match s.laneData with
        | some t => s.sendData t
        | none => s

/-! ## The end of an event -/

/-- What follows every event before the next is taken: an order in WAIT_BAY takes its transport's state (R31), the
next order starts (R26), the datapath and the lane make their choices (R102, R178). -/
def State.settle (s : State) : State := s.chgWatch.chgDrive.dpKick.laneChoose.dpKick

/-- The answer to a command: the state, settled. -/
def State.answer (s : State) : Host.Outcome State Fault Refusal := .next s.settle

/-! ## The receiver (R169 to R171) -/

/-- A frame that has passed joins the inbound buffer, or is discarded when it is full (R169). -/
def Lnk.buffer (l : Lnk) (f : InFrame) : Lnk :=
  if Config.inboundMax ≤ l.inbound.length then l.linkError
  else
    { l with
      inbound := l.inbound ++ [f]
      inboundHold := l.inboundHold || decide (Config.inboundMax ≤ l.inbound.length + 1) }

/-- The frame that bytes 1 to the check spell, if it is no faulty frame (R170, R171); `len` is its payload length. -/
def inFrameOf (bs : List Byte) (len : Nat) : Option InFrame :=
  let body := bs.take (6 + len)
  let kind := bs.getD 0 0
  match chanOf (bs.getD 1 0) with
  | none => none
  | some ch =>
    let dataIn := decide (kind = 4)
    let routed : Bool := match ch with | .transport _ => true | _ => false
    if beNat (bs.drop (6 + len)) = (crc16 body).toNat ∧ (kind = 1 ∨ (kind = 4 ∧ routed)) then
      some { dataIn, chan := ch, tag := bs.getD 2 0, payload := body.drop 6 }
    else none

/-- A frame taken whole is tested (R171). -/
def Lnk.wholeFrame (l : Lnk) (bs : List Byte) (len : Nat) : Lnk :=
  match inFrameOf bs len with
  | some f => { l.buffer f with rx := .boundary }
  | none => { l.linkError with rx := .hunting }

/-- The payload length of a frame, from the bytes after its sync (R170). -/
def lengthOf (bs : List Byte) : Nat := beNat ((bs.drop 4).take 2)

/-- One byte of the inbound lane (R171). -/
def Lnk.rxByte (l : Lnk) (b : Byte) : Lnk :=
  match l.rx with
  | .boundary => if b = 0xC5 then { l with rx := .inFrame [] } else { l.linkError with rx := .hunting }
  | .hunting => if b = 0xC5 then { l with rx := .inFrame [] } else l
  | .inFrame have_ =>
    let bs := have_ ++ [b]
    if bs.length < 6 then { l with rx := .inFrame bs }
    else if bs.length = 6 ∧ Config.chunkBytes < lengthOf bs then { l.linkError with rx := .hunting }
    else if bs.length < 8 + lengthOf bs then { l with rx := .inFrame bs }
    else l.wholeFrame bs (lengthOf bs)

/-- Bytes of the inbound lane, in order (R171). -/
def State.receive (s : State) (bytes : List Byte) : State := s.modLnk fun l => bytes.foldl Lnk.rxByte l

/-! ## The engine's own requests (R181 to R184) -/

/-- A reply on channel 0 (R174). -/
def State.engineReply (s : State) (tag code : Byte) (b : ReplyBody) : State := s.reply .engine tag code b

/-- An IDENT request (R181). -/
def State.takeIdent (s : State) (tag : Byte) : State := s.engineReply tag 0x01 (.done identResult)

/-- The counts that a STATUS with the clear byte set clears (R182). -/
def Lnk.clearCounts (l : Lnk) : Lnk := { l with errors := 0, unsol0 := 0, unsol1 := 0, lost := false }

/-- A STATUS request (R182). -/
def State.takeStatus (s : State) (tag : Byte) (clear : Bool) : State :=
  let s1 := s.engineReply tag 0x02 (.done s.statusResult)
  if clear then s1.modLnk Lnk.clearCounts else s1

/-- A MEDIA request (R3, R183). -/
def State.takeMedia (s : State) (tag : Byte) (loc : Byte) : State :=
  match s.mediaResult loc with
  | some bytes => s.engineReply tag 0x03 (.done bytes)
  | none => s.engineReply tag 0x03 (.refused .range)

/-- A RESET_ENGINE request (R184). -/
def State.takeResetEngine (s : State) (tag : Byte) : State :=
  (s.engineReply tag 0x04 (.done [])).modLnk fun l => { l with inboundHold := true, resetting := true }

/-- An APPLY request, and the tests that a move at once calls for (R131, R142). -/
def State.takeApplyMove (s : State) (t : Tr) (tag : Byte) : State :=
  let s1 := s.takeApply t tag
  if (s.tc t).engaged then s1 else s1.settingsMoved t

/-- A TRANSPORT_RESET request, and the place of a MOVE that it may confirm: a transport that the reset finds SEATED has
reached that state (R36, R69; log entry 34). -/
def State.takeResetPlace (s : State) (t : Tr) (tag : Byte) (bay : BaySense) : State :=
  (s.takeTransportReset t tag bay).placeTest

/-! ## Handling frames (R172, R173) -/

/-- Whether requests and frames are still handled, and a reply has a place (R172, R184). -/
def State.gate (s : State) (take : State → State) : State :=
  if s.lnk.resetting then s
  else if Config.replyMax ≤ s.lnk.replies.length then s.modLnk Lnk.linkError
  else take s

/-- A request taken by the block of a transport (R51). -/
def State.takeTransport (s : State) (t : Tr) (tag : Byte) (bay : BaySense) : Request → State
  | .load => s.takeLoad t tag
  | .unload => s.takeUnload t tag
  | .rewind => s.takeRewind t tag
  | .label cs => s.takeLabel t tag cs
  | .write m l => s.takeWrite t tag m l
  | .verify a r m p => s.takeVerify t tag a r m p
  | .restore st o e => s.takeRestore t tag st o e
  | .abort m => s.takeAbort t tag m bay
  | .mark => s.takeMark t tag
  | .close => s.takeClose t tag
  | .setGovernor g => s.takeSetGovernor t tag g
  | .apply => s.takeApplyMove t tag
  | .getGovernor => s.takeGetGovernor t tag
  | .watch w => s.takeWatch t tag w
  | .transportReset => s.takeResetPlace t tag bay
  | _ => s

/-- A request taken by the block of its channel (R172). -/
def State.takeRequest (s : State) (ch : Chan) (tag : Byte) (bay : BaySense) (r : Request) : State :=
  match ch with
  | .transport t => s.takeTransport t tag bay r
  | .engine =>
    match r with
    | .ident => s.takeIdent tag
    | .status c => s.takeStatus tag c
    | .media l => s.takeMedia tag l
    | .resetEngine => s.takeResetEngine tag
    | _ => s
  | .changer =>
    match r with
    | .move a b auto o => s.takeMove tag a b auto o
    | .scan f l => s.takeScan tag f l
    | .cancel => s.takeCancel tag
    | .changerReset => s.takeChangerReset tag
    | _ => s

/-- The code that a refusal by LNK repeats: 0 for an empty payload (R174). -/
def codeByte : List Byte → Byte
  | [] => 0
  | c :: _ => c

/-- A REQUEST frame: checked by LNK, refused UNKNOWN or FORMAT, or handed to its block (R172, R173). -/
def State.handRequest (s : State) (f : InFrame) (bay : BaySense) : State :=
  match decodeRequest f.chan f.payload with
  | .error why => s.reply f.chan f.tag (codeByte f.payload) (.refused why)
  | .ok r => s.takeRequest f.chan f.tag bay r

/-- A frame routed by kind and channel (R172). -/
def State.route (s : State) (f : InFrame) (bay : BaySense) : State :=
  if f.dataIn then
    match f.chan with
    | .transport t => s.takeDataIn t f.payload
    | _ => s
  else s.gate fun s => s.handRequest f bay

/-- The handling of the oldest frame completes (R169, R172). -/
def State.handle (s : State) (bay : BaySense) : State :=
  if s.lnk.resetting then s
  else
    match s.lnk.inbound with
    | [] => s
    | f :: rest =>
      (s.modLnk fun l =>
        { l with inbound := rest, inboundHold := decide (Config.inboundMax ≤ rest.length) }).route f bay

/-! ## The whole-engine reset (R25, R48, R70, R104, R144, R185) -/

/-- What the sensors show of a bay (R70). -/
def sensedBay (sens : Sensors) : Tr → BaySense
  | .tc0 => sens.bay0
  | .tc1 => sens.bay1

/-- The class and protect sensed for a seated cartridge (R52, R70). -/
def sensedValues (b : BaySense) : Option BayValues :=
  if b.seated then some { cls := b.cls, protect := b.protect } else none

/-- The entry of a location rebuilt from its sensor (R25). -/
def sensedEntry (sens : Sensors) (i : Fin 20) : Option CartRecord :=
  if i.val < 16 then (if sens.slots.getLsbD i.val then some { presence := .unknown } else none)
  else if i.val = 16 then (if sens.mail then some { presence := .unknown } else none)
  else if i.val = 17 then (sensedValues sens.bay0).map fun v => ({} : CartRecord).withBay (some v)
  else if i.val = 18 then (sensedValues sens.bay1).map fun v => ({} : CartRecord).withBay (some v)
  else if sens.grip then some {} else none

/-- The media table rebuilt from the sensors (R25, R52). -/
def sensedMtb (sens : Sensors) : Mtb where
  entries := Vector.ofFn (sensedEntry sens)
  bay0 := sensedValues sens.bay0
  bay1 := sensedValues sens.bay1

/-- The changer after power-on (R48). -/
def sensedChg (sens : Sensors) : Chg where
  st := if sens.mainOpen then .halted else .homing
  homingOwed := sens.mainOpen
  mainOpen := sens.mainOpen
  mailOpen := sens.mailOpen
  hand := if sens.grip then .holding else .empty

/-- A transport after power-on (R70, R144). -/
def sensedTc (sens : Sensors) (t : Tr) : Tc := { st := senseState (sensedBay sens t) }

/-- Power-on, the reset pin and RESET_ENGINE: every block takes the state its chapter gives. The host's hold line is
the host's, and the model's own fields go on (log entries 1, 2, 36). -/
def State.powerOn (s : State) (sens : Sensors) : State where
  lnk := { hostHold := s.lnk.hostHold }
  mtb := sensedMtb sens
  chg := sensedChg sens
  tc0 := sensedTc sens .tc0
  tc1 := sensedTc sens .tc1
  cx0 := {}
  cx1 := {}
  dp := none
  free := s.free
  pending := s.pending

/-- Whether a frame is the DONE reply of a RESET_ENGINE (R184; log entry 36). -/
def OutFrame.isResetDone (f : OutFrame) : Bool :=
  decide (f.kind = .reply) && decide (f.chan = .engine) && decide (f.payload = [1, 0x04])

/-- The transmission of an outbound frame ends (R178); at the end of a RESET_ENGINE's DONE the engine resets (R184). -/
def State.frameEnd (s : State) (sens : Sensors) : State :=
  match s.lnk.lane with
  | none => s
  | some f =>
    if s.lnk.resetting && f.isResetDone then s.powerOn sens
    else s.modLnk fun l => { l with lane := none }

end Sys2Proof.Machine
end

