-- ==== Sys2Proof/Machine/ChangerEvents.lean ====
section
/-! DEFINITION. The events of the picker, the doors, the note memory and the changer's timers. Each meaning ends with
`answer`, which settles the event (R26, R102, R178). -/

namespace Sys2Proof.Machine

/-- MAIN_DOOR_OPEN (R40). -/
def execMainDoorOpen (s : State) : Host.Outcome State Fault Refusal :=
  s.mainOpened.answer

/-- MAIN_DOOR_CLOSE (R41). -/
def execMainDoorClose (grip : Bool) (s : State) : Host.Outcome State Fault Refusal :=
  (s.mainClosed grip).answer

/-- MAIL_DOOR_OPEN (R43). -/
def execMailDoorOpen (s : State) : Host.Outcome State Fault Refusal :=
  s.mailOpened.answer

/-- MAIL_DOOR_CLOSE (R32, R43). -/
def execMailDoorClose (present : Bool) (s : State) : Host.Outcome State Fault Refusal :=
  (s.mailClosed present).answer

/-- TRAVEL_COMPLETE (R29, R35). -/
def execTravelComplete (present : Bool) (s : State) : Host.Outcome State Fault Refusal :=
  (s.arrived present).answer

/-- TRAVEL_FAULT (R29). -/
def execTravelFault (s : State) : Host.Outcome State Fault Refusal :=
  s.travelLost.answer

/-- PRESENCE_SENSED (R30, R38). -/
def execPresenceSensed (present : Bool) (s : State) : Host.Outcome State Fault Refusal :=
  (s.sensed present).answer

/-- GRIP_CONFIRMED (R17, R33). -/
def execGripConfirmed (s : State) : Host.Outcome State Fault Refusal :=
  s.gripped.answer

/-- GRIP_FAULT (R33). -/
def execGripFault (s : State) : Host.Outcome State Fault Refusal :=
  s.gripLost.answer

/-- NOTE_READ_COMPLETE (R18 to R20, R23). -/
def execNoteReadComplete (image : Option (List Byte)) (s : State) : Host.Outcome State Fault Refusal :=
  (s.noteRead image).answer

/-- NOTE_PAGE_COMPLETE (R22). -/
def execNotePageComplete (s : State) : Host.Outcome State Fault Refusal :=
  s.pageDone.answer

/-- NOTE_WRITE_TIMEOUT (R22, R23). -/
def execNoteWriteTimeout (s : State) : Host.Outcome State Fault Refusal :=
  s.noteTimeout.answer

/-- PLACE_CONFIRMED (R36; log entry 12). -/
def execPlaceConfirmed (s : State) : Host.Outcome State Fault Refusal :=
  s.released.answer

/-- PLACE_FAULT (R36). -/
def execPlaceFault (s : State) : Host.Outcome State Fault Refusal :=
  s.placeLost.answer

/-- BAY_TIMEOUT (R31). -/
def execBayTimeout (s : State) : Host.Outcome State Fault Refusal :=
  s.bayLost.answer

/-- MAIL_TIMEOUT (R32). -/
def execMailTimeout (s : State) : Host.Outcome State Fault Refusal :=
  s.mailLost.answer

/-- HOMING_COMPLETE (R47). -/
def execHomingComplete (grip : Bool) (s : State) : Host.Outcome State Fault Refusal :=
  (s.homed grip).answer

/-- HOMING_TIMEOUT (R47). -/
def execHomingTimeout (s : State) : Host.Outcome State Fault Refusal :=
  s.homingLost.answer

end Sys2Proof.Machine
end

