-- ==== Sys2Proof/Machine/ChangerRequests.lean ====
section
/-! DEFINITION. The requests of channel 1 (R172). Each meaning ends with
`answer`, which settles the event (R26, R102, R178). -/

namespace Sys2Proof.Machine

/-- MOVE (R27). -/
def execMove (tag : Byte) (src dst : Byte) (autoload : Bool) (orderTag : Half) (s : State) :
    Host.Outcome State Fault Refusal :=
  (s.gate fun s => s.takeMove tag src dst autoload orderTag).answer

/-- SCAN (R27). -/
def execScan (tag : Byte) (first last : Byte) (s : State) : Host.Outcome State Fault Refusal :=
  (s.gate fun s => s.takeScan tag first last).answer

/-- CANCEL (R45). -/
def execCancel (tag : Byte) (s : State) : Host.Outcome State Fault Refusal :=
  (s.gate fun s => s.takeCancel tag).answer

/-- CHANGER_RESET (R46). -/
def execChangerReset (tag : Byte) (s : State) : Host.Outcome State Fault Refusal :=
  (s.gate fun s => s.takeChangerReset tag).answer

end Sys2Proof.Machine
end

