-- ==== Sys2Proof/Machine/DatapathEvents.lean ====
section
/-! DEFINITION. The completions of the compression unit's datapath. Each meaning ends with
`answer`, which settles the event (R26, R102, R178). -/

namespace Sys2Proof.Machine

/-- COMPRESSION_COMPLETE (R94, R102). -/
def execCompressionComplete (s : State) : Host.Outcome State Fault Refusal :=
  s.compressionDone.answer

/-- DECODE_COMPLETE (R99, R102). -/
def execDecodeComplete (s : State) : Host.Outcome State Fault Refusal :=
  s.decodeDone.answer

end Sys2Proof.Machine
end

