-- ==== Sys2Proof/Machine/EngineRequests.lean ====
section
/-! DEFINITION. The requests of channel 0, as a sender hands them to LNK (R172). Each meaning ends with
`answer`, which settles the event (R26, R102, R178). -/

namespace Sys2Proof.Machine

/-- IDENT (R181). -/
def execIdent (tag : Byte) (s : State) : Host.Outcome State Fault Refusal :=
  (s.gate fun s => s.takeIdent tag).answer

/-- STATUS (R182). -/
def execStatus (tag : Byte) (clear : Bool) (s : State) : Host.Outcome State Fault Refusal :=
  (s.gate fun s => s.takeStatus tag clear).answer

/-- MEDIA (R3, R183). -/
def execMedia (tag : Byte) (loc : Byte) (s : State) : Host.Outcome State Fault Refusal :=
  (s.gate fun s => s.takeMedia tag loc).answer

/-- RESET_ENGINE (R184). -/
def execResetEngine (tag : Byte) (s : State) : Host.Outcome State Fault Refusal :=
  (s.gate fun s => s.takeResetEngine tag).answer

end Sys2Proof.Machine
end

