-- ==== Sys2Proof/Machine/LinkEvents.lean ====
section
/-! DEFINITION. The events of the link lanes. Each meaning ends with
`answer`, which settles the event (R26, R102, R178). -/

namespace Sys2Proof.Machine

/-- INBOUND_FRAME_RECEIVED (R169, R171; log entry 35). -/
def execInboundFrameReceived (bytes : List Byte) (s : State) : Host.Outcome State Fault Refusal :=
  (s.receive bytes).answer

/-- HANDLING_COMPLETION (R169, R172, R173). -/
def execHandlingCompletion (bay : BaySense) (s : State) : Host.Outcome State Fault Refusal :=
  (s.handle bay).answer

/-- DATA_IN (R109; log entry 5). -/
def execDataIn (t : Tr) (bytes : List Byte) (s : State) : Host.Outcome State Fault Refusal :=
  (if s.lnk.resetting then s else s.takeDataIn t bytes).answer

/-- OUTBOUND_FRAME_END (R178, R184). -/
def execOutboundFrameEnd (sens : Sensors) (s : State) : Host.Outcome State Fault Refusal :=
  (s.frameEnd sens).answer

/-- HOST_HOLD_ASSERTED (R168, R180). -/
def execHostHoldAsserted (s : State) : Host.Outcome State Fault Refusal :=
  (s.modLnk fun l => { l with hostHold := true }).answer

/-- HOST_HOLD_RELEASED (R178). -/
def execHostHoldReleased (s : State) : Host.Outcome State Fault Refusal :=
  (s.modLnk fun l => { l with hostHold := false }).answer

/-- HUNTING_FOR_SYNC (R171; log entry 35). -/
def execHuntingForSync (bytes : List Byte) (s : State) : Host.Outcome State Fault Refusal :=
  (s.receive bytes).answer

end Sys2Proof.Machine
end

