-- ==== Sys2Proof/Machine/Resets.lean ====
section
/-! DEFINITION. The whole-engine resets. Each meaning ends with
`answer`, which settles the event (R26, R102, R178). -/

namespace Sys2Proof.Machine

/-- POWER_ON (R25, R48, R70, R104, R144, R185). -/
def execPowerOn (sens : Sensors) (s : State) : Host.Outcome State Fault Refusal :=
  (s.powerOn sens).answer

/-- RESET_PIN: as power-on (00_scope.md, Resets). -/
def execResetPin (sens : Sensors) (s : State) : Host.Outcome State Fault Refusal :=
  (s.powerOn sens).answer

end Sys2Proof.Machine
end

