-- ==== Sys2Proof/Machine/TapeEvents.lean ====
section
/-! DEFINITION. The events of moving tape: fast moves, frames read and written, hitches. Each meaning ends with
`answer`, which settles the event (R26, R102, R178). -/

namespace Sys2Proof.Machine

/-- FAST_MOVE_COMPLETE (R50, R62, R64, R66, R160). -/
def execFastMoveComplete (t : Tr) (tach : Nat) (s : State) : Host.Outcome State Fault Refusal :=
  (s.fastMoved t tach).answer

/-- POSITION_FAULT (R50). -/
def execPositionFault (t : Tr) (s : State) : Host.Outcome State Fault Refusal :=
  (s.fastMoveLost t).answer

/-- LOCATE_FRAME_READ (R62 to R64). -/
def execLocateFrameRead (t : Tr) (frame : RawFrame) (s : State) : Host.Outcome State Fault Refusal :=
  (s.locateFrame t frame).answer

/-- EOD_SEARCH_FRAME_READ (R66). -/
def execEodSearchFrameRead (t : Tr) (frame : RawFrame) (s : State) : Host.Outcome State Fault Refusal :=
  (s.eodSearchFrame t frame).answer

/-- READING_FRAME_READ (R146). -/
def execReadingFrameRead (t : Tr) (frame : RawFrame) (s : State) : Host.Outcome State Fault Refusal :=
  (s.readOne t frame).answer

/-- PHYSICAL_END (R71). -/
def execPhysicalEnd (t : Tr) (s : State) : Host.Outcome State Fault Refusal :=
  (s.physicalEnd t).answer

/-- WRITE_COMPLETION (R58, R113). -/
def execWriteCompletion (t : Tr) (s : State) : Host.Outcome State Fault Refusal :=
  (s.writeCompleted t).answer

/-- READ_BACK_RESULT (R59, R78, R114). -/
def execReadBackResult (t : Tr) (place : Nat) (frame : RawFrame) (s : State) : Host.Outcome State Fault Refusal :=
  (s.readBack t place frame).answer

/-- HITCH_COMPLETE (R120, R140). -/
def execHitchComplete (t : Tr) (s : State) : Host.Outcome State Fault Refusal :=
  (s.hitched t).answer

end Sys2Proof.Machine
end

