-- ==== Sys2Proof/Machine/TransportEvents.lean ====
section
/-! DEFINITION. The events of a bay: seating, threading, rewinding, identification, mechanism faults. Each meaning ends with
`answer`, which settles the event (R26, R102, R178). -/

namespace Sys2Proof.Machine

/-- The seat sensor reports the cartridge gone: an unseating in SEATED (R52), a mechanism fault in a threaded state
(R60). -/
def State.seatLost (s : State) (t : Tr) : State :=
  match (s.tc t).st with
  | .empty => s
  | .seated => s.unseat t
  | _ => s.mechFault t .mechanismFault

/-- Threading is not complete in time (R53). -/
def State.threadLost (s : State) (t : Tr) : State :=
  if (s.tc t).st = .threading then s.mechFault t .threadFault else s

/-- A rewind is not complete in time (R54, R56, R57, R58). -/
def State.rewindLost (s : State) (t : Tr) : State :=
  if (s.tc t).rewindRuns then s.mechFault t .rewindFault else s

/-- Unthreading is not complete in time (R56). -/
def State.unthreadLost (s : State) (t : Tr) : State :=
  if (s.tc t).st = .unthreading then s.mechFault t .unthreadFault else s

/-- The mechanism port reports a fault, which a TC takes in any threaded state (R60). -/
def State.portFault (s : State) (t : Tr) : State :=
  if (s.tc t).st.threaded then s.mechFault t .mechanismFault else s

/-- CARTRIDGE_SEATED (R36, R52). -/
def execCartridgeSeated (t : Tr) (cls : CartClass) (protect : Protect) (s : State) : Host.Outcome State Fault Refusal :=
  (if (s.tc t).st = .empty then (s.seat t { cls, protect }).placeTest else s).answer

/-- CARTRIDGE_UNSEATED (R52, R60). -/
def execCartridgeUnseated (t : Tr) (s : State) : Host.Outcome State Fault Refusal :=
  (s.seatLost t).answer

/-- THREAD_COMPLETE (R53). -/
def execThreadComplete (t : Tr) (s : State) : Host.Outcome State Fault Refusal :=
  (s.threaded t).answer

/-- THREAD_FAULT (R53, R60). -/
def execThreadFault (t : Tr) (s : State) : Host.Outcome State Fault Refusal :=
  (s.threadLost t).answer

/-- IDENTIFY_FRAME_READ (R54). -/
def execIdentifyFrameRead (t : Tr) (frame : RawFrame) (s : State) : Host.Outcome State Fault Refusal :=
  (s.identify t frame).answer

/-- REWIND_COMPLETE (R54 to R58). -/
def execRewindComplete (t : Tr) (s : State) : Host.Outcome State Fault Refusal :=
  (s.rewound t).answer

/-- REWIND_FAULT (R54, R56 to R58, R60). -/
def execRewindFault (t : Tr) (s : State) : Host.Outcome State Fault Refusal :=
  (s.rewindLost t).answer

/-- UNTHREAD_COMPLETE (R56). -/
def execUnthreadComplete (t : Tr) (s : State) : Host.Outcome State Fault Refusal :=
  (s.unthreaded t).answer

/-- UNTHREAD_FAULT (R56, R60). -/
def execUnthreadFault (t : Tr) (s : State) : Host.Outcome State Fault Refusal :=
  (s.unthreadLost t).answer

/-- MECHANISM_FAULT (R60). -/
def execMechanismFault (t : Tr) (s : State) : Host.Outcome State Fault Refusal :=
  (s.portFault t).answer

end Sys2Proof.Machine
end

