-- ==== Sys2Proof/Machine/TransportRequests.lean ====
section
/-! DEFINITION. The requests of channels 2 and 3 (R172). Each meaning ends with
`answer`, which settles the event (R26, R102, R178). -/

namespace Sys2Proof.Machine

/-- LOAD (R51, R53). -/
def execLoad (t : Tr) (tag : Byte) (s : State) : Host.Outcome State Fault Refusal :=
  (s.gate fun s => s.takeLoad t tag).answer

/-- UNLOAD (R51, R56). -/
def execUnload (t : Tr) (tag : Byte) (s : State) : Host.Outcome State Fault Refusal :=
  (s.gate fun s => s.takeUnload t tag).answer

/-- REWIND (R51, R57). -/
def execRewind (t : Tr) (tag : Byte) (s : State) : Host.Outcome State Fault Refusal :=
  (s.gate fun s => s.takeRewind t tag).answer

/-- LABEL (R51, R58). -/
def execLabel (t : Tr) (tag : Byte) (chars : List Byte) (s : State) : Host.Outcome State Fault Refusal :=
  (s.gate fun s => s.takeLabel t tag chars).answer

/-- WRITE (R105, R106). -/
def execWrite (t : Tr) (tag : Byte) (start : StartMode) (limit : Byte) (s : State) :
    Host.Outcome State Fault Refusal :=
  (s.gate fun s => s.takeWrite t tag start limit).answer

/-- VERIFY (R153). -/
def execVerify (t : Tr) (tag : Byte) (a : Word) (range : VerifyRange) (mode : VerifyMode) (policy : FaultPolicy) (s : State) :
    Host.Outcome State Fault Refusal :=
  (s.gate fun s => s.takeVerify t tag a range mode policy).answer

/-- RESTORE (R145). -/
def execRestore (t : Tr) (tag : Byte) (start : RestoreStart) (offset : Word) (stop : RestoreEnd) (s : State) :
    Host.Outcome State Fault Refusal :=
  (s.gate fun s => s.takeRestore t tag start offset stop).answer

/-- ABORT (R65, R124, R162). -/
def execAbort (t : Tr) (tag : Byte) (mode : AbortMode) (bay : BaySense) (s : State) :
    Host.Outcome State Fault Refusal :=
  (s.gate fun s => s.takeAbort t tag mode bay).answer

/-- MARK (R111). -/
def execMark (t : Tr) (tag : Byte) (s : State) : Host.Outcome State Fault Refusal :=
  (s.gate fun s => s.takeMark t tag).answer

/-- CLOSE (R111, R155). -/
def execClose (t : Tr) (tag : Byte) (s : State) : Host.Outcome State Fault Refusal :=
  (s.gate fun s => s.takeClose t tag).answer

/-- SET_GOVERNOR (R130). -/
def execSetGovernor (t : Tr) (tag : Byte) (g : GovBytes) (s : State) : Host.Outcome State Fault Refusal :=
  (s.gate fun s => s.takeSetGovernor t tag g).answer

/-- APPLY (R131, R142). -/
def execApply (t : Tr) (tag : Byte) (s : State) : Host.Outcome State Fault Refusal :=
  (s.gate fun s => s.takeApplyMove t tag).answer

/-- GET_GOVERNOR (R133). -/
def execGetGovernor (t : Tr) (tag : Byte) (s : State) : Host.Outcome State Fault Refusal :=
  (s.gate fun s => s.takeGetGovernor t tag).answer

/-- WATCH (R163). -/
def execWatch (t : Tr) (tag : Byte) (w : WatchPoint) (s : State) : Host.Outcome State Fault Refusal :=
  (s.gate fun s => s.takeWatch t tag w).answer

/-- TRANSPORT_RESET (R68, R69, R143). -/
def execTransportReset (t : Tr) (tag : Byte) (bay : BaySense) (s : State) : Host.Outcome State Fault Refusal :=
  (s.gate fun s => s.takeResetPlace t tag bay).answer

end Sys2Proof.Machine
end

