-- ==== Sys2Proof/Machine/Dispatch.lean ====
section
/-! DEFINITION. One arm per command: its meaning. -/

namespace Sys2Proof.Machine

open Sys2Proof

def exec (i : Instr) (s : State) : Host.Outcome State Fault Refusal :=
  match i with
  | .powerOn sens => Sys2Proof.Machine.execPowerOn sens s
  | .resetPin sens => Sys2Proof.Machine.execResetPin sens s
  | .inboundFrameReceived bytes => Sys2Proof.Machine.execInboundFrameReceived bytes s
  | .handlingCompletion bay => Sys2Proof.Machine.execHandlingCompletion bay s
  | .dataIn t bytes => Sys2Proof.Machine.execDataIn t bytes s
  | .ident tag => Sys2Proof.Machine.execIdent tag s
  | .status tag clear => Sys2Proof.Machine.execStatus tag clear s
  | .media tag loc => Sys2Proof.Machine.execMedia tag loc s
  | .resetEngine tag => Sys2Proof.Machine.execResetEngine tag s
  | .move tag src dst autoload orderTag => Sys2Proof.Machine.execMove tag src dst autoload orderTag s
  | .scan tag first last => Sys2Proof.Machine.execScan tag first last s
  | .cancel tag => Sys2Proof.Machine.execCancel tag s
  | .changerReset tag => Sys2Proof.Machine.execChangerReset tag s
  | .load t tag => Sys2Proof.Machine.execLoad t tag s
  | .unload t tag => Sys2Proof.Machine.execUnload t tag s
  | .rewind t tag => Sys2Proof.Machine.execRewind t tag s
  | .label t tag chars => Sys2Proof.Machine.execLabel t tag chars s
  | .write t tag start limit => Sys2Proof.Machine.execWrite t tag start limit s
  | .verify t tag a range mode policy => Sys2Proof.Machine.execVerify t tag a range mode policy s
  | .restore t tag start offset stop => Sys2Proof.Machine.execRestore t tag start offset stop s
  | .abort t tag mode bay => Sys2Proof.Machine.execAbort t tag mode bay s
  | .mark t tag => Sys2Proof.Machine.execMark t tag s
  | .close t tag => Sys2Proof.Machine.execClose t tag s
  | .setGovernor t tag g => Sys2Proof.Machine.execSetGovernor t tag g s
  | .apply t tag => Sys2Proof.Machine.execApply t tag s
  | .getGovernor t tag => Sys2Proof.Machine.execGetGovernor t tag s
  | .watch t tag w => Sys2Proof.Machine.execWatch t tag w s
  | .transportReset t tag bay => Sys2Proof.Machine.execTransportReset t tag bay s
  | .outboundFrameEnd sens => Sys2Proof.Machine.execOutboundFrameEnd sens s
  | .hostHoldAsserted => Sys2Proof.Machine.execHostHoldAsserted s
  | .hostHoldReleased => Sys2Proof.Machine.execHostHoldReleased s
  | .mainDoorOpen => Sys2Proof.Machine.execMainDoorOpen s
  | .mainDoorClose grip => Sys2Proof.Machine.execMainDoorClose grip s
  | .mailDoorOpen => Sys2Proof.Machine.execMailDoorOpen s
  | .mailDoorClose present => Sys2Proof.Machine.execMailDoorClose present s
  | .travelComplete present => Sys2Proof.Machine.execTravelComplete present s
  | .travelFault => Sys2Proof.Machine.execTravelFault s
  | .presenceSensed present => Sys2Proof.Machine.execPresenceSensed present s
  | .gripConfirmed => Sys2Proof.Machine.execGripConfirmed s
  | .gripFault => Sys2Proof.Machine.execGripFault s
  | .noteReadComplete image => Sys2Proof.Machine.execNoteReadComplete image s
  | .notePageComplete => Sys2Proof.Machine.execNotePageComplete s
  | .noteWriteTimeout => Sys2Proof.Machine.execNoteWriteTimeout s
  | .placeConfirmed => Sys2Proof.Machine.execPlaceConfirmed s
  | .placeFault => Sys2Proof.Machine.execPlaceFault s
  | .bayTimeout => Sys2Proof.Machine.execBayTimeout s
  | .mailTimeout => Sys2Proof.Machine.execMailTimeout s
  | .homingComplete grip => Sys2Proof.Machine.execHomingComplete grip s
  | .homingTimeout => Sys2Proof.Machine.execHomingTimeout s
  | .cartridgeSeated t cls protect => Sys2Proof.Machine.execCartridgeSeated t cls protect s
  | .cartridgeUnseated t => Sys2Proof.Machine.execCartridgeUnseated t s
  | .threadComplete t => Sys2Proof.Machine.execThreadComplete t s
  | .threadFault t => Sys2Proof.Machine.execThreadFault t s
  | .identifyFrameRead t frame => Sys2Proof.Machine.execIdentifyFrameRead t frame s
  | .rewindComplete t => Sys2Proof.Machine.execRewindComplete t s
  | .rewindFault t => Sys2Proof.Machine.execRewindFault t s
  | .unthreadComplete t => Sys2Proof.Machine.execUnthreadComplete t s
  | .unthreadFault t => Sys2Proof.Machine.execUnthreadFault t s
  | .mechanismFault t => Sys2Proof.Machine.execMechanismFault t s
  | .fastMoveComplete t tach => Sys2Proof.Machine.execFastMoveComplete t tach s
  | .positionFault t => Sys2Proof.Machine.execPositionFault t s
  | .locateFrameRead t frame => Sys2Proof.Machine.execLocateFrameRead t frame s
  | .eodSearchFrameRead t frame => Sys2Proof.Machine.execEodSearchFrameRead t frame s
  | .readingFrameRead t frame => Sys2Proof.Machine.execReadingFrameRead t frame s
  | .physicalEnd t => Sys2Proof.Machine.execPhysicalEnd t s
  | .writeCompletion t => Sys2Proof.Machine.execWriteCompletion t s
  | .readBackResult t place frame => Sys2Proof.Machine.execReadBackResult t place frame s
  | .hitchComplete t => Sys2Proof.Machine.execHitchComplete t s
  | .compressionComplete => Sys2Proof.Machine.execCompressionComplete s
  | .decodeComplete => Sys2Proof.Machine.execDecodeComplete s
  | .huntingForSync bytes => Sys2Proof.Machine.execHuntingForSync bytes s

end Sys2Proof.Machine
end

