-- ==== Sys2Proof/Safety.lean ====
section
/-! DEFINITION. What counts as a sound state of the engine, in the terms the claims use: the bounds the manual states
for its queues, lists and counts, and the laws it states for the governor and the media table. -/

namespace Sys2Proof.Machine

/-- Settings within the ranges of R129, with Lmin not above Lmax (R130). -/
def GovSet.InRange (g : GovSet) : Prop :=
  1 ≤ g.s ∧ g.s ≤ 31 ∧ g.d ≤ 8 ∧ g.ea ≤ 7 ∧ g.ma ≤ 15 ∧ g.ed ≤ 7 ∧ g.md ≤ 15 ∧ 1 ≤ g.lmin ∧ g.lmin ≤ g.lmax ∧
    g.lmax ≤ 12 ∧ 1 ≤ g.lstart ∧ g.lstart ≤ 12 ∧ g.filler ≤ 63 ∧ 1 ≤ g.restart ∧ g.restart ≤ 32 ∧ g.resume ≤ 31 ∧
    1 ≤ g.n ∧ g.n ≤ 64

/-- A sound governor: both copies in range, the active Lstart within [Lmin, Lmax] (R132), A within
[256 Lmin, 256 Lmax] and L = floor((A + 128) / 256) (R137). -/
def Gov.Sound (g : Gov) : Prop :=
  g.pending.InRange ∧ g.active.InRange ∧ g.active.lmin ≤ g.active.lstart ∧ g.active.lstart ≤ g.active.lmax ∧
    256 * (g.active.lmin : Int) ≤ g.a ∧ g.a ≤ 256 * (g.active.lmax : Int) ∧ g.l = levelOf g.a

/-- Both governors are sound (R137). -/
def State.GovSound (s : State) : Prop := s.tc0.gov.Sound ∧ s.tc1.gov.Sound

/-- The queues and counts of the link stay within their bounds (R169, R171, R172, R176, R182). -/
def State.LinkBounded (s : State) : Prop :=
  s.lnk.inbound.length ≤ 2 ∧ s.lnk.replies.length ≤ 16 ∧ s.lnk.notices.length ≤ 32 ∧
    s.lnk.errors ≤ Config.max32 ∧ s.lnk.unsol0 ≤ Config.max32 ∧ s.lnk.unsol1 ≤ Config.max32

/-- Whether a job's fault list keeps the law of R159: at most 32 entries, and no more than faults counted. -/
def Job.FaultsBounded : Option Job → Prop
  | some (.read r) => r.faults.length ≤ 32 ∧ r.faults.length ≤ r.faultCount
  | _ => True

/-- Both transports keep the law of R159. -/
def State.FaultsBounded (s : State) : Prop := Job.FaultsBounded s.tc0.job ∧ Job.FaultsBounded s.tc1.job

/-- Every file map holds at most 64 entries (R11). -/
def State.MapsBounded (s : State) : Prop := ∀ l r, s.mtb.get l = some r → r.map.length ≤ 64

/-- The DUPLICATE flags are settled: set exactly where another record holds an equal label (R6). -/
def State.DuplicatesSettled (s : State) : Prop := s.mtb.settle = s.mtb

/-- The move queue holds at most 8 orders (R28). -/
def State.OrdersBounded (s : State) : Prop := s.chg.queue.length ≤ 8

/-- The mail lock is engaged exactly while an order in the queue names M (R44). -/
def State.LockLaw (s : State) : Prop := s.chg.mailLock = s.chg.queue.any Order.namesMail

/-! ## The queues of a streaming job (R108, R110, R112, R114, R117) -/

/-- The chunks of an intake queue (R108). -/
def chunkCount (q : List IntakeItem) : Nat :=
  (q.filter fun
    | .chunk _ _ => true
    | .item _ => false).length

/-- The bounds of a transport's queues and credits: 32 entries wait to be written or decoded, 4 frames are in flight, 4
entries wait for a rewrite, 4 items stand in the intake, and its chunks with all credits make no more than 16. -/
def Tc.QueuesBounded (c : Tc) : Prop :=
  c.blockQ.length ≤ 32 ∧ c.inflight.length ≤ 4 ∧ c.rewrite.length ≤ 4 ∧ itemCount c.intake ≤ 4 ∧
    chunkCount c.intake + c.granted + c.pendingCredits ≤ 16

/-- Nothing is queued and no credit is out. -/
def Tc.QueuesEmpty (c : Tc) : Prop :=
  c.blockQ = [] ∧ c.inflight = [] ∧ c.rewrite = [] ∧ c.intake = [] ∧ c.granted = 0 ∧ c.pendingCredits = 0

/-- The states in which a streaming job can stand (R49). -/
def TcState.ofStreamingJob : TcState → Bool
  | .locating | .writing | .reading | .hitch | .waiting | .draining => true
  | _ => false

/-- Frames in write order (R113). -/
def risingFrames : List WFrame → Bool
  | f :: g :: rest => decide (f.hdr.frame < g.hdr.frame) && risingFrames (g :: rest)
  | _ => true

/-- Frames in flight, and one in progress, as the formatter's choices leave them: in write order behind the position, the
frame in progress at the position and less than four places after the oldest result outstanding (R113). -/
def Tc.FramesSpread (c : Tc) (inProgress : Option WFrame) : Prop :=
  risingFrames c.inflight = true ∧ (∀ f ∈ c.inflight, ∃ p, c.pos = some p ∧ f.hdr.frame < p) ∧
    ∀ g, inProgress = some g → c.pos = some g.hdr.frame ∧ ∀ f ∈ c.inflight, g.hdr.frame < f.hdr.frame + 4

/-- The kinds of the frames in flight: one without an entry is a FILLER or an EOD frame (R114). -/
def Tc.FlightTold (c : Tc) : Prop := ∀ f ∈ c.inflight, f.entry = none → f.hdr.kind = 4 ∨ f.hdr.kind = 5

/-- Entries in flight, in progress and waiting for a rewrite, while any waits for one (R117). -/
def Tc.RewritesSpread (c : Tc) (inProgress : Option WFrame) : Prop :=
  c.rewrite ≠ [] →
    c.rewrite.length + (c.inflight.filterMap (·.entry)).length + (inProgress.bind (·.entry)).toList.length ≤ 4

/-- No chunk is held and no credit is out (R108). -/
def Tc.NoCredits (c : Tc) : Prop := chunkCount c.intake = 0 ∧ c.granted = 0 ∧ c.pendingCredits = 0

/-- What the job of a transport has to do with its queues and its locate: a locate is that of a streaming job; before the
job has its first address no chunk is held and no credit is out; a reading holds fewer than 32 entries while it reads. -/
def Tc.JobSound (c : Tc) : Prop :=
  match c.job with
  | some (.write w) =>
    c.st.ofStreamingJob = true ∧ (∀ l, c.locate = some l → w.start = none ∧ ∀ x, l.phase ≠ .resync x) ∧
      (w.start = none → c.st = .locating ∧ c.NoCredits ∧ c.inflight = [] ∧ c.rewrite = [] ∧ w.inProgress = none) ∧
      c.FramesSpread w.inProgress ∧ c.RewritesSpread w.inProgress ∧ c.FlightTold
  | some (.read r) =>
    c.st.ofStreamingJob = true ∧ c.inflight = [] ∧ c.rewrite = [] ∧
      (∀ l, c.locate = some l → c.st = .locating ∧ l.writing = false ∧ l.goal ≠ .endOfData ∧ (∀ sr, l.phase ≠ .searching sr) ∧
        ((∃ x, l.phase = .resync x) ∧ c.blockQ.length < 32 ∨ (∀ x, l.phase ≠ .resync x) ∧ r.start = none)) ∧
      (r.start = none → c.NoCredits ∧ c.blockQ = []) ∧ (c.st = .reading → c.blockQ.length < 32) ∧
      itemCount c.intake ≤ if r.closing then 1 else 0
  | some (.label j) =>
    c.locate = none ∧ { c with inflight := [] }.QueuesEmpty ∧
      ∀ g, j.inProgress = some g → c.st = .writing ∧ c.inflight.length ≤ if g.hdr.frame = 0 then 2 else 3
  | _ => c.locate = none ∧ c.QueuesEmpty

/-- A transport whose queues are bounded, and whose job keeps them so. -/
def Tc.QueuesSound (c : Tc) : Prop := c.QueuesBounded ∧ (c.st.ofStreamingJob = false → c.QueuesEmpty) ∧ c.JobSound

/-- Both transports keep the bounds of their queues and credits. -/
def State.QueuesSound (s : State) : Prop := s.tc0.QueuesSound ∧ s.tc1.QueuesSound

/-- A sound run: every state it passes keeps the laws above. -/
def State.Sound (s : State) : Prop :=
  s.GovSound ∧ s.LinkBounded ∧ s.FaultsBounded ∧ s.MapsBounded ∧ s.DuplicatesSettled ∧ s.OrdersBounded ∧ s.LockLaw ∧
    s.QueuesSound

end Sys2Proof.Machine
end

