-- ==== Sys2Proof/WellFormed.lean ====
section
/-! DEFINITION. Which command terms stand for something the link, the note memory or the tape can give: the sizes the
rules fix for their operands. -/

namespace Sys2Proof

/-- A frame as read has 27 header bytes and at most 32768 payload bytes (R73). -/
def RawFrame.wf : RawFrame → Bool
  | .unreadable => true
  | .bytes header payload => decide (header.length = 27) && decide (payload.length ≤ Config.payloadMax)

/-- The sizes of a command's operands: a label has 12 characters (R58), a chunk at most 4096 bytes (R170), a note
image 2048 (R16), a frame as R73 says. -/
def Instr.wf : Instr → Bool
  | .dataIn _ bytes => decide (bytes.length ≤ Config.chunkBytes)
  | .label _ _ chars => decide (chars.length = 12)
  | .noteReadComplete (some image) => decide (image.length = Config.noteBytes)
  | .identifyFrameRead _ f => f.wf
  | .locateFrameRead _ f => f.wf
  | .eodSearchFrameRead _ f => f.wf
  | .readingFrameRead _ f => f.wf
  | .readBackResult _ _ f => f.wf
  | _ => true

/-- A request's operands as its payload holds them: a label has 12 characters (R58, R173). -/
def Request.wf : Request → Bool
  | .label chars => decide (chars.length = 12)
  | _ => true

end Sys2Proof
end

