-- ==== Sys2Proof/Certificates/Slice0/Obligations.lean ====
section
/-! DEFINITION. The statements for the provers. A command's own effect is stated as the state `u` that it leaves, and
`Runs c s u` says that the command completes: `exec c s` answers the next state `u.settle`, the settled `u` (what
settling does is stated by the statements of the first section). -/

open Sys2Proof Sys2Proof.Machine

namespace Sys2Proof.Claims

/-! ## Vocabulary -/

/-- Command c completes in s with the effect u; the event then settles (R26, R31, R102, R178). -/
def Runs (c : Instr) (s u : State) : Prop := exec c s = .next u.settle

/-- LNK takes requests: no RESET_ENGINE has been taken (R184), and the reply queue has a place (R172). -/
def Takes (s : State) : Prop := s.lnk.resetting = false ∧ s.lnk.replies.length < 16

/-- The link with one reply more at the tail of its reply queue (R172, R174). -/
def withReply (l : Lnk) (ch : Chan) (tag code : Byte) (b : ReplyBody) : Lnk :=
  { l with replies := l.replies ++ [{ chan := ch, tag := tag, code := code, body := b }] }

/-- The state with one reply more. -/
def replied (s : State) (ch : Chan) (tag code : Byte) (b : ReplyBody) : State :=
  { s with lnk := withReply s.lnk ch tag code b }

/-- The link with notices queued, oldest first (R176). -/
def queued (l : Lnk) (ns : List Notice) : Lnk := ns.foldl Lnk.pushNotice l

/-- The CANCELLED ends of orders that had not started (R28). -/
def cancelled (os : List Order) : List Notice :=
  os.map fun o =>
    .moveEnd { order := o, result := .cancelled, loc := none, label := none, noteState := none, counts := none }

/-- The end of the running order with a result (R28): a MOVE reports where its record stands, a SCAN its counts. -/
def orderEnd (s : State) (o : Order) (res : MoveResult) (at_ : Option Loc) : Notice :=
  match o with
  | .move _ _ _ _ =>
    let r := at_.bind s.mtb.get
    .moveEnd { order := o, result := res, loc := r.bind fun _ => at_, label := r.bind fun r => r.label.map (·.chars),
               noteState := r.map (·.noteState), counts := none }
  | .scan _ _ =>
    .moveEnd { order := o, result := res, loc := none, label := none, noteState := none,
               counts := some (s.chg.visited, s.chg.notesRead) }

/-- The media table as the end of a note operation that did not complete leaves it: the record of a write becomes
INVALID (R24). -/
def noteCut (s : State) : Mtb :=
  match s.chg.noteOp, s.chg.queue with
  | some (.write _ _), o :: _ =>
    s.mtb.put (s.chg.heldLoc o) ((s.mtb.get (s.chg.heldLoc o)).map fun r => { r with noteState := .invalid })
  | _, _ => s.mtb

/-- The ends of all orders that are cut off: the running one's with its result, a MOVE's record being at its source
until the grip and in H from then on, and CANCELLED for the others (R28, R40, R46). -/
def cutEnds (s : State) (res : MoveResult) : List Notice :=
  match s.chg.queue, s.chg.step with
  | o :: rest, some st =>
    let gripped :=
      match st with
      | .travelSource | .senseSource | .waitBay _ | .waitMailSource | .grip => false
      | _ => true
    orderEnd { s with mtb := noteCut s } o res (some (if gripped then .hand else s.chg.gripLoc o)) :: cancelled rest
  | os, _ => cancelled os

/-- The hand as a cut-off step leaves it: unsettled by a grip or a place in progress, or by a SCAN between its grip
and its push-back, with the location (R39, R40, R46). -/
def handCut (c : Chg) : Hand :=
  match c.queue, c.step with
  | o :: _, some .grip => .unsettledGrip (c.gripLoc o)
  | o :: _, some (.place _ _) => .unsettledPlace (c.placeLoc o)
  | .scan _ _ :: _, some .note => .unsettledPlace (scanLoc c.scanAt)
  | _, _ => c.hand

/-- The changer with a queue of orders none of which has started, and the mail lock that R44 gives it. -/
def withOrders (c : Chg) (os : List Order) : Chg :=
  { c with queue := os, step := none, scanAt := 0, visited := 0, notesRead := 0, noteFault := false,
           mailLock := os.any Order.namesMail }

/-- The other transport as before, but that pending credits of it may have gone out in a CREDIT notice (R176), which
its jobs and its tape do not see. -/
def OtherKept (t : Tr) (s u : State) : Prop :=
  u.cx t.other = s.cx t.other ∧
    ∃ g p, g + p = (s.tc t.other).granted + (s.tc t.other).pendingCredits ∧
      u.tc t.other = { s.tc t.other with granted := g, pendingCredits := p }

/-- What no event of a transport, the changer or the tape reaches in the link: the inbound side, its counts and the
lines. -/
def InboundKept (s u : State) : Prop :=
  u.lnk.inbound = s.lnk.inbound ∧ u.lnk.inboundHold = s.lnk.inboundHold ∧ u.lnk.rx = s.lnk.rx ∧
    u.lnk.errors = s.lnk.errors ∧ u.lnk.unsol0 = s.lnk.unsol0 ∧ u.lnk.unsol1 = s.lnk.unsol1 ∧
    u.lnk.hostHold = s.lnk.hostHold ∧ u.lnk.resetting = s.lnk.resetting ∧ u.pending = s.pending

/-- Every location's record as before, but that of one location. -/
def OnlyRecord (l : Loc) (s u : State) : Prop := ∀ k, k ≠ l → u.mtb.get k = s.mtb.get k

/-- Every record but those of H and one other location is as before, but for DUPLICATE. -/
def OthersKept (l : Loc) (s u : State) : Prop :=
  ∀ k, k ≠ .hand → k ≠ l →
    ((u.mtb.get k).map fun q => { q with duplicate := false }) = (s.mtb.get k).map fun q => { q with duplicate := false }

/-! ### What replies, notices and reports carry, byte by byte (R170, R174 to R176) -/

/-- A number field, most significant byte first (R170). -/
def number (size v : Nat) : List Byte := (List.range size).map fun k => BitVec.ofNat 8 (v / 256 ^ (size - 1 - k))

/-- An optional number field: its presence byte, then the number, zero when it is absent (R175). -/
def optionalField (size : Nat) (v : Option Nat) : List Byte :=
  match v with
  | some n => 1 :: number size n
  | none => List.replicate (size + 1) 0

/-- An optional point: an address and a block position (R175). -/
def optionalPoint (p : Option (Nat × Nat)) : List Byte :=
  match p with
  | some (a, k) => 1 :: (number 4 a ++ number 4 k)
  | none => List.replicate 9 0

/-- A flag (R175). -/
def flag (b : Bool) : Byte := if b then 1 else 0

/-- A name: its position, counted from 1, in the table or list that defines it (R175). -/
def nameIn {α : Type} [BEq α] (table : List α) (x : α) : Byte := BitVec.ofNat 8 (table.idxOf x + 1)

/-- The table of R26, that of R49, that of section 2.1, the list of R51, that of R175, the table of R174, that of R5 and
the list of R159. -/
def changerStates : List ChgState := [.homing, .idle, .running, .waitBay, .waitMail, .halted, .held, .faulted]
def transportStates : List TcState :=
  [.empty, .seated, .threading, .identifying, .ready, .adrift, .locating, .writing, .reading, .hitch, .waiting, .draining,
    .rewinding, .unthreading, .faulted]
def moveResults : List MoveResult :=
  [.ok, .noteWriteFault, .sourceEmpty, .bayTimeout, .mailTimeout, .destOccupied, .gripFault, .travelFault, .placeFault,
    .doorOpen, .reset, .cancelled]
def jobKinds : List JobKind := [.load, .unload, .rewind, .label, .write, .verify, .restore]
def jobResults : List JobResult :=
  [.ok, .threadFault, .rewindFault, .unthreadFault, .mechanismFault, .writeFault, .reset, .positionFault, .locateFault,
    .beyondEod, .readFault, .aborted, .endOfMedia, .endOfData, .restoreFault, .faultsFound, .compareShort]
def reasons : List Reason :=
  [.state, .busy, .format, .range, .writeProtected, .beyondEod, .queueFull, .duplicate, .unknown]
def noteStates : List NoteState := [.unread, .valid, .damaged, .invalid, .missing]
def faultKinds : List VFaultKind := [.unreadable, .decodeBad, .sliceCheck, .compareMismatch]

/-- The fourteen values of a governor's settings, in request order (R173, R174). -/
def governorLayout (g : GovSet) : List Byte :=
  [g.s, g.d, g.ea, g.ma, g.ed, g.md, g.lmin, g.lmax, g.lstart, g.filler, g.restart, g.resume, g.n].map (BitVec.ofNat 8) ++
    [flag g.clearOnApply]

/-- The report of a LOAD (R55, R175): the finding, LABEL_UNREADABLE, the tape label, the label count and how the label
of the record stood to it, and the load count. `unstated` stands for the finding of a LOAD without one (log entry 2).
-/
def loadLayout (found : Option Finding) (held : Option Label) (count unstated : Nat) : List Byte :=
  (match found with
    | some (.label chars n) =>
      [1, 0] ++ (1 :: chars) ++ optionalField 4 (some n) ++
        [1, match held with | none => 1 | some l => if l.chars = chars then 2 else 3]
    | some (.noLabel unreadable) => [2, flag unreadable] ++ List.replicate 20 0
    | some .blank => [3, 0] ++ List.replicate 20 0
    | none => [BitVec.ofNat 8 unstated, 0] ++ List.replicate 20 0) ++ number 2 count

/-- The report of a write job (R127, R175), with the estimate of its record; the address sought and the frame reached by
a locate that failed stand at its end (R63; log entry 16). -/
def writeLayout (w : WriteJob) (estimate : Option Nat) : List Byte :=
  optionalField 4 w.start ++ optionalField 4 w.eodAddr ++ optionalField 4 w.eodFrame ++
    (([w.blocksConfirmed, w.marksConfirmed, w.blocksLost, w.framesWritten, w.fillersWritten, w.hitches,
      w.rewritesWritten].map (number 4)).flatten ++
    ([w.rawAccepted, w.rawOnTape, w.rawDiscarded, w.coded, w.rawOnTape].map (number 8)).flatten) ++
    optionalField 8 estimate ++ [flag w.eodRecovered, flag w.eodUnconfirmed] ++ optionalField 4 w.sought ++ optionalField 4 w.reached

/-- The report of a restore (R165, R175). The resume point is absent where the range was delivered whole (log entry 28);
the end address is log entry 17, and the fault, the read fault address, the address sought and the frame reached stand
as log entry 16 says. -/
def restoreLayout (r : ReadJob) (res : JobResult) : List Byte :=
  optionalField 4 r.start ++ number 4 r.applied ++ number 4 r.x ++ number 4 r.blocksDelivered ++ number 4 r.marksDelivered ++
    number 8 r.rawDelivered ++ number 8 r.rawSkipped ++
    optionalPoint (if res = .ok ∨ (res = .aborted ∧ r.ended = some .ok) then none else r.resume) ++
    ([r.framesRead, r.countedSkips, r.rewritten, r.hitches].map (number 4)).flatten ++
    (match res with
      | .restoreFault => optionalField 4 (r.fault.map (·.1)) ++ optionalField 1 (r.fault.map (·.2)) ++ optionalField 4 r.readFault
      | .readFault => optionalField 4 r.readFault ++ optionalField 1 none ++ optionalField 4 none
      | _ => optionalField 4 none ++ optionalField 1 none ++ optionalField 4 none) ++
    optionalField 4 r.sought ++ optionalField 4 r.reached

/-- The report of a verify (R166, R175): its fault list is a count of 2 bytes and then the entries; the end address is
log entry 17, the short point log entry 27, the width of the addresses covered and the last two fields log entry 16. -/
def verifyLayout (r : ReadJob) (policy : FaultPolicy) (res : JobResult) : List Byte :=
  optionalField 4 r.start ++ ([r.x, r.covered, r.blocksAccepted, r.marksAccepted].map (number 4)).flatten ++
    ([r.rawChecked, r.compared, r.uncompared, r.surplus].map (number 8)).flatten ++
    optionalPoint (if res = .compareShort then r.short else none) ++ number 4 r.faultCount ++
    [if policy = .keepFirst then (1 : Byte) else 2] ++ number 2 r.faults.length ++
    (r.faults.map fun f => number 4 f.addr ++ [nameIn faultKinds f.kind] ++ number 4 f.offset).flatten ++
    ([r.framesRead, r.countedSkips, r.rewritten, r.hitches, r.resyncs].map (number 4)).flatten ++
    [flag r.unalignedFlag] ++ optionalField 4 r.sought ++ optionalField 4 r.reached

/-- The content of a MOVE_END (R28, R175): the order, the result, then for a MOVE the location, label and note state of
the record, for a SCAN its counts, each optional (log entry 16). -/
def moveEndLayout (m : MoveEnd) : List Byte :=
  match m.order with
  | .move _ _ _ tag =>
    (1 : Byte) :: number 2 tag.toNat ++ [nameIn moveResults m.result] ++ optionalField 1 (m.loc.map fun l => l.idx.val) ++
      (match m.label with | some cs => 1 :: cs | none => List.replicate 13 0) ++
      (match m.noteState with | some n => [1, nameIn noteStates n] | none => [0, 0])
  | .scan first last =>
    [2, BitVec.ofNat 8 first, BitVec.ofNat 8 last, nameIn moveResults m.result] ++ optionalField 1 (m.counts.map (·.1)) ++
      optionalField 1 (m.counts.map (·.2))

/-- The payload of a notice: its kind and its content (R176; the widths of a CREDIT's count and of an EARLY_WARNING's
bytes, and the frame kind of a WATCH_REACHED, are log entry 16). -/
def noticeLayout : Notice → List Byte
  | .credit _ n => 1 :: number 1 n
  | .jobEnd _ kind res report => [2, nameIn jobKinds kind, nameIn jobResults res] ++ report
  | .moveEnd m => 3 :: moveEndLayout m
  | .mailArrived => [4]
  | .mailTaken => [5]
  | .door isOpen => [6, if isOpen then 1 else 2]
  | .earlyWarning _ place raw => 7 :: (number 4 place ++ number 8 raw)
  | .watchReached _ kind addr mark file frame =>
    [8, nameIn jobKinds kind] ++ number 4 addr ++ [if mark then 3 else 2] ++ number 4 file ++ number 4 frame
  | .ready st => [9, nameIn changerStates st]

/-- The channel on which a notice goes (R176). -/
def noticeChannel : Notice → Chan
  | .credit t _ => .transport t
  | .jobEnd t _ _ _ => .transport t
  | .earlyWarning t _ _ => .transport t
  | .watchReached t _ _ _ _ _ => .transport t
  | _ => .changer

/-- The frame of a reply: on the channel and with the tag of its request; DONE with its result, ACCEPTED, or REFUSED
with the reason, after the request code (R170, R174). -/
def replyOut (r : Reply) : OutFrame where
  kind := .reply
  chan := r.chan
  tag := r.tag
  flags := 0
  payload :=
    match r.body with
    | .done result => [1, r.code] ++ result
    | .accepted => [2, r.code]
    | .refused why => [3, r.code, nameIn reasons why]

/-- The frame of a notice, the loss flagged on it (R170, R176, R177). -/
def noticeOut (n : Notice) (lost : Bool) : OutFrame where
  kind := .notice
  chan := noticeChannel n
  tag := 0
  flags := flag lost
  payload := noticeLayout n

/-- The frame of an entry of t's delivery queue: the bytes of a chunk, or the MARK flag (R150, R170). -/
def dataOut (t : Tr) (d : DItem) : OutFrame where
  kind := .dataOut
  chan := .transport t
  tag := 0
  flags := flag (decide (d = .mark))
  payload := match d with | .chunk bs _ _ => bs.map (·.byte) | _ => []

/-- The report of a job that ends with a result, as its kind makes it (R55, R59, R127, R165, R166): of a LOAD without
a finding the finding, of one without a record the load count, and of a read job that accepted nothing the applied
offset and the end address, are free values; the estimate of a write job is that of the record `r` in `u`. -/
def reportOf (u : State) (r : Option CartRecord) (free : Nat) (j : Job) (res : JobResult) : List Byte :=
  match j with
  | .load l =>
    match r with
    | some q => loadLayout l.finding q.label q.loadCount (Config.unstated free)
    | none => loadLayout l.finding none (Config.unstated free) (Config.unstated (free + 1))
  | .unload => []
  | .rewind => []
  | .label l => l.chars ++ number 4 l.count
  | .write w => writeLayout w (r.bind u.estimate)
  | .read d =>
    let told : ReadJob :=
      if d.start = none then { d with applied := Config.unstated free, x := Config.unstated (free + 1) } else d
    match d.spec with
    | .verify _ _ _ policy => verifyLayout told policy res
    | .restore _ _ => restoreLayout told res

/-- The JOB_END notices that wait in the notice queue, oldest first (R176). -/
def jobEnds (l : Lnk) : List Notice := l.notices.filter fun n => match n with | .jobEnd _ _ _ _ => true | _ => false

/-- The JOB_END of t with its report is the newest notice of the queue and the one JOB_END that joined it, or it met the
queue full, which then stands so with LOST marked, and no JOB_END joined (R176, R177). -/
def EndNoticed (t : Tr) (kind : JobKind) (res : JobResult) (report : List Byte) (s u : State) : Prop :=
  (u.lnk.notices.getLast? = some (.jobEnd t kind res report) ∧
      jobEnds u.lnk = jobEnds s.lnk ++ [.jobEnd t kind res report]) ∨
    (u.lnk.lost = true ∧ 32 ≤ u.lnk.notices.length ∧ jobEnds u.lnk = jobEnds s.lnk)

/-- The JOB_END of a job of t that is cut off in s: it is the one JOB_END that joined the queue of s, or it met that
queue full, LOST is marked, and no JOB_END joined (R60, R68, R176, R177). -/
def CutNoticed (t : Tr) (kind : JobKind) (res : JobResult) (report : List Byte) (s u : State) : Prop :=
  jobEnds u.lnk = jobEnds s.lnk ++ [.jobEnd t kind res report] ∨
    (u.lnk.lost = true ∧ 32 ≤ s.lnk.notices.length ∧ jobEnds u.lnk = jobEnds s.lnk)

/-- Transport t runs no job: its queues and lists are empty, its credits void, its context clear, no CREDIT notice of
it waits (R103, R110, R123). -/
def JobGone (t : Tr) (u : State) : Prop :=
  (u.tc t).job = none ∧ (u.tc t).locate = none ∧ (u.tc t).intake = [] ∧ (u.tc t).blockQ = [] ∧
    (u.tc t).inflight = [] ∧ (u.tc t).rewrite = [] ∧ (u.tc t).delivery = [] ∧ (u.tc t).granted = 0 ∧
    (u.tc t).pendingCredits = 0 ∧ u.cx t = {} ∧ ∀ n, Notice.credit t n ∉ u.lnk.notices

/-- The record of t's cartridge is bound to no transport (R14). -/
def Unbound (t : Tr) (u : State) : Prop := ∀ r, u.mtb.get (.bay t) = some r → r.binding = none

/-- What the end of a job leaves, its JOB_END apart. -/
def JobLeft (t : Tr) (s u : State) : Prop :=
  JobGone t u ∧ Unbound t u ∧ OtherKept t s u ∧ u.chg = s.chg ∧ InboundKept s u ∧ OnlyRecord (.bay t) s u

/-- The whole of what the end of a job leaves, with its JOB_END and report. -/
def JobEnded (t : Tr) (kind : JobKind) (res : JobResult) (report : List Byte) (s u : State) : Prop :=
  JobLeft t s u ∧ EndNoticed t kind res report s u

/-- The job as the failure of its locate leaves it: a streaming job reports the address sought and the frame reached, a
reading the address of a read fault and what its intake still held (R63, R158, R165). -/
def locateFailed (intake : List IntakeItem) (j : Job) (sought : Nat) (reached : Option Nat) (res : JobResult) : Job :=
  match j with
  | .write w => .write { w with sought := some sought, reached := reached }
  | .read r =>
    .read { r with sought := some sought, reached := reached, surplus := r.surplus + intakeRaw intake,
                   readFault := if res = .readFault then some sought else r.readFault }
  | j => j

/-- A locate of t fails: its job ends with the locate's result, and reports the address sought and the frame reached
(R63). -/
def LocateFails (s u : State) (t : Tr) (j : Job) (sought : Nat) (reached : Option Nat) (res : JobResult) : Prop :=
  JobEnded t j.kind res
    (reportOf u (s.mtb.get (.bay t)) s.free (locateFailed (s.tc t).intake j sought reached res) res) s u

/-- The job as giving up what it holds leaves it: a write job counts its intake, its context's work and its block
queue as discarded, a comparison the bytes of its intake as surplus (R65, R124, R158, R162). -/
def givenUp (s : State) (t : Tr) (j : Job) : Job :=
  match j with
  | .write w =>
    .write { w with rawDiscarded :=
      w.rawDiscarded + (intakeRaw (s.tc t).intake + (s.cx t).raw + ((s.tc t).blockQ.map QEntry.raw).sum) }
  | .read r => .read { r with surplus := r.surplus + intakeRaw (s.tc t).intake }
  | j => j

/-- The governor at a start of streaming: A and L at the active Lstart, the count anew (R135). -/
def started (g : Gov) : Gov :=
  { g with a := 256 * (g.active.lstart : Int), l := (g.active.lstart : Int), evalCount := 0 }

/-- The governor after its pending copy has moved: Lstart clamped into [Lmin, Lmax], A set to 256 Lstart or clamped, L
computed anew, the armed mark clear (R132). -/
def movedGov (g : Gov) : Gov :=
  let p := { g.pending with lstart := max g.pending.lmin (min g.pending.lmax g.pending.lstart) }
  let a := if p.clearOnApply then 256 * (p.lstart : Int) else max (256 * (p.lmin : Int)) (min (256 * (p.lmax : Int)) g.a)
  { g with active := p, a := a, l := (a + 128) / 256, armed := false }

/-- The governor after an armed copy, if there is one, has moved (R131). -/
def armedMoved (g : Gov) : Gov := if g.armed then movedGov g else g

/-- The WATCH_REACHED notices that wait in the notice queue, oldest first (R176). -/
def watches (l : Lnk) : List Notice :=
  l.notices.filter fun n => match n with | .watchReached _ _ _ _ _ _ => true | _ => false

/-- The watch point of t has been tested against a frame: where it names the frame, WATCH_REACHED has joined the
notices, or met a full queue, at the event's begin or behind a CREDIT of the same event, and LOST is marked, and an
ADDRESS watch is off; where it does not, nothing has happened (R164, R176). -/
def WatchTested (t : Tr) (kind : JobKind) (addr : Nat) (mark : Bool) (file frame : Nat) (s u : State) : Prop :=
  let named := ((s.tc t).watch = .marks ∧ mark = true) ∨ ∃ a : Word, (s.tc t).watch = .address a ∧ a.toNat = addr
  (named →
    (u.tc t).watch = (if (s.tc t).watch = .marks then .marks else .off) ∧
      (watches u.lnk = watches s.lnk ++ [.watchReached t kind addr mark file frame] ∨
        (u.lnk.lost = true ∧ (32 ≤ s.lnk.notices.length ∨ 32 ≤ u.lnk.notices.length) ∧
          watches u.lnk = watches s.lnk))) ∧
  (¬named → (u.tc t).watch = (s.tc t).watch ∧ watches u.lnk = watches s.lnk)

/-- A restore that has sent the head of its delivery queue: a chunk counts its bytes and the blocks whose last byte it
holds, and the resume point follows its last byte, in the block of that byte (log entry 71); a mark counts as
delivered (R149, R150, R165). -/
def sentBy (r : ReadJob) (d : DItem) : ReadJob :=
  match d with
  | .chunk bs _ _ =>
    { r with
      rawDelivered := r.rawDelivered + bs.length
      blocksDelivered := r.blocksDelivered + (bs.filter (·.last)).length
      resume := match bs.getLast? with | some b => some (b.addr, b.pos + 1) | none => r.resume }
  | .mark => { r with marksDelivered := r.marksDelivered + 1 }
  | .gap _ => r

/-- How many leading bytes of a block a read job leaves out of the delivery queue: the applied offset in the first
block of a restore, none in COMPARE mode, all in CHECK mode (R101, R148). -/
def leftOut (r : ReadJob) (i : ReadInfo) (b : Block) : Nat :=
  match r.spec with
  | .restore _ _ => if r.start = some i.addr then r.applied else 0
  | .verify _ _ .compare _ => 0
  | .verify _ _ .check _ => b.raw

/-- The bytes that a decode places, unchecked, each with its block and block position: those of the slice, which
begins at position `start`, that are not left out (R148). -/
def placedFrom (i : ReadInfo) (b : Block) (out start : Nat) (bytes : List Byte) : List DByte :=
  (bytes.drop (out - start)).mapIdx fun k c =>
    { byte := c, addr := i.addr, pos := max start out + k, last := decide (max start out + k + 1 = b.raw), checked := false }

/-- Bytes laid out in new chunks, all full but the last, which is the filling chunk (R148). -/
def NewChunks (bs : List DByte) (ds : List DItem) : Prop :=
  ∃ parts : List (List DByte), ds = parts.map (fun p => .chunk p false false) ∧ parts.flatten = bs ∧
    (∀ p ∈ parts, p ≠ [] ∧ p.length ≤ 4096) ∧ ∀ p ∈ parts.dropLast, p.length = 4096

/-- A delivery queue of a restore: chunks that begin a chunk place each, and marks (R148, R149). -/
def RestoreQueue (d : List DItem) : Prop := ∀ e ∈ d, (∃ bs closed, e = .chunk bs closed false) ∨ e = .mark

/-- The datapath has taken the ready context of t: a compression its complete slice; a decode the next slice of the
block reference, set to the oldest DATA entry if it was absent, its bytes placed in the delivery queue (R100, R148).
-/
def Taken (t : Tr) (v u : State) : Prop :=
  (∀ w, (v.tc t).job = some (.write w) → u = { v with dp := some { t := t, decode := false, abandoned := false } }) ∧
    ∀ r i b gaps rest x, (v.tc t).job = some (.read r) → (v.tc t).blockQ = .readBlock i b gaps :: rest →
      x = (if (v.cx t).ref then v.cx t
        else { v.cx t with ref := true, next := 0, off := 0, decoded := 0, history := [] }) →
      u = { (v.setCx t x).setTc t { v.tc t with
              delivery := deliver (placedFrom i b (leftOut r i b) x.decoded (decodeNext x b).bytes) (v.tc t).delivery } with
            dp := some { t := t, decode := true, abandoned := false } }

/-- The datapath's choice at a completion of t's context that leaves v: the other context if it is ready, otherwise
the same one if it is, otherwise it goes idle (R102). -/
def NextTaken (t : Tr) (v u : State) : Prop :=
  v.dp = none ∧ (v.ready t.other = true → Taken t.other v u) ∧
    (v.ready t.other = false → v.ready t = true → Taken t v u) ∧
    (v.ready t.other = false → v.ready t = false → u = v)

/-- A block queue of a write job: blocks, marks and the CLOSE entry (R112). -/
def WriteEntries (q : List QEntry) : Prop := ∀ e ∈ q, (∃ b, e = .block b) ∨ e = .mark ∨ e = .close

/-- A block queue by which a write job in WAITING resumes: at the active restart threshold, or with a mark or the CLOSE
entry in it (R120). -/
def Resumes (c : Tc) (q : List QEntry) : Prop := c.gov.active.restart ≤ q.length ∨ .mark ∈ q ∨ .close ∈ q

/-- The transport of a write job before it writes at a place that is no reserve: nothing in flight, in the rewrite
list or in the intake, no block or item kept in the context (R113, R126). -/
def WriteStill (s : State) (t : Tr) (w : WriteJob) (place : Nat) : Prop :=
  w.start ≠ none ∧ w.inProgress = none ∧ (s.tc t).inflight = [] ∧ (s.tc t).rewrite = [] ∧ (s.tc t).intake = [] ∧
    (s.cx t).closed = none ∧ (s.cx t).held = none ∧ (s.tc t).pos = some place ∧
    ∃ r c, s.mtb.get (.bay t) = some r ∧ r.cls = some c ∧ place < Config.capacity c - 16

/-- The write job of t has started to stream with a block queue q: the governor starts, and the frame of the first
entry is handed to the mechanism at the place held, a DATA frame for a block, a MARK frame for a mark; for the CLOSE
entry, or with nothing left to write, the drain starts with the EOD frame (R112, R113, R120, R121, R135). -/
def WriteStreams (s u : State) (t : Tr) (w : WriteJob) (q : List QEntry) (place : Nat) : Prop :=
  (u.tc t).pos = some place ∧ (u.tc t).inflight = [] ∧ (u.tc t).intake = [] ∧ (u.tc t).blockQ = q.tail ∧
    (u.tc t).gov = started (s.tc t).gov ∧ u.mtb = s.mtb ∧ u.chg = s.chg ∧
    ∃ w' f, (u.tc t).job = some (.write w') ∧
      w' =
        { w with inProgress := some f, nextAddr := w'.nextAddr, nextFile := w'.nextFile, warned := w'.warned } ∧
      f.hdr.frame = place ∧ f.hdr.addr = w.nextAddr ∧ f.hdr.file = w.nextFile ∧ f.hdr.pass = 0 ∧
      match q with
      | .block b :: _ =>
        (u.tc t).st = .writing ∧ f.hdr.kind = 2 ∧ f.payload = b.payload ∧ f.hdr.rawLen = b.raw ∧
          f.hdr.slices = b.slices ∧ w'.nextAddr = w.nextAddr + 1 ∧ w'.nextFile = w.nextFile
      | .mark :: _ =>
        (u.tc t).st = .writing ∧ f.hdr.kind = 3 ∧ f.payload = [] ∧ w'.nextAddr = w.nextAddr + 1 ∧
          w'.nextFile = w.nextFile + 1
      | _ =>
        (u.tc t).st = .draining ∧ f.hdr.kind = 5 ∧ f.payload = [] ∧ w'.nextAddr = w.nextAddr ∧
          w'.nextFile = w.nextFile

/-- The media table after a reading of t has accepted a MARK: the entry joins the map when it is the next (R67). -/
def markLearned (m : Mtb) (t : Tr) (addr file frame : Nat) : Mtb :=
  m.put (.bay t) ((m.get (.bay t)).map fun q =>
    if q.map.length = file ∧ file < 64 then { q with map := q.map ++ [{ addr := addr, frame := frame }], dirty := true }
    else q)

/-- The state in which a job of t has started: the record bound, the context cleared, an operation of it abandoned
(R14, R51, R103). -/
def jobStarted (s : State) (t : Tr) (j : Job) (st : TcState) (d : Dir) : State :=
  State.setTc
    { s.setCx t { dir := d } with
      mtb := s.mtb.put (.bay t) ((s.mtb.get (.bay t)).map fun r => { r with binding := some t })
      dp := s.dp.map fun o => if o.t = t then { o with abandoned := true } else o }
    t { s.tc t with st := st, job := some j }

end Sys2Proof.Claims

open Sys2Proof.Claims

/-! ## The machine as a whole -/

/-- The command at the front of the queue is taken, and its outcome is that of `exec` on the state with the queue's
rest; an empty queue idles. Every command answers a next state: nothing stops the engine. -/
def Obligations.StepRunsTheFrontCommand : Prop :=
  (∀ (c : Instr) (rest : List Instr) (s : State), s.pending = c :: rest → step s = exec c { s with pending := rest }) ∧
    (∀ s : State, s.pending = [] → step s = .next s) ∧ ∀ (c : Instr) (s : State), ∃ s', exec c s = .next s'

/-- The state right after reset keeps every law of `Safety`, and nothing waits in it to be started or sent. -/
def Obligations.ResetStateIsSound : Prop := State.reset.Sound ∧ State.reset.settle = State.reset

/-- After every command nothing is left that the engine would still do of itself: no order waits that could start, no
idle datapath faces a ready context, no free lane faces a waiting reply, notice or chunk. -/
def Obligations.EveryStepLeavesASettledState : Prop :=
  ∀ s s' : State, s.settle = s → step s = .next s' → s'.settle = s'

/-- What settling never reaches: the inbound side of the link, the commands that wait, labels' counts, watch points,
the jobs of a transport that runs no restore. -/
def Obligations.SettlingKeepsWhatItDoesNotServe : Prop :=
  ∀ s : State, InboundKept s s.settle ∧
    ∀ t : Tr, (s.settle.tc t).labelCount = (s.tc t).labelCount ∧ (s.settle.tc t).watch = (s.tc t).watch ∧
      (s.settle.tc t).gov.pending = (s.tc t).gov.pending ∧
      ((∀ r, (s.tc t).job = some (.read r) → r.isRestore = false) →
        (s.settle.tc t).job = (s.tc t).job ∧ (s.settle.tc t).st = (s.tc t).st ∧ (s.settle.tc t).pos = (s.tc t).pos ∧
          (s.settle.tc t).intake = (s.tc t).intake ∧ (s.settle.tc t).blockQ = (s.tc t).blockQ ∧
          (s.settle.tc t).inflight = (s.tc t).inflight ∧ (s.settle.tc t).rewrite = (s.tc t).rewrite)

/-- Of a free lane LNK makes its choice in this order: the oldest reply, the oldest notice with the loss marked on it,
the delivery queue of the transport not served last, that of the other; with the host's hold asserted or the lane in
use it makes none. A chunk may go that is full or closed and holds no unchecked byte, a mark always. The entry sent
leaves the delivery queue; a restore counts the bytes, the blocks whose last byte went, the mark, and takes its resume
point behind the last byte; once its reading has ended and nothing is left to decode or send, the job ends at that
sending. In a settled state a reply therefore goes out at once on a free lane that the host does not hold, and
otherwise waits behind the replies before it; nothing else changes. A notice joins the tail of a queue of fewer than
32; at a full queue it is dropped and the loss is marked. A reply, a notice, a chunk and a mark go out in the frame of
section 9.2, on their channels, with the bytes that the reply rule and the notice table list. -/
def Obligations.OutboundLaneServesInOrder : Prop :=
  (∀ s : State,
    ((s.lnk.lane ≠ none ∨ s.lnk.hostHold = true) → s.laneChoose = s) ∧
    (s.lnk.lane = none → s.lnk.hostHold = false →
      (∀ r rest, s.lnk.replies = r :: rest →
        s.laneChoose = { s with lnk := { s.lnk with replies := rest, lane := some (replyOut r) } }) ∧
      (∀ n rest, s.lnk.replies = [] → s.lnk.notices = n :: rest →
        s.laneChoose.lnk.lane = some (noticeOut n s.lnk.lost) ∧ s.laneChoose.lnk.lost = false ∧
          (s.tc0.pendingCredits = 0 → s.tc1.pendingCredits = 0 → s.laneChoose.lnk.notices = rest)) ∧
      (s.lnk.replies = [] → s.lnk.notices = [] →
        (∀ t d rest, (s.lnk.lastServed = t.other ∨ s.dataReady t.other = false) → s.dataReady t = true →
          (s.tc t).delivery = d :: rest →
          s.laneChoose.lnk.lane = some (dataOut t d) ∧ s.laneChoose.lnk.lastServed = t ∧
          ∀ (r : ReadJob) (sent : State), (s.tc t).job = some (.read r) → r.short = none →
            ((s.tc t).blockQ = [] ∨ ∃ i b q, (s.tc t).blockQ = .readBlock i b [] :: q) →
            sent =
              { s.setTc t { s.tc t with delivery := rest, job := some (.read (sentBy r d)) } with
                lnk := { s.lnk with lane := some (dataOut t d), lastServed := t } } →
            (((r.ended = none ∧ ((s.tc t).st = .waiting → (s.tc t).gov.active.resume < (s.tc t).blockQ.length)) ∨
                (s.tc t).blockQ ≠ [] ∧ r.ended ≠ none) →
              s.laneChoose = sent) ∧
            ∀ res, r.ended = some res → r.pendingGaps = [] → (s.tc t).blockQ = [] →
              (s.opOf t = true → s.laneChoose = sent) ∧
              (s.opOf t = false → closeFilling rest ≠ [] →
                s.laneChoose = sent.setTc t { sent.tc t with delivery := closeFilling rest }) ∧
              ∀ told, s.opOf t = false → closeFilling rest = [] → r.faultCount = 0 →
                told = (if res ≠ .restoreFault ∧ r.atMark = true then .aborted else res) →
                (s.laneChoose.tc t).st = .ready ∧ (s.laneChoose.tc t).pos = (s.tc t).pos ∧
                  JobEnded t .restore told
                    (reportOf s.laneChoose (s.mtb.get (.bay t)) s.free (.read (sentBy r d)) told) s s.laneChoose) ∧
        (s.dataReady .tc0 = false → s.dataReady .tc1 = false → s.laneChoose = s)))) ∧
  (∀ (s : State) (t : Tr) (r : ReadJob) (offset : Nat) (stop : RestoreEnd) (d : DItem) (rest : List DItem),
    (s.tc t).job = some (.read r) → r.spec = .restore offset stop → (s.tc t).delivery = d :: rest →
    (s.dataReady t = true ↔
      d = .mark ∨ ∃ bs closed goesOn, d = .chunk bs closed goesOn ∧ (closed = true ∨ 4096 ≤ bs.length) ∧ bs ≠ [] ∧
        ∀ b ∈ bs, b.checked = true)) ∧
  (∀ (s : State) (ch : Chan) (tag code : Byte) (b : ReplyBody), s.settle = s →
    (replied s ch tag code b).settle =
      if s.lnk.lane = none ∧ s.lnk.hostHold = false then
        { s with lnk :=
          { s.lnk with lane := some (replyOut { chan := ch, tag := tag, code := code, body := b }) } }
      else { s with lnk := withReply s.lnk ch tag code b }) ∧
  (∀ (f : OutFrame) (body : List Byte),
    body =
      [match f.kind with | .reply => 2 | .notice => 3 | .dataOut => 5,
        match f.chan with | .engine => 0 | .changer => 1 | .transport .tc0 => 2 | .transport .tc1 => 3, f.tag, f.flags] ++
        number 2 f.payload.length ++ f.payload →
    f.bytes = 0xC5 :: body ++ number 2 (crc16 body).toNat) ∧
  ∀ (s : State) (n : Notice),
    (s.lnk.notices.length < 32 →
      s.notify n = { s with lnk := { s.lnk with notices := s.lnk.notices ++ [n] } }) ∧
    (32 ≤ s.lnk.notices.length → s.notify n = { s with lnk := { s.lnk with lost := true } })

/-! ## Laws that every step keeps -/

/-- A stays within [256 Lmin, 256 Lmax] of the active settings and L is floor((A + 128) / 256), at both transports. -/
def Obligations.EveryStepKeepsTheGovernorLaw : Prop :=
  ∀ s s' : State, s.GovSound → step s = .next s' → s'.GovSound

/-- The inbound buffer, the reply queue, the notice queue and the link's counts stay within their bounds. -/
def Obligations.EveryStepKeepsTheLinkBounds : Prop :=
  ∀ s s' : State, s.LinkBounded → step s = .next s' → s'.LinkBounded

/-- A file map never holds more than 64 entries; a fault list never more than 32, nor more than the faults counted; the
move queue never more than 8 orders, and the mail lock is engaged exactly while one of them names M. -/
def Obligations.EveryStepKeepsTheListBoundsAndTheMailLock : Prop :=
  ∀ s s' : State, step s = .next s' →
    (s.MapsBounded → s.FaultsBounded → s'.MapsBounded ∧ s'.FaultsBounded) ∧
      (s.OrdersBounded → s.LockLaw → s'.OrdersBounded ∧ s'.LockLaw)

/-- At both transports a block queue never holds more than 32 entries, the in-flight list and the rewrite list never
more than 4, the intake queue never more than 4 items, and its chunks with the credits granted and pending never make
more than 16: from every state with sound governors in which the jobs stand to their queues as the rules leave them;
among that, every frame of a write job in flight is one of an entry, a FILLER or an EOD frame. -/
def Obligations.EveryStepKeepsTheStreamingQueues : Prop :=
  ∀ s s' : State, s.GovSound → s.QueuesSound → step s = .next s' → s'.QueuesSound

/-! ## The engine's own requests -/

/-- IDENT is answered with the identity of the part; STATUS with the states, the queue lengths and the counts as they
stand, and with the clear byte set the four counts then start anew. -/
def Obligations.IdentAndStatusAnswer : Prop :=
  (∀ (s : State) (tag : Byte), Takes s →
    Runs (.ident tag) s
      (replied s .engine tag 0x01
        (.done [0x3F, 0x12, 0x01, 0xA4, 3, 16, 1, 2, 8, 16, 16, 4, 32, 4, 16, 64, 32, 32]))) ∧
  ∀ (s : State) (tag : Byte) (clear : Bool), Takes s →
    ∃ bytes : List Byte,
      bytes =
        [nameIn transportStates s.tc0.st, nameIn transportStates s.tc1.st, nameIn changerStates s.chg.st,
          BitVec.ofNat 8 s.chg.queue.length, BitVec.ofNat 8 s.lnk.replies.length,
          BitVec.ofNat 8 s.lnk.notices.length] ++
        beBytes 4 s.lnk.errors ++ [if s.lnk.lost then 1 else 0] ++ beBytes 4 s.lnk.unsol0 ++ beBytes 4 s.lnk.unsol1 ∧
      Runs (.status tag clear) s
        { s with
          lnk :=
            if clear then
              { withReply s.lnk .engine tag 0x02 (.done bytes) with errors := 0, unsol0 := 0, unsol1 := 0, lost := false }
            else withReply s.lnk .engine tag 0x02 (.done bytes) }

/-- MEDIA of one location answers its record of 64 bytes and then its file map, of all locations the twenty records in
location order; the record of an empty entry is its code and 63 zeros, that of another its fields in the order of the
spec's table; any other byte is refused RANGE. Nothing else changes. The estimate in it is that of the frames left
before the reserve zone, 0 where there are none, at 32768 bytes each, times raw total over coded total, rounded down,
or that product alone where the coded total is 0; it is absent without a class or with the end of data UNKNOWN. The next
frame to write is that of a KNOWN end of data, or of an OPEN one the transport's, behind a frame being written. -/
def Obligations.MediaReportsTheTable : Prop :=
  (∀ (s : State) (tag loc : Byte), Takes s →
    (∀ l, Loc.ofCode loc.toNat = some l →
      Runs (.media tag loc) s
        (replied s .engine tag 0x03
          (.done (1 :: s.mediaRecord l ++
            (match s.mtb.get l with
              | some r => (r.map.map fun e => beBytes 4 e.addr ++ beBytes 4 e.frame).flatten
              | none => []))))) ∧
    (loc = 0xFF →
      Runs (.media tag loc) s
        (replied s .engine tag 0x03
          (.done (20 :: ((List.finRange 16).map fun i => s.mediaRecord (.slot i)).flatten ++ s.mediaRecord .mail ++
            s.mediaRecord (.bay .tc0) ++ s.mediaRecord (.bay .tc1) ++ s.mediaRecord .hand)))) ∧
    (19 < loc.toNat → loc ≠ 0xFF → Runs (.media tag loc) s (replied s .engine tag 0x03 (.refused .range)))) ∧
  ∀ (s : State) (l : Loc),
    (s.mtb.get l = none → s.mediaRecord l = l.code :: List.replicate 63 0) ∧
    ∀ r, s.mtb.get l = some r →
      s.mediaRecord l =
        [l.code, 1, (if r.presence = .present then 1 else 2),
          (match r.noteState with | .unread => 1 | .valid => 2 | .damaged => 3 | .invalid => 4 | .missing => 5)] ++
        (match r.label with
          | some b => b.chars ++ [if b.source = .note then (1 : Byte) else 2]
          | none => List.replicate 13 (0 : Byte)) ++
        [(if r.duplicate then (1 : Byte) else 0), (if r.mismatch then 1 else 0),
          (match r.cls with | none => 0 | some .t1 => 1 | some .t2 => 2),
          (match r.protect with | none => 0 | some .set => 1 | some .clear => 2)] ++
        beBytes 2 r.loadCount ++
        (match r.eod with
          | .known a f n => (1 : Byte) :: (beBytes 4 a ++ beBytes 4 f ++ beBytes 4 n)
          | .opened => (2 : Byte) :: List.replicate 12 0
          | .unknown => (3 : Byte) :: List.replicate 12 0) ++
        [BitVec.ofNat 8 r.map.length] ++ beBytes 8 r.rawTotal ++ beBytes 8 r.codedTotal ++
        [(if r.dirty then (1 : Byte) else 0), (match r.binding with | none => 0 | some .tc0 => 1 | some .tc1 => 2)] ++
        (match s.estimate r with
          | some e => (1 : Byte) :: beBytes 8 e
          | none => List.replicate 9 (0 : Byte)) ∧
      ((∀ b, r.label = some b → b.chars.length = 12) → (s.mediaRecord l).length = 64) ∧
      ((r.cls = none ∨ r.eod = .unknown) → s.estimate r = none) ∧
      ∀ (c : CartClass) (p usable : Nat), r.cls = some c →
        ((∃ a n, r.eod = .known a p n) ∨
          ∃ t, r.eod = .opened ∧ r.binding = some t ∧
            (((s.tc t).pos = some p ∧ ∀ w f, (s.tc t).job = some (.write w) → w.inProgress ≠ some f) ∨
              ∃ w f q, (s.tc t).job = some (.write w) ∧ w.inProgress = some f ∧ (s.tc t).pos = some q ∧ p = q + 1)) →
        usable = (match c with | .t1 => 786432 | .t2 => 1572864) - 16 - p →
        s.estimate r =
          some (if r.codedTotal = 0 then usable * 32768 else usable * 32768 * r.rawTotal / r.codedTotal)

/-- RESET_ENGINE is answered DONE; from then on LNK holds the inbound lane and takes no further request or frame, and
at the end of the DONE reply's transmission every block takes the state of power-on. -/
def Obligations.ResetEngineResetsAtItsReply : Prop :=
  (∀ (s : State) (tag : Byte), Takes s →
    Runs (.resetEngine tag) s
      { s with lnk :=
        { withReply s.lnk .engine tag 0x04 (.done []) with inboundHold := true, resetting := true } }) ∧
  (∀ (s : State) (tag : Byte) (t : Tr) (b : BaySense) (bytes : List Byte), s.lnk.resetting = true →
    Runs (.ident tag) s s ∧ Runs (.load t tag) s s ∧ Runs (.cancel tag) s s ∧ Runs (.handlingCompletion b) s s ∧
      Runs (.dataIn t bytes) s s) ∧
  ∀ (s : State) (tag : Byte) (sens : Sensors), s.lnk.resetting = true →
    s.lnk.lane = some { kind := .reply, chan := .engine, tag := tag, flags := 0, payload := [1, 0x04] } →
    Runs (.outboundFrameEnd sens) s (s.powerOn sens)

/-! ## Resets of the whole engine -/

/-- Power-on and the reset pin rebuild the changer, both transports, both contexts, the datapath and the link,
whatever stood in them: queues empty, counts 0, the receiver HUNTING, TC1 served last, the governors at their
defaults, the hand from the grip sensor, the transports from their seat and tape sensors. Every record is rebuilt: a
cartridge in a slot or M is UNKNOWN, one in a bay or the hand PRESENT, a seated one with its class and protect, which
are held for its bay too; notes are UNREAD, ends of data UNKNOWN, and nothing else is known. -/
def Obligations.PowerOnRebuildsEverything : Prop :=
  ∀ (s : State) (sens : Sensors), ∃ u, Runs (.powerOn sens) s u ∧ Runs (.resetPin sens) s u ∧
    u.settle = u ∧
    u.lnk = { hostHold := s.lnk.hostHold } ∧
    u.chg =
      { st := if sens.mainOpen then .halted else .homing, homingOwed := sens.mainOpen, mainOpen := sens.mainOpen,
        mailOpen := sens.mailOpen, hand := if sens.grip then .holding else .empty } ∧
    u.tc0 = { st := if sens.bay0.tapeOut then .adrift else if sens.bay0.seated then .seated else .empty } ∧
    u.tc1 = { st := if sens.bay1.tapeOut then .adrift else if sens.bay1.seated then .seated else .empty } ∧
    u.cx0 = {} ∧ u.cx1 = {} ∧ u.dp = none ∧ u.pending = s.pending ∧
    (∀ i : Fin 16, u.mtb.get (.slot i) = if sens.slots.getLsbD i.val then some { presence := .unknown } else none) ∧
    u.mtb.get .mail = (if sens.mail then some { presence := .unknown } else none) ∧
    u.mtb.get (.bay .tc0) =
      (if sens.bay0.seated then some { cls := some sens.bay0.cls, protect := some sens.bay0.protect } else none) ∧
    u.mtb.get (.bay .tc1) =
      (if sens.bay1.seated then some { cls := some sens.bay1.cls, protect := some sens.bay1.protect } else none) ∧
    u.mtb.get .hand = (if sens.grip then some {} else none) ∧
    u.mtb.bayValues .tc0 =
      (if sens.bay0.seated then some { cls := sens.bay0.cls, protect := sens.bay0.protect } else none) ∧
    u.mtb.bayValues .tc1 =
      if sens.bay1.seated then some { cls := sens.bay1.cls, protect := sens.bay1.protect } else none

/-! ## The changer's requests -/

/-- The checks of R27 that a MOVE passes. -/
def Sys2Proof.Claims.MoveAccepted (s : State) (a b : Loc) : Prop :=
  b ≠ .hand ∧ a ≠ b ∧
    (s.chg.st = .idle ∨ s.chg.st = .running ∨ s.chg.st = .waitBay ∨ s.chg.st = .waitMail ∨
      (s.chg.st = .held ∧ a = .hand)) ∧
    (∀ t, a = .bay t → (s.tc t).st = .seated ∨ (s.tc t).job = some .unload) ∧ s.chg.queue.length < 8

/-- The changer with an order at the tail of its queue; in IDLE and HELD it goes to RUNNING (R27, R44). -/
def Sys2Proof.Claims.joined (c : Chg) (o : Order) : Chg :=
  { c with
    queue := c.queue ++ [o]
    mailLock := (c.queue ++ [o]).any Order.namesMail
    st := if c.st = ChgState.idle ∨ c.st = ChgState.held then .running else c.st }

/-- A MOVE or SCAN that passes every check joins the tail of the queue and is answered ACCEPTED; one that fails a
check is refused, and nothing else changes: RANGE for locations that are none or the same, STATE in a changer state
that takes none or from a bay that is neither SEATED nor running an UNLOAD, QUEUE_FULL at 8 orders. -/
def Obligations.MoveAndScanJoinTheQueueOrAreRefused : Prop :=
  (∀ (s : State) (tag src dst : Byte) (auto : Bool) (o : Half), Takes s →
    (∀ a b, Loc.ofCode src.toNat = some a → Loc.ofCode dst.toNat = some b → MoveAccepted s a b →
      Runs (.move tag src dst auto o) s
        { replied s .changer tag 0x10 .accepted with chg := joined s.chg (.move a b auto o) }) ∧
    (19 < src.toNat ∨ 18 < dst.toNat ∨ src = dst →
      Runs (.move tag src dst auto o) s (replied s .changer tag 0x10 (.refused .range))) ∧
    (src.toNat ≤ 19 → dst.toNat ≤ 18 → src ≠ dst →
      (s.chg.st = .homing ∨ s.chg.st = .halted ∨ s.chg.st = .faulted ∨ (s.chg.st = .held ∧ src ≠ 19)) →
      Runs (.move tag src dst auto o) s (replied s .changer tag 0x10 (.refused .state))) ∧
    (∀ t, Loc.ofCode src.toNat = some (.bay t) → dst.toNat ≤ 18 → src ≠ dst → (s.tc t).st ≠ .seated →
      (s.tc t).job ≠ some .unload →
      Runs (.move tag src dst auto o) s (replied s .changer tag 0x10 (.refused .state))) ∧
    (∀ a, Loc.ofCode src.toNat = some a → dst.toNat ≤ 18 → src ≠ dst → 8 ≤ s.chg.queue.length →
      (s.chg.st = .idle ∨ s.chg.st = .running ∨ s.chg.st = .waitBay ∨ s.chg.st = .waitMail ∨
        (s.chg.st = .held ∧ a = .hand)) →
      (∀ t, a = .bay t → (s.tc t).st = .seated ∨ (s.tc t).job = some .unload) →
      Runs (.move tag src dst auto o) s (replied s .changer tag 0x10 (.refused .queueFull)))) ∧
  ∀ (s : State) (tag first last : Byte), Takes s →
    (first.toNat ≤ last.toNat → last.toNat ≤ 16 →
      (s.chg.st = .idle ∨ s.chg.st = .running ∨ s.chg.st = .waitBay ∨ s.chg.st = .waitMail) →
      s.chg.queue.length < 8 →
      Runs (.scan tag first last) s
        { replied s .changer tag 0x11 .accepted with chg := joined s.chg (.scan first.toNat last.toNat) }) ∧
    (16 < first.toNat ∨ 16 < last.toNat ∨ last.toNat < first.toNat →
      Runs (.scan tag first last) s (replied s .changer tag 0x11 (.refused .range))) ∧
    (first.toNat ≤ last.toNat → last.toNat ≤ 16 →
      (s.chg.st = .homing ∨ s.chg.st = .halted ∨ s.chg.st = .faulted ∨ s.chg.st = .held) →
      Runs (.scan tag first last) s (replied s .changer tag 0x11 (.refused .state))) ∧
    (first.toNat ≤ last.toNat → last.toNat ≤ 16 →
      (s.chg.st = .idle ∨ s.chg.st = .running ∨ s.chg.st = .waitBay ∨ s.chg.st = .waitMail) →
      8 ≤ s.chg.queue.length →
      Runs (.scan tag first last) s (replied s .changer tag 0x11 (.refused .queueFull)))

/-- CANCEL ends every order that has not started with a MOVE_END CANCELLED, in queue order, leaves the running one, and
answers DONE with their number; in FAULTED it is refused STATE. -/
def Obligations.CancelRemovesWhatHasNotStarted : Prop :=
  ∀ (s : State) (tag : Byte), Takes s →
    (s.chg.st ≠ .faulted →
      ∃ kept gone : List Order,
        kept ++ gone = s.chg.queue ∧
        (kept = if s.chg.step.isSome then s.chg.queue.take 1 else []) ∧
        Runs (.cancel tag) s
          { s with
            lnk := queued (withReply s.lnk .changer tag 0x12 (.done [BitVec.ofNat 8 gone.length])) (cancelled gone)
            chg := { s.chg with queue := kept, mailLock := kept.any Order.namesMail } }) ∧
    (s.chg.st = .faulted → Runs (.cancel tag) s (replied s .changer tag 0x12 (.refused .state)))

/-- CHANGER_RESET is taken in every state and answered DONE. The running order ends RESET, a SCAN with its counts, and
the queued ones CANCELLED; the lock is released; a note operation ends, the image is discarded, and the record of a
write is INVALID and otherwise as it was; a grip or place in progress, or a SCAN between grip and push-back, leaves
the hand unsettled with its location; a take-hold stays. A homing starts, or is owed while the main door is open. No
transport is touched. -/
def Obligations.ChangerResetEndsEveryOrder : Prop :=
  ∀ (s : State) (tag : Byte), Takes s →
    ∃ u, Runs (.changerReset tag) s u ∧
      u.chg.queue = [] ∧ u.chg.step = none ∧ u.chg.mailLock = false ∧ u.chg.noteOp = none ∧
      u.chg.st = (if s.chg.mainOpen then .halted else .homing) ∧ u.chg.homingOwed = s.chg.mainOpen ∧
      u.chg.picker = (if s.chg.mainOpen then s.chg.picker else .inTravel) ∧ u.chg.hand = handCut s.chg ∧
      u.chg.image = (if s.chg.noteOp = none then s.chg.image else none) ∧
      u.chg.takeHold = s.chg.takeHold ∧ u.chg.mainOpen = s.chg.mainOpen ∧ u.chg.mailOpen = s.chg.mailOpen ∧
      u.lnk = queued (withReply s.lnk .changer tag 0x13 (.done [])) (cutEnds s .reset) ∧ u.mtb = noteCut s ∧
      u.tc0 = s.tc0 ∧ u.tc1 = s.tc1 ∧ u.cx0 = s.cx0 ∧ u.cx1 = s.cx1 ∧ u.dp = s.dp ∧ InboundKept s u

/-! ## The events of the changer -/

/-- The next order starts as soon as none runs: the picker travels to its source, or to the first location scanned,
unless it stands there; a source H has the grip sensor read before any travel. At its arrival at a source the order is
to sense a slot, or M behind its closed door; at M with the door open it waits in WAIT_MAIL; at a SEATED bay it places
its take-hold and grips; at a bay neither SEATED nor EMPTY it waits in WAIT_BAY. At its arrival at a free destination
the place begins; an occupied one, and a bay that is not EMPTY, ends the order DEST_OCCUPIED, the queue CANCELLED, the
changer HELD; at M with the door open it waits. -/
def Obligations.OrdersStartAndTravelEnds : Prop :=
  (∀ (s : State) (o : Order), s.chg.st = .running → s.chg.step = none → s.chg.queue = [o] →
    (∀ src dst auto tag, o = .move src dst auto tag →
      (src ≠ .hand → s.chg.picker ≠ .atLoc src →
        s.chgDrive = { s with chg := { s.chg with step := some .travelSource, picker := .inTravel } }) ∧
      (∀ i, src = .slot i → s.chg.picker = .atLoc src →
        s.chgDrive = { s with chg := { s.chg with step := some .senseSource } }) ∧
      (src = .hand → s.chgDrive = { s with chg := { s.chg with step := some .senseSource } })) ∧
    ∀ first last, o = .scan first last → s.chg.picker ≠ .atLoc (scanLoc first) →
      s.chgDrive =
        { s with chg :=
          { s.chg with step := some .travelSource, picker := .inTravel, scanAt := first, visited := 0, notesRead := 0 } }) ∧
  ∀ (s : State) (o : Order) (rest : List Order) (present : Bool), s.chg.queue = o :: rest →
    (∀ l, s.chg.step = some .travelSource → s.chg.gripLoc o = l →
      ((∃ i, l = .slot i) ∨ (l = .mail ∧ s.chg.mailOpen = false) →
        Runs (.travelComplete present) s
          { s with chg := { s.chg with st := .running, step := some .senseSource, picker := .atLoc l } }) ∧
      (l = .mail → s.chg.mailOpen = true →
        Runs (.travelComplete present) s
          { s with chg := { s.chg with st := .waitMail, step := some .waitMailSource, picker := .atLoc l } }) ∧
      ∀ t, l = .bay t →
        ((s.tc t).st = .seated →
          Runs (.travelComplete present) s
            { s with chg := { s.chg with st := .running, step := some .grip, picker := .atLoc l, takeHold := some t } }) ∧
        ((s.tc t).st ≠ .seated → (s.tc t).st ≠ .empty →
          Runs (.travelComplete present) s
            { s with chg := { s.chg with st := .waitBay, step := some (.waitBay t), picker := .atLoc l } })) ∧
    ∀ l, s.chg.step = some .travelDest → s.chg.placeLoc o = l →
      (l = .mail → s.chg.mailOpen = true →
        Runs (.travelComplete present) s
          { s with chg := { s.chg with st := .waitMail, step := some .waitMailDest, picker := .atLoc l } }) ∧
      ((l = .mail → s.chg.mailOpen = false) →
        (((∀ t, l ≠ .bay t) ∧ present = false) ∨ (∃ t, l = .bay t ∧ (s.tc t).st = .empty) →
          Runs (.travelComplete present) s
            { s with chg := { s.chg with st := .running, step := some (.place false false), picker := .atLoc l } }) ∧
        (((∀ t, l ≠ .bay t) ∧ present = true) ∨ (∃ t, l = .bay t ∧ (s.tc t).st ≠ .empty) →
          Runs (.travelComplete present) s
            { s with
              lnk := queued s.lnk (orderEnd s o .destOccupied (some .hand) :: cancelled rest)
              chg := { withOrders s.chg [] with st := .held, picker := .atLoc l } }))

/-- A cartridge sensed at a MOVE's source is gripped, and one sensed in the hand goes on to the destination; none
sensed, or a bay found EMPTY, removes the record there and ends the MOVE SOURCE_EMPTY, and the next order may start. A
SCAN counts the location as visited, and there grips a cartridge that needs reading, with a record created if it has
none, passes one by that needs none, and removes the record where it senses nothing; it goes on to the next location,
or ends OK with its counts after the last. -/
def Obligations.PresenceDecidesTheGrip : Prop :=
  (∀ (s : State) (rest : List Order) (src dst : Loc) (auto : Bool) (tag : Half) (o : Order),
    o = .move src dst auto tag → s.chg.queue = o :: rest →
    (s.chg.step = some .senseSource →
      (src ≠ .hand → (∀ t, src ≠ .bay t) →
        Runs (.presenceSensed true) s { s with chg := { s.chg with st := .running, step := some .grip } } ∧
        (s.mtb.get src = none →
          Runs (.presenceSensed false) s
            { s with
              lnk := queued s.lnk [orderEnd s o .sourceEmpty none]
              chg := { withOrders s.chg rest with st := .running } }) ∧
        (s.mtb.get src ≠ none →
          ∃ u, Runs (.presenceSensed false) s u ∧ u.mtb.get src = none ∧
            u.lnk = queued s.lnk [orderEnd s o .sourceEmpty none] ∧
            u.chg = { withOrders s.chg rest with st := .running })) ∧
      (src = .hand →
        (∀ i, dst = .slot i → s.chg.picker ≠ .atLoc dst →
          Runs (.presenceSensed true) s
            { s with chg :=
              { s.chg with st := .running, step := some .travelDest, picker := .inTravel, hand := .holding } }) ∧
        ∃ u, Runs (.presenceSensed false) s u ∧ u.mtb.get .hand = none ∧
          u.lnk = queued s.lnk [orderEnd s o .sourceEmpty none] ∧
          u.chg = { withOrders s.chg rest with st := .running, hand := .empty, image := none })) ∧
    ∀ t present, s.chg.step = some .travelSource → src = .bay t → (s.tc t).st = .empty →
      ∃ u, Runs (.travelComplete present) s u ∧ u.mtb.get src = none ∧
        u.lnk = queued s.lnk [orderEnd s o .sourceEmpty none] ∧
        u.chg = { withOrders s.chg rest with st := .running, picker := .atLoc src }) ∧
  ∀ (s : State) (rest : List Order) (first last : Nat) (i : Fin 16) (o : Order) (c : Chg),
    o = .scan first last → s.chg.queue = o :: rest → s.chg.step = some .senseSource → s.chg.scanAt = i.val →
    c = { s.chg with visited := s.chg.visited + 1 } →
    (∀ r, s.mtb.get (.slot i) = some r → (r.presence = .unknown ∨ r.noteState = .unread) →
      Runs (.presenceSensed true) s { s with chg := { c with st := .running, step := some .grip } }) ∧
    (s.mtb.get (.slot i) = none →
      Runs (.presenceSensed true) s
        { s with mtb := s.mtb.put (.slot i) (some {}), chg := { c with st := .running, step := some .grip } }) ∧
    ∀ present, (present = false ∨ ∃ r, s.mtb.get (.slot i) = some r ∧ r.presence = .present ∧ r.noteState ≠ .unread) →
      ∃ u, Runs (.presenceSensed present) s u ∧
        (present = true → u.mtb = s.mtb) ∧ (present = false → u.mtb.get (.slot i) = none) ∧
        (i.val < last → s.chg.picker ≠ .atLoc (scanLoc (i.val + 1)) →
          u.chg = { c with scanAt := i.val + 1, st := .running, step := some .travelSource, picker := .inTravel } ∧
            u.lnk = s.lnk) ∧
        (last ≤ i.val →
          u.chg = { withOrders s.chg rest with st := .running } ∧
            u.lnk = queued s.lnk [orderEnd { s with chg := c } o .ok none])

/-- The grip of a MOVE: the record passes from the source to the hand, which holds the cartridge, or is created there;
at a SEATED bay the transport takes its unseating and the take-hold is removed. Then the note operation of R17 starts:
a read of a record that is UNKNOWN, or clean and UNREAD; a write of a dirty one whose protect tab is not SET. With the
tab SET dirty is cleared, and there, as with nothing to do, the picker travels on. A SCAN grips with the record left
in its location. -/
def Obligations.GripPassesTheRecordAndStartsTheNote : Prop :=
  (∀ (s : State) (src dst : Loc) (auto : Bool) (tag : Half) (rest : List Order) (r : CartRecord),
    s.chg.queue = .move src dst auto tag :: rest → s.chg.step = some .grip → src ≠ .hand →
    s.mtb.get src = some r → s.mtb.get .hand = none → s.chg.picker ≠ .atLoc dst →
    (∀ t, src = .bay t → (s.tc t).st = .seated) →
    ∃ u r', Runs .gripConfirmed s u ∧ u.mtb.get src = none ∧ u.mtb.get .hand = some r' ∧
      u.chg.hand = .holding ∧ u.chg.queue = s.chg.queue ∧ u.lnk = s.lnk ∧
      (∀ t, src = .bay t →
        u.tc t = { s.tc t with st := .empty, pos := none, labelCount := none } ∧ u.mtb.bayValues t = none) ∧
      (∀ t, src ≠ .bay t → u.tc t = s.tc t ∧ u.mtb.bayValues t = s.mtb.bayValues t) ∧
      u.chg.takeHold = (match src with | .bay _ => none | _ => s.chg.takeHold) ∧
      ((r.presence = .unknown ∨ (r.dirty = false ∧ r.noteState = .unread)) →
        r' = { r with duplicate := r'.duplicate } ∧ u.chg.step = some .note ∧ u.chg.noteOp = some .read ∧
          u.chg.image = s.chg.image) ∧
      (r.presence = .present → r.dirty = true → r.protect ≠ some .set →
        r' = { r with duplicate := r'.duplicate } ∧ u.chg.step = some .note ∧
          u.chg.noteOp = some (.write r' .unlock) ∧ u.chg.image = some (composeNote r')) ∧
      (r.presence = .present → (r.dirty = true → r.protect = some .set) → (r.dirty = false → r.noteState ≠ .unread) →
        r' = { r with dirty := false, duplicate := r'.duplicate } ∧ u.chg.noteOp = none ∧ u.chg.image = s.chg.image ∧
          u.chg.step = some .travelDest ∧ u.chg.picker = .inTravel)) ∧
  (∀ (s : State) (i : Fin 16) (dst : Loc) (auto : Bool) (tag : Half) (rest : List Order),
    s.chg.queue = .move (.slot i) dst auto tag :: rest → s.chg.step = some .grip →
    s.mtb.get (.slot i) = none → s.mtb.get .hand = none →
    Runs .gripConfirmed s
      { s with
        mtb := s.mtb.put .hand (some {})
        chg := { s.chg with hand := .holding, step := some .note, noteOp := some .read } }) ∧
  ∀ (s : State) (i : Fin 16) (first last : Nat) (rest : List Order) (r : CartRecord),
    s.chg.queue = .scan first last :: rest → s.chg.step = some .grip → s.chg.scanAt = i.val →
    s.mtb.get (.slot i) = some r → (r.presence = .unknown ∨ (r.dirty = false ∧ r.noteState = .unread)) →
    Runs .gripConfirmed s
      { s with chg := { s.chg with hand := .holding, step := some .note, noteOp := some .read } }

/-- A travel, grip or place that is not reported in time ends the running order TRAVEL_FAULT, GRIP_FAULT or PLACE_FAULT
and the others CANCELLED: FAULTED, the picker in travel, or the hand unsettled with the location noted; the records stay
where they stood. -/
def Obligations.PickerFaultsStopTheChanger : Prop :=
  (∀ (s : State) (o : Order) (rest : List Order) (st : OrderStep), s.chg.queue = o :: rest → s.chg.step = some st →
    (st = .travelSource ∨ st = .travelDest) →
    Runs .travelFault s
      { s with
        lnk :=
          queued s.lnk
            (orderEnd s o .travelFault (some (if st = .travelSource then s.chg.gripLoc o else .hand)) :: cancelled rest)
        chg := { withOrders s.chg [] with st := .faulted, picker := .inTravel } }) ∧
  ∀ (s : State) (o : Order) (rest : List Order), s.chg.queue = o :: rest →
    (s.chg.step = some .grip →
      Runs .gripFault s
        { s with
          lnk := queued s.lnk (orderEnd s o .gripFault (some (s.chg.gripLoc o)) :: cancelled rest)
          chg := { withOrders s.chg [] with st := .faulted, hand := .unsettledGrip (s.chg.gripLoc o) } }) ∧
    (∀ a b, s.chg.step = some (.place a b) →
      Runs .placeFault s
        { s with
          lnk := queued s.lnk (orderEnd s o .placeFault (some .hand) :: cancelled rest)
          chg :=
            { withOrders s.chg [] with
              st := .faulted, hand := .unsettledPlace (s.chg.placeLoc o) } })

/-- A note read completes: the gripped cartridge's record is rebuilt from the image, or as MISSING with none, and the
image is held. In the note step of a MOVE to a slot away from the picker the picker travels on; a SCAN counts the note
and begins the push-back. An image without its marker rebuilds the record INVALID, with nothing else taken; a class
byte or a section list that fails the checks leaves it DAMAGED with its label and load count. -/
def Obligations.NoteReadRebuildsTheRecord : Prop :=
  (∀ (s : State) (src : Loc) (i : Fin 16) (auto : Bool) (tag : Half) (rest : List Order) (image : Option (List Byte)),
    s.chg.queue = .move src (.slot i) auto tag :: rest → s.chg.noteOp = some .read →
    s.chg.picker ≠ .atLoc (.slot i) →
    ∃ u r, Runs (.noteReadComplete image) s u ∧ u.mtb.get .hand = some r ∧
      r = { rebuild image with duplicate := r.duplicate } ∧
      u.chg =
        { s.chg with st := .running, step := some .travelDest, picker := .inTravel, noteOp := none, image := image } ∧
      u.lnk = s.lnk ∧ u.tc0 = s.tc0 ∧ u.tc1 = s.tc1 ∧
      (∀ k, k ≠ .hand → ((u.mtb.get k).map fun q => { q with duplicate := false }) =
        (s.mtb.get k).map fun q => { q with duplicate := false })) ∧
  (∀ (s : State) (i : Fin 16) (first last : Nat) (rest : List Order) (image : Option (List Byte)),
    s.chg.queue = .scan first last :: rest → s.chg.noteOp = some .read → s.chg.scanAt = i.val →
    ∃ u r, Runs (.noteReadComplete image) s u ∧ u.mtb.get (.slot i) = some r ∧
      r = { rebuild image with duplicate := r.duplicate } ∧
      u.chg =
        { s.chg with st := .running, step := some (.place false false), noteOp := none, image := image,
                     notesRead := s.chg.notesRead + 1 } ∧
      u.lnk = s.lnk ∧ u.tc0 = s.tc0 ∧ u.tc1 = s.tc1) ∧
  rebuild none = { noteState := .missing } ∧
  ∀ (img : List Byte) (label : Option Label),
    label =
      (if isLabel ((img.drop 1).take 12) = true then some { chars := (img.drop 1).take 12, source := .note } else none) →
    (img.getD 0 0 ≠ 0x3C → rebuild (some img) = { noteState := .invalid }) ∧
    (img.getD 0 0 = 0x3C →
      (img.getD 13 0 ≠ 1 → img.getD 13 0 ≠ 2 →
        rebuild (some img) =
          { noteState := .damaged, label := label, loadCount := beNat ((img.drop 14).take 2) }) ∧
      ∀ c, (img.getD 13 0 = match c with | .t1 => 1 | .t2 => 2) →
        (noteSections img c = none →
          rebuild (some img) =
            { noteState := .damaged, label := label, cls := some c, loadCount := beNat ((img.drop 14).take 2) }) ∧
        (3 < (img.getD 16 0).toNat → noteSections img c = none))

/-- A note write goes through the unlock, page 0 with the marker cleared, pages 1 to 63, page 0 with the marker set, and
the read back; each completion brings the next. Page n carries bytes 32 n to 32 n + 31 of the image, and so the last
page 0 and the pages 1 to 63 together carry the image. One that times out, or whose read back differs, leaves the record
INVALID and dirty as it was, and the MOVE travels on, to end NOTE_WRITE_FAULT; one whose read back equals the image
leaves it VALID, and clean unless it changed meanwhile. -/
def Obligations.NoteWriteGoesPageByPageToItsEnd : Prop :=
  (∀ (s : State) (r : CartRecord) (st : WriteStep), s.chg.noteOp = some (.write r st) →
    Runs .notePageComplete s
      { s with chg :=
        { s.chg with noteOp := some (.write r
          (match st with
            | .unlock => .pageClear
            | .pageClear => .page 1
            | .page n => if n < 63 then .page (n + 1) else .pageSet
            | .pageSet => .readBack
            | .readBack => .readBack)) } } ∧
    ∀ img, s.chg.image = some img →
      s.chg.pageSent =
        (match st with
          | .unlock => none
          | .pageClear => some (0, 0x00 :: (img.take 32).drop 1)
          | .page n => some (n, (img.drop (32 * n)).take 32)
          | .pageSet => some (0, 0x3C :: (img.take 32).drop 1)
          | .readBack => none)) ∧
  (∀ img : List Byte, img.length = 2048 → img.head? = some 0x3C →
    ∃ first : List Byte, WriteStep.carries img .pageSet = some (0, first) ∧
      first ++ ((List.range 63).map fun n => (((WriteStep.page (n + 1)).carries img).map (·.2)).getD []).flatten = img) ∧
  ∀ (s : State) (src : Loc) (i : Fin 16) (auto : Bool) (tag : Half) (rest : List Order) (grip r : CartRecord)
    (st : WriteStep) (failed : State),
    s.chg.queue = .move src (.slot i) auto tag :: rest → s.chg.noteOp = some (.write grip st) →
    s.mtb.get .hand = some r → s.chg.picker ≠ .atLoc (.slot i) →
    failed =
      { s with
        mtb := s.mtb.put .hand (some { r with noteState := .invalid })
        chg := { s.chg with st := .running, step := some .travelDest, picker := .inTravel, noteOp := none,
                            noteFault := true } } →
    (st ≠ .readBack → Runs .noteWriteTimeout s failed) ∧
    (∀ image, st = .readBack → (image = none ∨ image ≠ s.chg.image) → Runs (.noteReadComplete image) s failed) ∧
    (∀ image, st = .readBack → s.chg.image = some image →
      Runs (.noteReadComplete (some image)) s
        { s with
          mtb := s.mtb.put .hand (some { r with
            noteState := .valid
            dirty := decide ({ grip with duplicate := false } ≠ { r with duplicate := false }) })
          chg := { s.chg with st := .running, step := some .travelDest, picker := .inTravel, noteOp := none } })

/-- The hand shows empty at a slot or M: the place of a MOVE is confirmed, the record passes from the hand to the
location, the image is discarded, and the order ends OK, or NOTE_WRITE_FAULT after a failed note write. At a bay the
place is confirmed at the later of the hand's release and the transport's seating, in either order: then the record
passes with the class and protect sensed there and is otherwise as it was, the order ends in the same way, and an
autoload starts a LOAD, to which the record is bound. Other records keep all but DUPLICATE. A SCAN's push-back
discards the image and goes on to the next location, or ends OK. -/
def Obligations.PlacePassesTheRecordOnceConfirmed : Prop :=
  (∀ (s : State) (src dst : Loc) (auto : Bool) (tag : Half) (rest : List Order) (b : Bool) (r : CartRecord),
    s.chg.queue = .move src dst auto tag :: rest → (dst = .mail ∨ ∃ i, dst = .slot i) →
    s.chg.step = some (.place false b) → s.mtb.get .hand = some r →
    ∃ u r', Runs .placeConfirmed s u ∧ u.mtb.get .hand = none ∧ u.mtb.get dst = some r' ∧
      r' = { r with duplicate := r'.duplicate } ∧
      u.lnk = queued s.lnk
        [orderEnd u (.move src dst auto tag) (if s.chg.noteFault then .noteWriteFault else .ok) (some dst)] ∧
      u.chg = { withOrders s.chg rest with st := .running, hand := .empty, image := none } ∧
      u.tc0 = s.tc0 ∧ u.tc1 = s.tc1 ∧ OthersKept dst s u) ∧
  (∀ (s : State) (t : Tr) (src : Loc) (auto : Bool) (tag : Half) (rest : List Order) (cls : CartClass)
    (protect : Protect) (r : CartRecord),
    s.chg.queue = .move src (.bay t) auto tag :: rest → (s.tc t).job = none →
    s.mtb.get .hand = some r → s.chg.takeHold ≠ some t →
    ((s.tc t).st = .empty → s.chg.step = some (.place false false) →
      Runs .placeConfirmed s { s with chg := { s.chg with step := some (.place true false) } } ∧
      ∃ u, Runs (.cartridgeSeated t cls protect) s u ∧ u.chg = { s.chg with step := some (.place false true) } ∧
        u.tc t = { s.tc t with st := .seated, pos := none } ∧ u.lnk = s.lnk ∧
        u.mtb.bayValues t = some { cls := cls, protect := protect } ∧ u.mtb.get .hand = some r) ∧
    ∀ c, (((s.tc t).st = .empty ∧ s.chg.step = some (.place true false) ∧ c = .cartridgeSeated t cls protect) ∨
        ((s.tc t).st = .seated ∧ s.chg.step = some (.place false true) ∧ c = .placeConfirmed ∧
          s.mtb.bayValues t = some { cls := cls, protect := protect })) →
      ∃ u r', Runs c s u ∧ u.mtb.get .hand = none ∧
        u.mtb.get (.bay t) = some r' ∧
        r' =
          { r with
            cls := some cls, protect := some protect, duplicate := r'.duplicate
            binding := if auto then some t else r.binding } ∧
        u.lnk = queued s.lnk
          [orderEnd u (.move src (.bay t) auto tag) (if s.chg.noteFault then .noteWriteFault else .ok)
            (some (.bay t))] ∧
        u.chg = { withOrders s.chg rest with st := .running, hand := .empty, image := none } ∧
        (u.tc t).st = (if auto then .threading else .seated) ∧
        (u.tc t).job = (if auto then some (.load {}) else none) ∧ u.tc t.other = s.tc t.other ∧
        OthersKept (.bay t) s u) ∧
  ∀ (s : State) (first last : Nat) (rest : List Order) (b : Bool),
    s.chg.queue = .scan first last :: rest → s.chg.step = some (.place false b) →
    (last ≤ s.chg.scanAt →
      Runs .placeConfirmed s
        { s with
          lnk := queued s.lnk [orderEnd s (.scan first last) .ok none]
          chg := { withOrders s.chg rest with st := .running, hand := .empty, image := none } }) ∧
    (s.chg.scanAt < last → s.chg.picker ≠ .atLoc (scanLoc (s.chg.scanAt + 1)) →
      Runs .placeConfirmed s
        { s with chg :=
          { s.chg with st := .running, step := some .travelSource, picker := .inTravel, hand := .empty, image := none,
                       scanAt := s.chg.scanAt + 1 } })

/-- An order that waits at a bay goes on when its transport reaches SEATED, under a take-hold, and ends SOURCE_EMPTY
when it reaches EMPTY; any other state leaves it waiting. One that waits at M goes on when the mail door closes: a
source is to be sensed, a destination found free begins the place, and one found occupied ends the order
DEST_OCCUPIED. The timers end a waiting order: BAY_TIMEOUT at a bay, MAIL_TIMEOUT at M as a source or in a SCAN, and
the next order may start; MAIL_TIMEOUT of a MOVE at its destination cancels the queue and leaves the changer HELD. -/
def Obligations.WaitingOrdersResumeOrTimeOut : Prop :=
  ∀ (s : State) (o : Order) (rest : List Order), s.chg.queue = o :: rest →
    (∀ t, s.chg.st = .waitBay → s.chg.step = some (.waitBay t) →
      ((s.tc t).st = .seated →
        s.chgWatch = { s with chg := { s.chg with st := .running, step := some .grip, takeHold := some t } }) ∧
      ((s.tc t).st = .empty → (∃ dst auto tag, o = .move (.bay t) dst auto tag) →
        s.chgWatch.mtb.get (.bay t) = none ∧ s.chgWatch.lnk = queued s.lnk [orderEnd s o .sourceEmpty none] ∧
          s.chgWatch.chg = { withOrders s.chg rest with st := .running }) ∧
      ((s.tc t).st ≠ .seated → (s.tc t).st ≠ .empty → s.chgWatch = s) ∧
      Runs .bayTimeout s
        { s with
          lnk := queued s.lnk [orderEnd s o .bayTimeout (some (s.chg.gripLoc o))]
          chg := { withOrders s.chg rest with st := .running } }) ∧
    (s.chg.st = .waitMail → s.chg.step = some .waitMailSource →
      Runs .mailTimeout s
        { s with
          lnk := queued s.lnk [orderEnd s o .mailTimeout (some (s.chg.gripLoc o))]
          chg := { withOrders s.chg rest with st := .running } } ∧
      ∀ present, s.chg.mailOpen = true →
        ∃ u, Runs (.mailDoorClose present) s u ∧ (u.mtb.get .mail).isSome = present ∧
          u.chg = { s.chg with mailOpen := false, st := .running, step := some .senseSource }) ∧
    (s.chg.st = .waitMail → s.chg.step = some .waitMailDest →
      Runs .mailTimeout s
        { s with
          lnk := queued s.lnk (orderEnd s o .mailTimeout (some .hand) :: cancelled rest)
          chg := { withOrders s.chg [] with st := .held } } ∧
      (s.chg.mailOpen = true →
        (∃ u, Runs (.mailDoorClose false) s u ∧ u.mtb.get .mail = none ∧
          u.chg = { s.chg with mailOpen := false, st := .running, step := some (.place false false) }) ∧
        ∃ u, Runs (.mailDoorClose true) s u ∧ u.mtb.get .mail ≠ none ∧
          u.chg = { withOrders s.chg [] with mailOpen := false, st := .held } ∧
          u.lnk = queued s.lnk
            ((if s.mtb.get .mail = none then [.mailArrived] else []) ++
              orderEnd s o .destOccupied (some .hand) :: cancelled rest)))

/-- The main door opens: the running order ends DOOR_OPEN, a SCAN with its counts, the queued ones CANCELLED, and then
a DOOR notice goes out. A note operation ends with the image discarded, the record of a write INVALID and otherwise as
it was; a grip or place in progress, or a SCAN between grip and push-back, leaves the hand unsettled with its
location; a take-hold stays. Every record in S0 to S15 and M becomes UNKNOWN, those in the bays and the hand keep
their presence. The changer is HALTED, or stays FAULTED; a homing in progress is owed; no transport is touched. It
closes: a DOOR notice goes out; FAULTED stays; a homing owed starts; otherwise the hand, settled or not yet, decides
between HELD and IDLE, an unsettled one by the grip sensor and the step noted, with the take-hold removed. -/
def Obligations.MainDoorHaltsAndResumesTheChanger : Prop :=
  (∀ s : State, s.chg.mainOpen = false →
    ∃ u, Runs .mainDoorOpen s u ∧ u.chg.mainOpen = true ∧ u.chg.queue = [] ∧ u.chg.step = none ∧
      u.chg.noteOp = none ∧ u.chg.mailLock = false ∧
      u.chg.st = (if s.chg.st = .faulted then .faulted else .halted) ∧
      u.chg.homingOwed = (s.chg.homingOwed || decide (s.chg.st = .homing)) ∧
      u.chg.hand = handCut s.chg ∧ u.chg.takeHold = s.chg.takeHold ∧ u.chg.picker = s.chg.picker ∧
      u.chg.image = (if s.chg.noteOp = none then s.chg.image else none) ∧ u.chg.mailOpen = s.chg.mailOpen ∧
      (∀ l, u.mtb.get l = ((noteCut s).get l).map fun r =>
        { r with presence := match l with | .slot _ | .mail => .unknown | .bay _ | .hand => r.presence }) ∧
      u.lnk = queued s.lnk (cutEnds s .doorOpen ++ [.door true]) ∧
      u.tc0 = s.tc0 ∧ u.tc1 = s.tc1 ∧ u.cx0 = s.cx0 ∧ u.cx1 = s.cx1 ∧ u.dp = s.dp) ∧
  ∀ (s : State) (grip : Bool), s.chg.mainOpen = true →
    (s.chg.st ≠ .halted →
      Runs (.mainDoorClose grip) s
        { s with lnk := queued s.lnk [.door false], chg := { s.chg with mainOpen := false } }) ∧
    (s.chg.st = .halted → s.chg.homingOwed = true →
      Runs (.mainDoorClose grip) s
        { s with
          lnk := queued s.lnk [.door false]
          chg := { s.chg with mainOpen := false, st := .homing, picker := .inTravel, homingOwed := false } }) ∧
    (s.chg.st = .halted → s.chg.homingOwed = false → (s.chg.hand = .empty ∨ s.chg.hand = .holding) →
      Runs (.mainDoorClose grip) s
        { s with
          lnk := queued s.lnk [.door false]
          chg := { s.chg with mainOpen := false, st := if s.chg.hand = .holding then .held else .idle } }) ∧
    ∀ l, s.chg.st = .halted → s.chg.homingOwed = false →
      (s.chg.hand = .unsettledGrip l ∨ s.chg.hand = .unsettledPlace l) →
      Runs (.mainDoorClose grip) s
        { s with
          lnk := queued s.lnk [.door false]
          mtb := (s.settleHand grip).mtb
          chg :=
            { s.chg with
              mainOpen := false, st := if grip then .held else .idle, hand := if grip then .holding else .empty,
              image := if grip then s.chg.image else none, takeHold := none } }

/-- A homing ends at home: the hand settled from the grip sensor, HELD or IDLE, with a READY notice; at its timeout
FAULTED, with a READY notice. The media table is then as the settling leaves it. An unsettled hand is settled by the
sensor and the step noted: a cartridge held after a grip passes its record from the noted location, or has one created;
a hand found empty after a place gives its record to the noted location; a cartridge held after a scan's place takes the
record of the scanned location. -/
def Obligations.HomingSettlesTheHand : Prop :=
  (∀ (s : State) (grip : Bool), s.chg.st = .homing →
    ((s.chg.hand = .empty ∨ s.chg.hand = .holding) →
      Runs (.homingComplete grip) s
        { s with
          lnk := queued s.lnk [.ready (if s.chg.hand = .holding then .held else .idle)]
          chg := { s.chg with picker := .home, st := if s.chg.hand = .holding then .held else .idle } }) ∧
    (∀ l, (s.chg.hand = .unsettledGrip l ∨ s.chg.hand = .unsettledPlace l) →
      Runs (.homingComplete grip) s
        { s with
          lnk := queued s.lnk [.ready (if grip then .held else .idle)]
          mtb := (s.settleHand grip).mtb
          chg :=
            { s.chg with
              picker := .home, st := if grip then .held else .idle, hand := if grip then .holding else .empty,
              image := if grip then s.chg.image else none, takeHold := none } }) ∧
    Runs .homingTimeout s { s with lnk := queued s.lnk [.ready .faulted], chg := { s.chg with st := .faulted } }) ∧
  ∀ (s : State) (l : Loc), l ≠ .hand →
    (s.chg.hand = .unsettledGrip l → s.mtb.get .hand = none → (∀ r, s.mtb.get l = some r →
      ∃ r', (s.settleHand true).mtb.get .hand = some r' ∧ r'.label = r.label ∧ r'.presence = r.presence ∧
        (s.settleHand true).mtb.get l = none) ∧
      (s.mtb.get l = none → (s.settleHand true).mtb.get .hand = some {}) ∧ (s.settleHand false).mtb = s.mtb) ∧
    (s.chg.hand = .unsettledPlace l →
      (∀ r, s.mtb.get .hand = some r →
        (s.settleHand true).mtb = s.mtb ∧ (s.settleHand false).mtb.get .hand = none ∧
          ∃ r', (s.settleHand false).mtb.get l = some r' ∧ r'.label = r.label ∧ r'.presence = r.presence) ∧
      (s.mtb.get .hand = none →
        (s.settleHand false).mtb = s.mtb ∧
          ∀ r, s.mtb.get l = some r → (s.settleHand true).mtb.get l = none ∧
            ∃ r', (s.settleHand true).mtb.get .hand = some r' ∧ r'.label = r.label ∧ r'.presence = r.presence))

/-- The mail door opens, without effect on the records; at its closing the mail-slot sensor is taken: a cartridge
without a record gets one and a MAIL_ARRIVED notice, a record with a cartridge becomes UNKNOWN, a record without one is
removed with a MAIL_TAKEN notice. -/
def Obligations.MailDoorClosingTakesTheMailSlot : Prop :=
  ∀ s : State,
    (s.chg.mailLock = false → Runs .mailDoorOpen s { s with chg := { s.chg with mailOpen := true } }) ∧
    (s.chg.mailOpen = true → s.chg.st ≠ .waitMail →
      (s.mtb.get .mail = none →
        Runs (.mailDoorClose true) s
          { s with
            lnk := queued s.lnk [.mailArrived]
            mtb := s.mtb.put .mail (some {})
            chg := { s.chg with mailOpen := false } } ∧
        Runs (.mailDoorClose false) s { s with chg := { s.chg with mailOpen := false } }) ∧
      ∀ r, s.mtb.get .mail = some r →
        Runs (.mailDoorClose true) s
          { s with
            mtb := s.mtb.put .mail (some { r with presence := .unknown })
            chg := { s.chg with mailOpen := false } } ∧
        ∃ u, Runs (.mailDoorClose false) s u ∧ u.mtb.get .mail = none ∧
          u.lnk = queued s.lnk [.mailTaken] ∧ u.chg = { s.chg with mailOpen := false })

/-- Two records carry DUPLICATE exactly when they hold equal labels, whenever the flags have been settled; and every
step from a table with settled flags leaves one, whatever it does to labels and records. -/
def Obligations.DuplicateMarksEqualLabels : Prop :=
  (∀ (m : Mtb) (l : Loc) (r : CartRecord), m.settle.get l = some r →
    (r.duplicate = true ↔
      ∃ k q a b, k ≠ l ∧ m.settle.get k = some q ∧ r.label = some a ∧ q.label = some b ∧ a.chars = b.chars)) ∧
  ∀ s s' : State, s.DuplicatesSettled → step s = .next s' → s'.DuplicatesSettled

/-! ## Seating, loading, unloading, labelling -/

/-- A cartridge seats in an EMPTY bay, where no order is being placed: SEATED, the class and protect written into the
record that stands there and held for the bay. It leaves its seat in SEATED: EMPTY, no position, no label count, nothing
held for the bay. -/
def Obligations.SeatingAndUnseatingABay : Prop :=
  (∀ (s : State) (t : Tr) (cls : CartClass) (protect : Protect), (s.tc t).st = .empty →
    (∀ a b, s.chg.step ≠ some (.place a b)) →
    ∃ u, Runs (.cartridgeSeated t cls protect) s u ∧ u.chg = s.chg ∧ u.lnk = s.lnk ∧
      u.tc t = { s.tc t with st := .seated, pos := none } ∧ u.tc t.other = s.tc t.other ∧
      u.mtb.bayValues t = some { cls := cls, protect := protect } ∧ OnlyRecord (.bay t) s u ∧
      u.mtb.get (.bay t) =
        (s.mtb.get (.bay t)).map fun r => { r with cls := some cls, protect := some protect }) ∧
  ∀ (s : State) (t : Tr), (s.tc t).st = .seated →
    Runs (.cartridgeUnseated t) s
      (State.setTc { s with mtb := s.mtb.setBayValues t none } t
        { s.tc t with st := .empty, pos := none, labelCount := none })

/-- LOAD, UNLOAD, REWIND and LABEL are answered ACCEPTED in the states that take them, and start their jobs: the record
is bound, the context cleared, the tape set in motion. -/
def Obligations.BayRequestsStartTheirJobs : Prop :=
  ∀ (s : State) (t : Tr) (tag : Byte), Takes s →
    ((s.tc t).st = .seated → s.chg.takeHold ≠ some t →
      Runs (.load t tag) s
        (jobStarted (replied s (.transport t) tag 0x20 .accepted) t (.load {}) .threading .none)) ∧
    (((s.tc t).st = .ready ∨ (s.tc t).st = .adrift ∨ (s.tc t).st = .faulted) →
      Runs (.unload t tag) s
        (jobStarted (replied s (.transport t) tag 0x21 .accepted) t .unload .rewinding .none)) ∧
    (((s.tc t).st = .ready ∨ (s.tc t).st = .adrift) →
      Runs (.rewind t tag) s
        (jobStarted (replied s (.transport t) tag 0x22 .accepted) t .rewind .rewinding .none)) ∧
    ∀ (chars : List Byte) (r : CartRecord) (c : CartClass), (s.tc t).st = .ready → isLabel chars = true →
      s.mtb.get (.bay t) = some r → r.protect = some .clear → r.cls = some c →
      (∀ l q lb, l ≠ .bay t → s.mtb.get l = some q → q.label = some lb → lb.chars ≠ chars) →
      Runs (.label t tag chars) s
        (jobStarted (replied s (.transport t) tag 0x23 .accepted) t
          (.label
            { chars := chars
              count := (match (s.tc t).labelCount with | none => 1 | some n => min 4294967295 (n + 1))
              cls := c })
          .rewinding .none)

/-- Threading ends: IDENTIFYING at frame 0, where the first frame with a good header gives the finding: LABEL with the
label and the label count of a LABEL frame whose header, payload check and characters are good; NO_LABEL, flagged
LABEL_UNREADABLE, for another LABEL frame; NO_LABEL for any other frame; 32 frames without a good header give BLANK. The
rewind that ends the LOAD: READY at frame 0, OK, with the finding reported, the load count one higher and dirty set. A
LABEL finding gives the record the tape label and the transport its count; one differing from the label held sets
MISMATCH and takes away the end of data, the map and the totals. NO_LABEL and BLANK change nothing else, and leave no
count. With no record in the bay none is updated, and the load count reported is a free value. -/
def Obligations.LoadIdentifiesTheTape : Prop :=
  (∀ (s : State) (t : Tr),
    ((s.tc t).st = .threading →
      Runs (.threadComplete t) s (s.setTc t { s.tc t with st := .identifying, pos := some 0 })) ∧
    ∀ (n p : Nat), (s.tc t).st = .identifying → (s.tc t).pos = some p →
      (s.tc t).job = some (.load { framesRead := n, finding := none }) →
      (∀ header payload f, readFrame (.bytes header payload) = some f →
        ∃ found,
          Runs (.identifyFrameRead t (.bytes header payload)) s
            (s.setTc t { s.tc t with
              pos := some (f.hdr.frame + 1)
              job := some (.load { framesRead := n + 1, finding := some found }) }) ∧
          (f.hdr.kind = 1 → f.hdr.malformed = false → f.payGood = true → isLabel (f.payload.take 12) = true →
            found = .label (f.payload.take 12) (beNat ((f.payload.drop 13).take 4))) ∧
          (f.hdr.kind = 1 → (f.hdr.malformed = true ∨ f.payGood = false ∨ isLabel (f.payload.take 12) = false) →
            found = .noLabel true) ∧
          (f.hdr.kind ≠ 1 → found = .noLabel false)) ∧
      (∀ raw, readFrame raw = none →
        Runs (.identifyFrameRead t raw) s
          (s.setTc t { s.tc t with
            pos := some (p + 1)
            job := some (.load { framesRead := n + 1, finding := if 32 ≤ n + 1 then some .blank else none }) }))) ∧
  (∀ (s : State) (t : Tr) (n : Nat) (found : Finding), (s.tc t).st = .identifying →
    (s.tc t).job = some (.load { framesRead := n, finding := some found }) → s.mtb.get (.bay t) = none →
    ∃ u, Runs (.rewindComplete t) s u ∧
      u.tc t =
        { s.tc t with
          st := .ready, pos := some 0, job := none,
          labelCount := match found with | .label _ count => some count | _ => none } ∧
      EndNoticed t .load .ok (loadLayout (some found) none (Config.unstated s.free) 0) s u ∧
      ∀ l, (u.mtb.get l).isSome = (s.mtb.get l).isSome) ∧
  ∀ (s : State) (t : Tr) (n : Nat) (found : Finding) (r : CartRecord),
    (s.tc t).st = .identifying →
    (s.tc t).job = some (.load { framesRead := n, finding := some found }) →
    s.mtb.get (.bay t) = some r →
    ∃ u r', Runs (.rewindComplete t) s u ∧
      u.tc t =
        { s.tc t with
          st := .ready, pos := some 0, job := none,
          labelCount := match found with | .label _ count => some count | _ => none } ∧
      u.tc t.other = s.tc t.other ∧ u.chg = s.chg ∧
      EndNoticed t .load .ok
        ((match found with
          | .label chars count =>
            [1, 0] ++ 1 :: chars ++ 1 :: beBytes 4 count ++
              [1, match r.label with | none => 1 | some held => if held.chars = chars then 2 else 3]
          | .noLabel unreadable => [2, if unreadable then 1 else 0] ++ List.replicate 20 0
          | .blank => [3, 0] ++ List.replicate 20 0) ++ beBytes 2 (min 65535 (r.loadCount + 1))) s u ∧
      u.mtb.get (.bay t) = some r' ∧ r'.binding = none ∧ r'.dirty = true ∧
      r'.loadCount = min 65535 (r.loadCount + 1) ∧
      ((∀ chars count, found ≠ .label chars count) →
        r'.label = r.label ∧ r'.mismatch = r.mismatch ∧ r'.eod = r.eod ∧ r'.map = r.map ∧ r'.rawTotal = r.rawTotal ∧
          r'.codedTotal = r.codedTotal) ∧
      ∀ chars count, found = .label chars count →
        r'.label = some { chars := chars, source := .tape } ∧
        (∀ held, r.label = some held → held.chars ≠ chars →
          r'.mismatch = true ∧ r'.eod = .unknown ∧ r'.map = [] ∧ r'.rawTotal = 0 ∧ r'.codedTotal = 0) ∧
        ((∀ held, r.label = some held → held.chars = chars) →
          r'.mismatch = false ∧ r'.eod = r.eod ∧ r'.map = r.map ∧ r'.rawTotal = r.rawTotal ∧
            r'.codedTotal = r.codedTotal)

/-- The rewind of a REWIND ends the job READY at frame 0; that of an UNLOAD leads to UNTHREADING, whose completion ends
the job SEATED; that of a LABEL leads to the writing of frame 0. -/
def Obligations.RewindsEndOrLeadOn : Prop :=
  ∀ (s : State) (t : Tr),
    ((s.tc t).st = .rewinding → (s.tc t).job = some .rewind →
      ∃ u, Runs (.rewindComplete t) s u ∧ (u.tc t).st = .ready ∧ (u.tc t).pos = some 0 ∧
        (u.tc t).labelCount = (s.tc t).labelCount ∧ JobEnded t .rewind .ok [] s u) ∧
    ((s.tc t).st = .rewinding → (s.tc t).job = some .unload →
      Runs (.rewindComplete t) s (s.setTc t { s.tc t with st := .unthreading, pos := some 0 })) ∧
    ((s.tc t).st = .unthreading → (s.tc t).job = some .unload →
      ∃ u, Runs (.unthreadComplete t) s u ∧ (u.tc t).st = .seated ∧ (u.tc t).pos = none ∧
        JobEnded t .unload .ok [] s u) ∧
    ∀ j : LabelJob, (s.tc t).st = .rewinding → (s.tc t).job = some (.label j) →
      ∃ u f, Runs (.rewindComplete t) s u ∧
        u = s.setTc t { s.tc t with st := .writing, pos := some 0,
                                    job := some (.label { j with inProgress := some f }) } ∧
        f.payload = j.chars ++ [match j.cls with | .t1 => (1 : Byte) | .t2 => 2] ++ beBytes 4 j.count ∧
        f.hdr.kind = 1 ∧ f.hdr.frame = 0 ∧ f.hdr.pass = 0 ∧ f.hdr.addr = 4294967295 ∧ f.hdr.payLen = f.payload.length

/-- A LABEL job writes the LABEL frame at frame 0 and an EOD frame at frame 1. Its first read-back result is noted,
GOOD or BAD, and at the second it ends: OK with the new label, an end of data at address 0 and frame 1, no map and no
totals, when both were GOOD; WRITE_FAULT with the record as it was, unbound, and no label count, when either was BAD.
-/
def Obligations.LabelJobWritesTwoFrames : Prop :=
  ∀ (s : State) (t : Tr) (j : LabelJob) (f : WFrame),
    (s.tc t).st = .writing →
    ((s.tc t).job = some (.label { j with inProgress := some f }) → f.hdr.frame = 0 →
      ∃ e, Runs (.writeCompletion t) s
        (s.setTc t { s.tc t with
          pos := some 1
          inflight := (s.tc t).inflight ++ [f]
          job := some (.label { j with inProgress := some e }) }) ∧
        e.hdr.kind = 5 ∧ e.hdr.frame = 1 ∧ e.hdr.addr = 0 ∧ e.hdr.file = 0 ∧ e.payload = []) ∧
    ∀ (rest : List WFrame) (raw : RawFrame), (s.tc t).inflight = f :: rest →
      ((s.tc t).job = some (.label { j with results := 0 }) →
        Runs (.readBackResult t f.hdr.frame raw) s
          (s.setTc t { s.tc t with
            inflight := rest
            job := some (.label { j with results := 1, bad := j.bad || !judge f.hdr raw }) })) ∧
      ∀ r : CartRecord, (s.tc t).job = some (.label { j with results := 1 }) → s.mtb.get (.bay t) = some r →
        (j.bad = false → judge f.hdr raw = true →
          ∃ u r', Runs (.readBackResult t f.hdr.frame raw) s u ∧ (u.tc t).st = .ready ∧
            (u.tc t).labelCount = some j.count ∧ JobGone t u ∧ OtherKept t s u ∧
            EndNoticed t .label .ok (j.chars ++ beBytes 4 j.count) s u ∧
            u.mtb.get (.bay t) = some r' ∧ r'.label = some { chars := j.chars, source := .tape } ∧ r'.mismatch = false ∧
            r'.eod = .known 0 1 0 ∧ r'.map = [] ∧ r'.rawTotal = 0 ∧ r'.codedTotal = 0 ∧ r'.dirty = true ∧
            r'.binding = none) ∧
        (j.bad = true ∨ judge f.hdr raw = false →
          ∃ u, Runs (.readBackResult t f.hdr.frame raw) s u ∧ (u.tc t).st = .ready ∧ (u.tc t).labelCount = none ∧
            JobEnded t .label .writeFault (j.chars ++ beBytes 4 j.count) s u ∧
            u.mtb.get (.bay t) = some { r with binding := none })

/-- A mechanism event that fails or is lost stops the tape: FAULTED, no position, the job ended with the result of the
event and its report as it stands, an OPEN end of data UNKNOWN; a LOAD's rewind may be lost in IDENTIFYING too. A
fault of the port, or a cartridge gone, stops a transport that runs no job in the same way, with no JOB_END. -/
def Obligations.MechanismFaultsEndTheJob : Prop :=
  (∀ (s : State) (t : Tr) (j : Job) (r : CartRecord), (s.tc t).job = some j → s.mtb.get (.bay t) = some r →
    ∀ (c : Instr) (res : JobResult),
      ((c = .threadFault t ∧ res = .threadFault ∧ (s.tc t).st = .threading) ∨
        (c = .rewindFault t ∧ res = .rewindFault ∧ (s.tc t).st = .rewinding) ∨
        (c = .rewindFault t ∧ res = .rewindFault ∧ (s.tc t).st = .identifying ∧
          ∃ n found, j = .load { framesRead := n, finding := some found }) ∨
        (c = .unthreadFault t ∧ res = .unthreadFault ∧ (s.tc t).st = .unthreading) ∨
        (c = .mechanismFault t ∧ res = .mechanismFault ∧ (s.tc t).st ≠ .empty ∧ (s.tc t).st ≠ .seated) ∨
        (c = .cartridgeUnseated t ∧ res = .mechanismFault ∧ (s.tc t).st ≠ .empty ∧ (s.tc t).st ≠ .seated)) →
      ∃ u r', Runs c s u ∧ (u.tc t).st = .faulted ∧ (u.tc t).pos = none ∧
        JobLeft t s u ∧ CutNoticed t j.kind res (reportOf s (some r) s.free (s.cutCounts t j) res) s u ∧
        u.mtb.get (.bay t) = some r' ∧
        r'.eod = (if r.eod = .opened then .unknown else r.eod) ∧
        r'.dirty = (r.dirty || decide (r.eod = .opened)) ∧ r'.label = r.label ∧ r'.map = r.map) ∧
  ∀ (s : State) (t : Tr) (c : Instr), (s.tc t).job = none → (s.tc t).st ≠ .empty → (s.tc t).st ≠ .seated →
    (c = .mechanismFault t ∨ c = .cartridgeUnseated t) →
    ∃ u, Runs c s u ∧ (u.tc t).st = .faulted ∧ (u.tc t).pos = none ∧ JobGone t u ∧ OtherKept t s u ∧ u.chg = s.chg ∧
      InboundKept s u ∧ OnlyRecord (.bay t) s u ∧
      ∀ kind res report, Notice.jobEnd t kind res report ∈ u.lnk.notices → Notice.jobEnd t kind res report ∈ s.lnk.notices

/-- A TRANSPORT_RESET is answered DONE in every state: a running job ends RESET, the transport takes its state from
the bay's sensors, its queues, credits and watch point are gone. Its governor keeps both copies, or moves the pending
one to active where it was armed, and starts anew at the active Lstart. The record in the bay becomes unbound, an OPEN
end of data UNKNOWN with dirty set, the rest kept; found EMPTY where the tape was threaded, or in FAULTED, the record
is removed, and every other as it was but for DUPLICATE. The label count stays while a cartridge is seated; an EMPTY
bay holds none, and no class and protect; one seated unseen hands its class and protect over. No place is in progress.
-/
def Obligations.TransportResetLeavesTheSensedState : Prop :=
  ∀ (s : State) (t : Tr) (tag : Byte) (bay : BaySense) (found : TcState) (lost new : Bool), Takes s →
    (∀ a b, s.chg.step ≠ some (.place a b)) →
    found = (if bay.tapeOut then .adrift else if bay.seated then .seated else .empty) →
    lost = decide (found = .empty ∧ (s.tc t).st ≠ .empty ∧ (s.tc t).st ≠ .seated) →
    new = decide (found = .seated ∧ (s.tc t).st = .empty) →
    ∃ u, Runs (.transportReset t tag bay) s u ∧ (u.tc t).st = found ∧
      (u.tc t).pos = none ∧ (u.tc t).watch = .off ∧ JobGone t u ∧ OtherKept t s u ∧ u.chg = s.chg ∧ InboundKept s u ∧
      (u.tc t).labelCount = (if found = .empty then none else (s.tc t).labelCount) ∧
      u.mtb.bayValues t =
        (if found = .empty then none
         else if new then some { cls := bay.cls, protect := bay.protect } else s.mtb.bayValues t) ∧
      (s.mtb.get (.bay t) = none ∨ lost = true → u.mtb.get (.bay t) = none) ∧
      (∀ r, s.mtb.get (.bay t) = some r → lost = false →
        u.mtb.get (.bay t) = some { r with
          eod := if r.eod = .opened then .unknown else r.eod
          dirty := r.dirty || decide (r.eod = .opened)
          binding := if (s.tc t).job = none then r.binding else none
          cls := if new then some bay.cls else r.cls
          protect := if new then some bay.protect else r.protect }) ∧
      (∀ l, l ≠ .bay t → ((u.mtb.get l).map fun q => { q with duplicate := false }) =
        (s.mtb.get l).map fun q => { q with duplicate := false }) ∧
      (∀ j, (s.tc t).job = some j →
        CutNoticed t j.kind .reset (reportOf s (s.mtb.get (.bay t)) s.free (s.cutCounts t j) .reset) s u ∧
          Unbound t u) ∧
      (u.tc t).gov = started (armedMoved (s.tc t).gov) ∧
      u.lnk.replies = s.lnk.replies ++ [{ chan := .transport t, tag := tag, code := 0x2E, body := .done [] }]

/-! ## The governor and the watch point -/

/-- SET_GOVERNOR clamps each value to the nearer end of its range and replaces the whole pending copy, unless Lmin
then exceeds Lmax: refused RANGE. Only the pending copy changes. GET_GOVERNOR answers both copies, the armed mark, A,
L and the evaluation count as they stand, and changes nothing. -/
def Obligations.SetAndGetGovernor : Prop :=
  (∀ (s : State) (t : Tr) (tag : Byte) (g : GovBytes) (p : GovSet), Takes s →
    p =
      { s := max 1 (min 31 g.s.toNat), d := min 8 g.d.toNat, ea := min 7 g.ea.toNat, ma := min 15 g.ma.toNat,
        ed := min 7 g.ed.toNat, md := min 15 g.md.toNat, lmin := max 1 (min 12 g.lmin.toNat),
        lmax := max 1 (min 12 g.lmax.toNat), lstart := max 1 (min 12 g.lstart.toNat), filler := min 63 g.filler.toNat,
        restart := max 1 (min 32 g.restart.toNat), resume := min 31 g.resume.toNat, n := max 1 (min 64 g.n.toNat),
        clearOnApply := decide (g.clearOnApply ≠ 0) } →
    (p.lmin ≤ p.lmax →
      Runs (.setGovernor t tag g) s
        ((replied s (.transport t) tag 0x2A (.done (governorLayout p))).setTc t
          { s.tc t with gov := { (s.tc t).gov with pending := p } })) ∧
    (p.lmax < p.lmin → Runs (.setGovernor t tag g) s (replied s (.transport t) tag 0x2A (.refused .range)))) ∧
  ∀ (s : State) (t : Tr) (tag : Byte) (g : Gov), Takes s → g = (s.tc t).gov →
    Runs (.getGovernor t tag) s
      (replied s (.transport t) tag 0x2C
        (.done (governorLayout g.pending ++ governorLayout g.active ++ [if g.armed then 1 else 0] ++ beBytes 2 g.a.toNat ++
          [BitVec.ofNat 8 g.l.toNat, BitVec.ofNat 8 g.evalCount])))

/-- APPLY while the governor is engaged sets the armed mark; otherwise the pending copy moves at once: the active Lstart
clamped into [Lmin, Lmax], A set to 256 Lstart on clear-on-apply and else clamped, L computed anew. A streaming job in
WAITING that the moved thresholds let resume then streams at the new Lstart; another stays. -/
def Obligations.ApplyMovesOrArmsTheCopy : Prop :=
  ∀ (s : State) (t : Tr) (tag : Byte), Takes s →
    ((s.tc t).engaged = true →
      Runs (.apply t tag) s
        ((replied s (.transport t) tag 0x2B (.done [2])).setTc t
          { s.tc t with gov := { (s.tc t).gov with armed := true } })) ∧
    ∀ (g : Gov) (p : GovSet) (a : Int), (s.tc t).engaged = false → g = (s.tc t).gov →
      p = { g.pending with lstart := max g.pending.lmin (min g.pending.lmax g.pending.lstart) } →
      a = (if p.clearOnApply then 256 * (p.lstart : Int) else max (256 * (p.lmin : Int)) (min (256 * (p.lmax : Int)) g.a)) →
      (∃ u, Runs (.apply t tag) s u ∧ (u.tc t).gov.active = p ∧ (u.tc t).gov.pending = g.pending ∧
        (u.tc t).gov.armed = false ∧
        u.lnk.replies = s.lnk.replies ++ [{ chan := .transport t, tag := tag, code := 0x2B, body := .done [1] }]) ∧
      ((s.tc t).job = none →
        Runs (.apply t tag) s
          ((replied s (.transport t) tag 0x2B (.done [1])).setTc t
            { s.tc t with gov := { g with active := p, a := a, l := (a + 128) / 256, armed := false } })) ∧
      ∀ moved : State,
        moved = s.setTc t { s.tc t with gov := { g with active := p, a := a, l := (a + 128) / 256, armed := false } } →
        (s.tc t).st = .waiting →
        (∀ w place, (s.tc t).job = some (.write w) → WriteStill s t w place → WriteEntries (s.tc t).blockQ →
          w.abort = .none → w.verdict = none →
          (Resumes (moved.tc t) (s.tc t).blockQ → (s.tc t).blockQ ≠ [] →
            ∃ u, Runs (.apply t tag) s u ∧ WriteStreams moved u t w (s.tc t).blockQ place) ∧
          (¬Resumes (moved.tc t) (s.tc t).blockQ →
            Runs (.apply t tag) s (replied moved (.transport t) tag 0x2B (.done [1])))) ∧
        ∀ r i b q, (s.tc t).job = some (.read r) → r.isCompare = false → r.ended = none → r.short = none →
          (s.tc t).blockQ = .readBlock i b [] :: q →
          Runs (.apply t tag) s
            (replied
              (if (s.tc t).blockQ.length ≤ p.resume then
                moved.setTc t { moved.tc t with st := .reading, gov := started (moved.tc t).gov }
              else moved) (.transport t) tag 0x2B (.done [1]))

/-- A frame counts toward the evaluations; the one that reaches N is an evaluation. There an armed copy moves first.
An evaluation takes e = Q - S when writing and S - Q when reading; within the deadband nothing moves; otherwise A
moves by e (16 + M) 2^E / 16, truncated toward zero, with the attack gain above 0 and the decay gain below, and is
clamped; L is A rounded to the nearest level. Every frame written in WRITING counts, with the block queue as it
stands, and none in DRAINING; every frame read in READING counts, whatever it is, with the block queue after its
acceptance. Where the transport goes from WRITING, READING or DRAINING to none of these states, at that event or at a
fault, an ABORT or the end of its drain, an armed copy moves. -/
def Obligations.EvaluationMovesTheAccumulator : Prop :=
  (∀ (g m : Gov) (writing : Bool) (q : Nat) (e k : Int),
    m = { armedMoved g with evalCount := 0 } →
    e = (if writing then (q : Int) - m.active.s else (m.active.s : Int) - q) →
    k = (if 0 < e then (16 + (m.active.ma : Int)) * 2 ^ m.active.ea else (16 + (m.active.md : Int)) * 2 ^ m.active.ed) →
    (g.evalCount + 1 < g.active.n → g.countFrame writing q = { g with evalCount := g.evalCount + 1 }) ∧
    (g.active.n ≤ g.evalCount + 1 →
      (-(m.active.d : Int) ≤ e → e ≤ m.active.d → g.countFrame writing q = m) ∧
      ((e < -(m.active.d : Int) ∨ (m.active.d : Int) < e) →
        ∃ a, (g.countFrame writing q) = { m with a := a, l := (a + 128) / 256 } ∧
          a = max (256 * (m.active.lmin : Int)) (min (256 * (m.active.lmax : Int)) (m.a + (e * k).tdiv 16))))) ∧
  (∀ (s : State) (t : Tr) (w : WriteJob) (f : WFrame) (counted : Gov), (s.tc t).job = some (.write w) →
    w.inProgress = some f → counted = (s.tc t).gov.countFrame true (s.tc t).blockQ.length →
    ∃ u, Runs (.writeCompletion t) s u ∧
      ((s.tc t).st = .writing → (u.tc t).gov = if (u.tc t).st = .hitch then armedMoved counted else counted) ∧
      ((s.tc t).st = .draining → (u.tc t).gov = (s.tc t).gov)) ∧
  (∀ (s : State) (t : Tr) (r : ReadJob) (raw : RawFrame) (q : Nat) (counted : Gov), (s.tc t).st = .reading →
    (s.tc t).job = some (.read r) → r.ended = none →
    ((s.tc t).blockQ = [] ∨ ∃ i b rest, (s.tc t).blockQ = .readBlock i b [] :: rest) →
    q =
      (match classify r.x raw with
        | .accepted _ mark => if mark ∧ (s.tc t).blockQ = [] then 0 else (s.tc t).blockQ.length + 1
        | _ => (s.tc t).blockQ.length) →
    counted = (s.tc t).gov.countFrame false q →
    ∃ u, Runs (.readingFrameRead t raw) s u ∧
      (u.tc t).gov = if (u.tc t).st = .reading then counted else armedMoved counted) ∧
  ∀ (s : State) (t : Tr), ((s.tc t).st = .writing ∨ (s.tc t).st = .reading ∨ (s.tc t).st = .draining) →
    (∃ u, Runs (.mechanismFault t) s u ∧ (u.tc t).st = .faulted ∧ (u.tc t).gov = armedMoved (s.tc t).gov) ∧
    (∀ (r : ReadJob) (tag : Byte) (bay : BaySense), Takes s → (s.tc t).job = some (.read r) → r.short = none →
      (s.tc t).locate = none →
      ∃ u, Runs (.abort t tag .immediate bay) s u ∧ (u.tc t).st = .ready ∧ (u.tc t).gov = armedMoved (s.tc t).gov) ∧
    ∀ (w : WriteJob) (f : WFrame) (raw : RawFrame), (s.tc t).job = some (.write w) → (s.tc t).inflight = [f] →
      f.entry = none → f.hdr.kind = 5 → judge f.hdr raw = true →
      ∃ u, Runs (.readBackResult t f.hdr.frame raw) s u ∧ (u.tc t).st = .ready ∧
        (u.tc t).gov = armedMoved (s.tc t).gov

/-- WATCH replaces the watch point and is answered DONE; address 0xFFFFFFFF is refused RANGE. A confirmed or accepted
frame that the watch point names queues a WATCH_REACHED; an address names one frame, and the point is then off; MARKS
stays. The frames tested are the DATA and MARK frames that a GOOD read-back confirms, those that a reading accepts, and
the one that ends a reading locate; the marks that a locate passes while it counts are not. -/
def Obligations.WatchPointIsSetAndFires : Prop :=
  (∀ (s : State) (t : Tr) (tag : Byte) (w : WatchPoint), Takes s →
    (w ≠ .address 0xFFFFFFFF#32 →
      Runs (.watch t tag w) s
        ((replied s (.transport t) tag 0x2D (.done [])).setTc t { s.tc t with watch := w })) ∧
    Runs (.watch t tag (.address 0xFFFFFFFF#32)) s (replied s (.transport t) tag 0x2D (.refused .range))) ∧
  (∀ (s : State) (t : Tr) (kind : JobKind) (mark : Bool) (addr file frame : Nat),
    ((s.tc t).watch = .off → s.watchTest t kind mark addr file frame = s) ∧
    ((s.tc t).watch = .marks →
      s.watchTest t kind true addr file frame =
        { s with lnk := queued s.lnk [.watchReached t kind addr true file frame] } ∧
      s.watchTest t kind false addr file frame = s) ∧
    ∀ a : Word, (s.tc t).watch = .address a →
      (addr = a.toNat →
        s.watchTest t kind mark addr file frame =
          State.setTc { s with lnk := queued s.lnk [.watchReached t kind addr mark file frame] } t
            { s.tc t with watch := .off }) ∧
      (addr ≠ a.toNat → s.watchTest t kind mark addr file frame = s)) ∧
  (∀ (s : State) (t : Tr) (w : WriteJob) (f : WFrame) (e : WEntry) (rest : List WFrame) (raw : RawFrame),
    (s.tc t).job = some (.write w) → (s.tc t).inflight = f :: rest → f.entry = some e → judge f.hdr raw = true →
    ∃ u, Runs (.readBackResult t f.hdr.frame raw) s u ∧
      WatchTested t .write e.addr e.block.isNone e.file f.hdr.frame s u) ∧
  (∀ (s : State) (t : Tr) (r : ReadJob) (raw : RawFrame), (s.tc t).st = .reading → (s.tc t).job = some (.read r) →
    ∃ u, Runs (.readingFrameRead t raw) s u ∧
      (∀ f mark, classify r.x raw = .accepted f mark →
        WatchTested t (Job.kind (.read r)) f.hdr.addr mark f.hdr.file f.hdr.frame s u) ∧
      ((∀ f mark, classify r.x raw ≠ .accepted f mark) →
        (u.tc t).watch = (s.tc t).watch ∧ watches u.lnk = watches s.lnk)) ∧
  ∀ (s : State) (t : Tr) (l : Locate) (r : ReadJob) (raw : RawFrame) (f : ReadFrame) (mark : Bool),
    (s.tc t).locate = some l → (s.tc t).job = some (.read r) →
    ((∃ n, l.phase = .forward n ∧ l.writing = false ∧ l.goal = .address ∧ classify l.a raw = .accepted f mark) →
      ∃ u, Runs (.locateFrameRead t raw) s u ∧
        WatchTested t (Job.kind (.read r)) f.hdr.addr mark f.hdr.file f.hdr.frame s u) ∧
    (l.phase = .counting true → classify l.x raw = .accepted f mark →
      ∃ u, Runs (.locateFrameRead t raw) s u ∧
        WatchTested t (Job.kind (.read r)) f.hdr.addr mark f.hdr.file f.hdr.frame s u) ∧
    (l.phase = .counting false → classify l.x raw = .accepted f mark →
      ∃ u, Runs (.locateFrameRead t raw) s u ∧ (u.tc t).watch = (s.tc t).watch ∧ watches u.lnk = watches s.lnk)

/-! ## Encodings -/

/-- Every request, with every operand its payload can hold, is decoded from its encoding on its channel. -/
def Obligations.RequestsDecodeFromTheirEncodings : Prop :=
  ∀ (ch : Chan) (r : Request), r.wf = true → r.onChan ch = true → decodeRequest ch (encodeRequest r) = .ok r

/-- The bytes of a whole inbound frame, met at a frame boundary or while hunting, put that frame at the tail of the
inbound buffer; a full buffer discards it and counts a link error. -/
def Obligations.ReceiverTakesWholeFrames : Prop :=
  ∀ (s : State) (f : InFrame), f.payload.length ≤ 4096 → (f.dataIn = true → ∃ t, f.chan = .transport t) →
    (s.lnk.rx = .boundary ∨ s.lnk.rx = .hunting) →
    (s.lnk.inbound.length < 2 →
      Runs (.inboundFrameReceived (encodeInFrame f)) s
        { s with lnk :=
          { s.lnk with rx := .boundary, inbound := s.lnk.inbound ++ [f],
                       inboundHold := s.lnk.inboundHold || decide (s.lnk.inbound.length = 1) } }) ∧
    (2 ≤ s.lnk.inbound.length →
      Runs (.inboundFrameReceived (encodeInFrame f)) s
        { s with lnk := { s.lnk with rx := .boundary, errors := min 4294967295 (s.lnk.errors + 1) } })

/-- A record whose navigation passes the note's checks is read back from the image composed for it: VALID, with its
label as a note label, its class, load count, KNOWN end of data, map and totals. -/
def Obligations.NoteImagesReadBackAsTheRecord : Prop :=
  ∀ (r : CartRecord) (c : CartClass), r.cls = some c → (∀ l, r.label = some l → isLabel l.chars = true) →
    r.loadCount ≤ 65535 → r.rawTotal ≤ Config.max64 → r.codedTotal ≤ Config.max64 →
    r.map.length ≤ 64 → risingMap r.map = true → (∀ e ∈ r.map, e.addr ≤ Config.max32 ∧ e.frame ≤ Config.max32) →
    (∀ a f n, r.eod = .known a f n → a < Config.max32 ∧ 0 < f ∧ f < Config.capacity c ∧ n ≤ Config.max32 ∧
      r.map.length ≤ n ∧ ∀ e ∈ r.map, e.addr < a) →
    (composeNote r).length = 2048 ∧
      rebuild (some (composeNote r)) =
        { noteState := .valid
          label := r.label.map fun l => { chars := l.chars, source := .note }
          cls := some c
          loadCount := r.loadCount
          eod := (match r.eod with | .known a f n => .known a f n | _ => .unknown)
          map := r.map
          rawTotal := r.rawTotal
          codedTotal := r.codedTotal }

/-- A frame written with a header whose fields fit their bytes is read back with that header and a good payload check,
and is judged GOOD; with any other header bytes, or with nothing readable, it is judged BAD. -/
def Obligations.WrittenFramesReadBack : Prop :=
  ∀ (kind : FrameKind) (pass frame addr file rawLen slices : Nat) (payload rest : List Byte),
    pass < 256 → frame < 2 ^ 32 → addr < 2 ^ 32 → file < 2 ^ 32 → rawLen < 2 ^ 32 → slices < 256 →
    payload.length ≤ 32768 →
    ∀ h, h = mkHeader kind pass frame addr file rawLen slices payload →
      h.bytes.length = 27 ∧
      readFrame (.bytes h.bytes (payload ++ rest)) = some { hdr := h, payload := payload, payGood := true } ∧
      judge h (.bytes h.bytes (payload ++ rest)) = true ∧
      judge h .unreadable = false ∧ ∀ hb p, hb ≠ h.bytes → judge h (.bytes hb p) = false

/-- A slice of any bytes, compressed at block position p with the history that goes with it and whatever the hash table
holds, decodes to those bytes. -/
def Obligations.CompressedSlicesDecodeBack : Prop :=
  ∀ (table : List (Nat × Nat)) (history slice rest : List Byte) (p j : Nat),
    1 ≤ slice.length → slice.length ≤ 8192 → history.length = min p 4096 →
    decodeSlice j p history (codeSlice (tokenize table history slice p).out slice ++ rest) =
      { bytes := slice
        size := (codeSlice (tokenize table history slice p).out slice).length
        result := .good }

/-! ## The link's events -/

/-- The command that a request is when it arrives in a frame on a channel. -/
def Sys2Proof.Claims.commandOf (ch : Chan) (tag : Byte) (bay : BaySense) (r : Request) : Instr :=
  match ch, r with
  | .engine, .status c => .status tag c
  | .engine, .media l => .media tag l
  | .engine, .resetEngine => .resetEngine tag
  | .changer, .move a b auto o => .move tag a b auto o
  | .changer, .scan f l => .scan tag f l
  | .changer, .cancel => .cancel tag
  | .changer, .changerReset => .changerReset tag
  | .transport t, .load => .load t tag
  | .transport t, .unload => .unload t tag
  | .transport t, .rewind => .rewind t tag
  | .transport t, .label cs => .label t tag cs
  | .transport t, .write m l => .write t tag m l
  | .transport t, .verify a n m p => .verify t tag a n m p
  | .transport t, .restore st o e => .restore t tag st o e
  | .transport t, .abort m => .abort t tag m bay
  | .transport t, .mark => .mark t tag
  | .transport t, .close => .close t tag
  | .transport t, .setGovernor g => .setGovernor t tag g
  | .transport t, .apply => .apply t tag
  | .transport t, .getGovernor => .getGovernor t tag
  | .transport t, .watch w => .watch t tag w
  | .transport t, .transportReset => .transportReset t tag bay
  | _, _ => .ident tag

/-- The length of a request's payload by its code; none for a code that the table does not list (R173). -/
def Sys2Proof.Claims.payloadLength (code : Nat) : Option Nat :=
  if code ∈ [0x01, 0x04, 0x12, 0x13, 0x20, 0x21, 0x22, 0x28, 0x29, 0x2B, 0x2C, 0x2E] then some 1
  else if code ∈ [0x02, 0x03, 0x27] then some 2
  else if code = 0x11 then some 3
  else if code ∈ [0x10, 0x2D] then some 6
  else if code = 0x24 then some 7
  else if code = 0x25 then some 12
  else if code = 0x23 then some 13
  else if code ∈ [0x26, 0x2A] then some 15
  else none

/-- Whether a request code belongs to a channel: those of the engine, of the changer, of a transport (R173). -/
def Sys2Proof.Claims.onItsChannel (ch : Chan) (code : Nat) : Prop :=
  match ch with
  | .engine => 0x01 ≤ code ∧ code ≤ 0x04
  | .changer => 0x10 ≤ code ∧ code ≤ 0x13
  | .transport _ => 0x20 ≤ code ∧ code ≤ 0x2E

/-- A byte of a payload, as a number. -/
def Sys2Proof.Claims.byteAt (p : List Byte) (k : Nat) : Nat := (p.getD k 0).toNat

/-- Whether the clear byte, the autoload byte and the mode bytes of a payload hold values that the table lists, each at
its place in the payload (R173). -/
def Sys2Proof.Claims.listed (p : List Byte) : Prop :=
  (byteAt p 0 = 0x02 → byteAt p 1 ≤ 1) ∧ (byteAt p 0 = 0x10 → byteAt p 3 ≤ 1) ∧
    (byteAt p 0 = 0x24 → 1 ≤ byteAt p 1 ∧ byteAt p 1 ≤ 2) ∧
    (byteAt p 0 = 0x25 →
      (1 ≤ byteAt p 5 ∧ byteAt p 5 ≤ 2) ∧ (1 ≤ byteAt p 10 ∧ byteAt p 10 ≤ 2) ∧ 1 ≤ byteAt p 11 ∧ byteAt p 11 ≤ 2) ∧
    (byteAt p 0 = 0x26 → (1 ≤ byteAt p 1 ∧ byteAt p 1 ≤ 2) ∧ 1 ≤ byteAt p 10 ∧ byteAt p 10 ≤ 3) ∧
    (byteAt p 0 = 0x27 → 1 ≤ byteAt p 1 ∧ byteAt p 1 ≤ 3) ∧ (byteAt p 0 = 0x2D → byteAt p 1 ≤ 2)

/-- A payload with its numbers that are not examined set to zero: f of an APPEND, n of a range TO_EOD and of an end that
is no COUNT, the address of a watch point that is no ADDRESS (R173). -/
def Sys2Proof.Claims.examined (p : List Byte) : List Byte :=
  let from_ : Option Nat :=
    if byteAt p 0 = 0x24 ∧ byteAt p 1 = 1 then some 2
    else if byteAt p 0 = 0x25 ∧ byteAt p 5 = 2 then some 6
    else if byteAt p 0 = 0x26 ∧ byteAt p 10 ≠ 1 then some 11
    else if byteAt p 0 = 0x2D ∧ byteAt p 1 ≠ 1 then some 2
    else none
  match from_ with
  | some n => p.mapIdx fun k b => if n ≤ k ∧ k < n + 4 then 0 else b
  | none => p

/-- The state whose inbound buffer has given up its oldest frame (R169). -/
def Sys2Proof.Claims.frameTaken (s : State) (rest : List InFrame) : State :=
  { s with lnk := { s.lnk with inbound := rest, inboundHold := decide (2 ≤ rest.length) } }

/-- Handling the oldest frame takes it from the buffer, and then does what its content asks: the request that its
payload encodes, with the frame's tag and channel, whatever a number holds that is not examined; the DATA_IN of its
transport. An empty payload, and a code that is none of its channel's, is refused UNKNOWN; a payload of another length
than its code's, or with a clear, autoload or mode byte of a value not listed, FORMAT; every other encodes a request.
At a full reply queue every request is discarded and one link error counted, without a reply or any other effect. -/
def Obligations.HandlingRunsTheFrameTaken : Prop :=
  (∀ (s : State) (ch : Chan) (tag : Byte) (bay : BaySense) (r : Request), s.lnk.resetting = false →
    16 ≤ s.lnk.replies.length → r.onChan ch = true →
    Runs (commandOf ch tag bay r) s { s with lnk := { s.lnk with errors := min 4294967295 (s.lnk.errors + 1) } }) ∧
  (∀ (s : State) (f : InFrame) (rest : List InFrame) (bay : BaySense), s.lnk.resetting = false →
    s.lnk.inbound = f :: rest → 16 ≤ s.lnk.replies.length → f.dataIn = false →
    Runs (.handlingCompletion bay) s
      { frameTaken s rest with
        lnk := { (frameTaken s rest).lnk with errors := min 4294967295 (s.lnk.errors + 1) } }) ∧
  ∀ (s : State) (f : InFrame) (rest : List InFrame) (bay : BaySense), s.lnk.resetting = false →
    s.lnk.inbound = f :: rest →
    (∀ r, f.dataIn = false → r.wf = true → r.onChan f.chan = true → examined f.payload = encodeRequest r →
      ∃ s', exec (.handlingCompletion bay) s = .next s' ∧
        exec (commandOf f.chan f.tag bay r) (frameTaken s rest) = .next s') ∧
    (∀ code : Byte, f.dataIn = false → code = f.payload.headD 0 → s.lnk.replies.length < 16 →
      ((f.payload = [] ∨ ¬onItsChannel f.chan code.toNat) →
        Runs (.handlingCompletion bay) s (replied (frameTaken s rest) f.chan f.tag code (.refused .unknown))) ∧
      (f.payload ≠ [] → onItsChannel f.chan code.toNat →
        (payloadLength code.toNat ≠ some f.payload.length ∨ ¬listed f.payload) →
        Runs (.handlingCompletion bay) s (replied (frameTaken s rest) f.chan f.tag code (.refused .format))) ∧
      (onItsChannel f.chan code.toNat → payloadLength code.toNat = some f.payload.length → listed f.payload →
        ∃ r, r.wf = true ∧ r.onChan f.chan = true ∧ examined f.payload = encodeRequest r)) ∧
    ∀ t, f.dataIn = true → f.chan = .transport t →
      ∃ s', exec (.handlingCompletion bay) s = .next s' ∧
        exec (.dataIn t f.payload) (frameTaken s rest) = .next s'

/-- The lines of the link: the host's hold line is followed, the end of an outbound frame frees the lane, noise
without a sync byte is passed over while hunting, and at a frame boundary a byte other than the sync byte is one link
error. A frame whose length field is above 4096 is one link error at that field, and a whole frame with a bad check, a
kind that is no inbound one, a channel above 3 or a DATA_IN on channel 0 or 1 is one at its end; both leave the
receiver hunting. -/
def Obligations.LinkLinesAreFollowed : Prop :=
  ∀ s : State,
    Runs .hostHoldAsserted s { s with lnk := { s.lnk with hostHold := true } } ∧
    Runs .hostHoldReleased s { s with lnk := { s.lnk with hostHold := false } } ∧
    (∀ sens, s.lnk.resetting = false →
      Runs (.outboundFrameEnd sens) s { s with lnk := { s.lnk with lane := none } }) ∧
    (∀ bs : List Byte, (∀ b ∈ bs, b ≠ 0xC5) →
      (s.lnk.rx = .hunting → Runs (.huntingForSync bs) s s) ∧
      ∀ b : Byte, b ≠ 0xC5 → s.lnk.rx = .boundary →
        Runs (.huntingForSync (b :: bs)) s
          { s with lnk := { s.lnk with rx := .hunting, errors := min 4294967295 (s.lnk.errors + 1) } }) ∧
    ((s.lnk.rx = .boundary ∨ s.lnk.rx = .hunting) →
      (∀ kind chan tag flags hi lo : Byte, 4096 < 256 * hi.toNat + lo.toNat →
        Runs (.inboundFrameReceived [0xC5, kind, chan, tag, flags, hi, lo]) s
          { s with lnk := { s.lnk with rx := .hunting, errors := min 4294967295 (s.lnk.errors + 1) } }) ∧
      ∀ (kind chan tag flags : Byte) (payload body : List Byte) (check : Nat), payload.length ≤ 4096 → check < 65536 →
        body = [kind, chan, tag, flags] ++ beBytes 2 payload.length ++ payload →
        (check ≠ (crc16 body).toNat ∨ (kind ≠ 1 ∧ kind ≠ 4) ∨ 3 < chan.toNat ∨ (kind = 4 ∧ chan.toNat < 2)) →
        Runs (.inboundFrameReceived (0xC5 :: body ++ beBytes 2 check)) s
          { s with lnk := { s.lnk with rx := .hunting, errors := min 4294967295 (s.lnk.errors + 1) } })

/-- DATA_IN: an empty one is ignored; one without a credit is discarded and counted; one for a job that is ending uses
its credit and is discarded, counted as raw bytes discarded, or as surplus of a comparison; one for a write job uses
its credit and joins the intake queue, or goes at once into an empty slice buffer, and then earns the credit back; a
transport in WAITING stays there, since the block queue is as it was. One for a comparison waits in the intake while
no decoded byte is there. Its bytes are paired one with one with the checked bytes of a block: equal ones are
compared, the first that differs is recorded COMPARE_MISMATCH with its position, and the rest of the block is consumed
uncompared. A gap takes as many bytes uncompared, and behind an unaligned marker all are. -/
def Obligations.DataInUsesACredit : Prop :=
  ∀ (s : State) (t : Tr) (bytes : List Byte), s.lnk.resetting = false →
    (bytes = [] → Runs (.dataIn t bytes) s s) ∧
    (bytes ≠ [] → (s.tc t).granted = 0 →
      Runs (.dataIn t bytes) s
        { s with lnk :=
          match t with
          | .tc0 => { s.lnk with unsol0 := min 4294967295 (s.lnk.unsol0 + 1) }
          | .tc1 => { s.lnk with unsol1 := min 4294967295 (s.lnk.unsol1 + 1) } }) ∧
    ∀ g, bytes ≠ [] → (s.tc t).granted = g + 1 →
      (∀ w : WriteJob, (s.tc t).job = some (.write w) → (w.closing = true ∨ w.abort ≠ .none ∨ w.verdict ≠ none) →
        Runs (.dataIn t bytes) s
          (s.setTc t { s.tc t with
            granted := g, job := some (.write { w with rawDiscarded := w.rawDiscarded + bytes.length }) })) ∧
      (∀ r : ReadJob, (s.tc t).job = some (.read r) → (r.closing = true ∨ r.atMark = true) →
        Runs (.dataIn t bytes) s
          (s.setTc t { s.tc t with
            granted := g, job := some (.read { r with surplus := r.surplus + bytes.length }) })) ∧
      (∀ (w : WriteJob), (s.tc t).job = some (.write w) → w.closing = false → w.abort = .none → w.verdict = none →
        ((s.tc t).st = .waiting → ¬Resumes (s.tc t) (s.tc t).blockQ) → (s.cx t).closed = none → (s.cx t).held = none →
        ((s.cx t).complete = true →
          Runs (.dataIn t bytes) s
            (s.setTc t { s.tc t with granted := g, intake := (s.tc t).intake ++ [.chunk bytes bytes.length] })) ∧
        ((s.cx t).complete = false → (s.cx t).slice = [] → (s.cx t).cur = { payload := [], raw := 0, slices := 0 } →
          (s.tc t).intake = [] → (s.tc t).blockQ.length < 32 → bytes.length < 8192 →
          ∃ u w', Runs (.dataIn t bytes) s u ∧ (u.cx t).slice = bytes ∧ (u.cx t).complete = false ∧
            (u.tc t).intake = [] ∧ (u.tc t).st = (s.tc t).st ∧ (u.tc t).blockQ = (s.tc t).blockQ ∧
            (u.tc t).job = some (.write w') ∧ w'.rawAccepted = w.rawAccepted + bytes.length ∧
            (u.tc t).granted + (u.tc t).pendingCredits = (s.tc t).granted + (s.tc t).pendingCredits ∧
            OtherKept t s u ∧ u.mtb = s.mtb ∧ u.chg = s.chg)) ∧
      ∀ (r : ReadJob) (a : Nat) (range : VerifyRange) (policy : FaultPolicy), (s.tc t).job = some (.read r) →
        r.spec = .verify a range .compare policy → r.closing = false → r.atMark = false → r.short = none →
        r.ended = none → (s.tc t).st = .reading → (s.tc t).blockQ = [] → (s.tc t).intake = [] →
        ((s.tc t).delivery = [] → r.unaligned = false →
          Runs (.dataIn t bytes) s
            (s.setTc t { s.tc t with granted := g, intake := [.chunk bytes bytes.length] })) ∧
        ∀ told : ReadJob,
          ((r.unaligned = false ∧
              (∃ ds k m, (s.tc t).delivery = [.chunk ds k m] ∧ ds.map (·.byte) = bytes ∧
                ∀ d ∈ ds, d.checked = true ∧ r.mismatchAt ≠ some d.addr) ∧
              told = { r with compared := r.compared + bytes.length }) ∨
            (r.unaligned = false ∧ r.faults.length < 32 ∧
              (∃ ds d rest k m host left, (s.tc t).delivery = [.chunk (ds ++ d :: rest) k m] ∧
                bytes = ds.map (·.byte) ++ host :: left ∧ host ≠ d.byte ∧ left.length = rest.length ∧
                (∀ b ∈ ds ++ d :: rest, b.checked = true ∧ b.addr = d.addr) ∧ r.mismatchAt ≠ some d.addr ∧
                told =
                  { r with
                    compared := r.compared + ds.length, uncompared := r.uncompared + rest.length,
                    faultCount := r.faultCount + 1, mismatchAt := some d.addr,
                    faults := r.faults ++ [{ addr := d.addr, kind := .compareMismatch, offset := d.pos }] })) ∨
            (r.unaligned = false ∧ (∃ x p, (s.tc t).delivery = [.gap (.bytes x p bytes.length)]) ∧
              told = { r with uncompared := r.uncompared + bytes.length }) ∨
            (r.unaligned = false ∧ (s.tc t).delivery = [.gap .unaligned] ∧
              told = { r with unaligned := true, uncompared := r.uncompared + bytes.length }) ∨
            (r.unaligned = true ∧ (s.tc t).delivery = [] ∧
              told = { r with uncompared := r.uncompared + bytes.length })) →
          ∃ u, Runs (.dataIn t bytes) s u ∧ (u.tc t).job = some (.read told) ∧ (u.tc t).delivery = [] ∧
            (u.tc t).intake = [] ∧ (u.tc t).st = .reading ∧
            (u.tc t).granted + (u.tc t).pendingCredits = (s.tc t).granted + (s.tc t).pendingCredits ∧
            OtherKept t s u ∧ u.mtb = s.mtb ∧ u.chg = s.chg

/-! ## The streaming jobs: requests -/

/-- The address bound that a reading takes from a record (R84). -/
def Sys2Proof.Claims.knownEnd (r : CartRecord) : Option Nat :=
  match r.eod with
  | .known a _ _ => some a
  | _ => none

/-- The state in which a streaming job has been accepted and its locate has begun. -/
def Sys2Proof.Claims.locating (s : State) (t : Tr) (tag code : Byte) (j : Job) (d : Dir) (l : Locate) : State :=
  let u := jobStarted (replied s (.transport t) tag code .accepted) t j .locating d
  u.setTc t { u.tc t with locate := some l }

/-- The locate of an address with an estimate, as it begins: the fast move to 8 frames before the estimate (R61). -/
def Sys2Proof.Claims.toAddress (r : CartRecord) (writing : Bool) (goal : LocGoal) (a e : Nat) : Locate :=
  { writing := writing, goal := goal, a := a, e := e, bound := knownEnd r, x := a, phase := .fast (max 1 (e - 8)) }

/-- The locate that counts marks or seeks the end of data, as it begins: that of the last map entry, or the fast move to
frame 1 (R64, R66). -/
def Sys2Proof.Claims.toLastEntry (r : CartRecord) (writing : Bool) (goal : LocGoal) : Locate :=
  match r.map.getLast? with
  | some m => toAddress r writing goal m.addr m.frame
  | none => { writing := writing, goal := goal, a := 0, e := 1, bound := knownEnd r, x := 0, phase := .fastFirst }

/-- The locate of a file, as it begins: that of address 0, of the address after the mark before the file, or of the last
map entry to count marks from (R64). -/
def Sys2Proof.Claims.toFile (r : CartRecord) (writing : Bool) (f : Nat) : Locate :=
  match (if f = 0 then some 0 else (r.map[f - 1]?).map (·.addr + 1)) with
  | some a => toAddress r writing .address a (estimateFor r.map a)
  | none => toLastEntry r writing (.marks f)

/-- WRITE, VERIFY and RESTORE taken in READY are answered ACCEPTED and begin with their locate: by address, a fast
move to the estimate less 8; by file, to the address after the mark before it where the map holds that, else to the
last map entry, from which marks are counted; APPEND without a KNOWN end of data, to the last map entry, from which
the end of data is sought; without a map, both begin with a fast move to frame 1. The estimate is that of the map
entry with the greatest address not above the one sought, or of the label frame. An estimate beyond the tape ends the
job BEYOND_EOD at once. -/
def Obligations.StreamingJobsBeginWithTheirLocate : Prop :=
  (∀ (m : List MapEntry) (a : Nat),
    ((∀ e ∈ m, a < e.addr) → estimateFor m a = a + 1) ∧
    ∀ b ∈ m, b.addr ≤ a → (∀ e ∈ m, e.addr ≤ a → e = b ∨ e.addr < b.addr) →
      estimateFor m a = b.frame + (a - b.addr)) ∧
  ∀ (s : State) (t : Tr) (tag : Byte) (r : CartRecord) (c : CartClass), Takes s → (s.tc t).st = .ready →
    s.mtb.get (.bay t) = some r → r.cls = some c →
    ∀ (req : Instr) (code : Byte) (j : Job) (d : Dir) (l : Locate),
      ((∃ limit : Byte, r.protect = some .clear ∧ code = 0x24 ∧ d = .write ∧
          ((req = .write t tag .append limit ∧ j = .write { mode := .append, limit := min 15 limit.toNat } ∧
            ((∃ a p n, r.eod = .known a p n ∧ l = toAddress r true .address a p) ∨
              ((∀ a p n, r.eod ≠ .known a p n) ∧ l = toLastEntry r true .endOfData))) ∨
          ∃ f : Word, f ≠ 0xFFFFFFFF#32 ∧ (∀ a p n, r.eod = .known a p n → f.toNat ≤ n) ∧
            req = .write t tag (.fromFile f) limit ∧
            j = .write { mode := .fromFile f, limit := min 15 limit.toNat } ∧ l = toFile r true f.toNat)) ∨
        (∃ (a : Word) (range : VerifyRange) (mode : VerifyMode) (policy : FaultPolicy), code = 0x25 ∧ d = .read ∧
          a ≠ 0xFFFFFFFF#32 ∧ range ≠ .count 0 ∧ (∀ x p n, r.eod = .known x p n → a.toNat < x) ∧
          req = .verify t tag a range mode policy ∧
          j = .read { spec := .verify a.toNat range mode policy, x := a.toNat, bound := knownEnd r } ∧
          l = toAddress r false .address a.toNat (estimateFor r.map a.toNat)) ∨
        ∃ (offset : Word) (stop : RestoreEnd), code = 0x26 ∧ d = .read ∧ stop ≠ .count 0 ∧
          ((∃ a : Word, a ≠ 0xFFFFFFFF#32 ∧ (∀ x p n, r.eod = .known x p n → a.toNat < x) ∧
              req = .restore t tag (.address a) offset stop ∧
              j = .read { spec := .restore offset.toNat stop, x := a.toNat, bound := knownEnd r } ∧
              l = toAddress r false .address a.toNat (estimateFor r.map a.toNat)) ∨
            ∃ f : Word, f ≠ 0xFFFFFFFF#32 ∧ (∀ x p n, r.eod = .known x p n → f.toNat ≤ n) ∧
              req = .restore t tag (.file f) offset stop ∧
              j = .read { spec := .restore offset.toNat stop, x := 0, bound := knownEnd r } ∧
              l = toFile r false f.toNat)) →
      (l.e < Config.capacity c → Runs req s (locating s t tag code j d l)) ∧
      (Config.capacity c ≤ l.e → ∃ u, Runs req s u ∧ (u.tc t).st = .ready ∧ (u.tc t).pos = (s.tc t).pos ∧
        JobEnded t j.kind .beyondEod
          (reportOf u (some { r with binding := some t }) s.free
            (locateFailed (s.tc t).intake j l.a (s.tc t).pos .beyondEod) .beyondEod) s u ∧
        u.lnk.replies = s.lnk.replies ++ [{ chan := .transport t, tag := tag, code := code, body := .accepted }])

/-- What the requests that start a job are refused with: STATE in a state that does not take them; LOAD BUSY under a
take-hold; LABEL RANGE for a label that is no label, PROTECTED unless the tab is CLEAR, DUPLICATE for a label another
record holds; WRITE RANGE for file 0xFFFFFFFF, then PROTECTED unless the tab is CLEAR, then BEYOND_EOD for a file
above the KNOWN file count; VERIFY and RESTORE RANGE for 0xFFFFFFFF as address or file, or a count of 0, and then
BEYOND_EOD for an address not below the KNOWN end of data, or a file above its file count. Nothing else changes. -/
def Obligations.JobRequestsAreRefused : Prop :=
  (∀ (s : State) (t : Tr) (tag : Byte) (chars : List Byte), Takes s →
    ((s.tc t).st ≠ .seated → Runs (.load t tag) s (replied s (.transport t) tag 0x20 (.refused .state))) ∧
    ((s.tc t).st = .seated → s.chg.takeHold = some t →
      Runs (.load t tag) s (replied s (.transport t) tag 0x20 (.refused .busy))) ∧
    ((s.tc t).st ≠ .ready → (s.tc t).st ≠ .adrift → (s.tc t).st ≠ .faulted →
      Runs (.unload t tag) s (replied s (.transport t) tag 0x21 (.refused .state))) ∧
    ((s.tc t).st ≠ .ready → (s.tc t).st ≠ .adrift →
      Runs (.rewind t tag) s (replied s (.transport t) tag 0x22 (.refused .state))) ∧
    ((s.tc t).st ≠ .ready → Runs (.label t tag chars) s (replied s (.transport t) tag 0x23 (.refused .state))) ∧
    ((s.tc t).st = .ready → isLabel chars = false →
      Runs (.label t tag chars) s (replied s (.transport t) tag 0x23 (.refused .range))) ∧
    ((s.tc t).st = .ready → isLabel chars = true → (∀ r, s.mtb.get (.bay t) = some r → r.protect ≠ some .clear) →
      Runs (.label t tag chars) s (replied s (.transport t) tag 0x23 (.refused .writeProtected))) ∧
    ∀ r l q lb, (s.tc t).st = .ready → isLabel chars = true → s.mtb.get (.bay t) = some r →
      r.protect = some .clear → l ≠ .bay t → s.mtb.get l = some q → q.label = some lb → lb.chars = chars →
      Runs (.label t tag chars) s (replied s (.transport t) tag 0x23 (.refused .duplicate))) ∧
  ∀ (s : State) (t : Tr) (tag limit : Byte) (m : StartMode) (a f offset : Word) (range : VerifyRange)
    (mode : VerifyMode) (policy : FaultPolicy) (start : RestoreStart) (stop : RestoreEnd), Takes s →
    ((s.tc t).st ≠ .ready →
      Runs (.write t tag m limit) s (replied s (.transport t) tag 0x24 (.refused .state)) ∧
      Runs (.verify t tag a range mode policy) s (replied s (.transport t) tag 0x25 (.refused .state)) ∧
      Runs (.restore t tag start offset stop) s (replied s (.transport t) tag 0x26 (.refused .state))) ∧
    ((s.tc t).st = .ready → m ≠ .fromFile 0xFFFFFFFF#32 →
      (∀ r, s.mtb.get (.bay t) = some r → r.protect ≠ some .clear) →
      Runs (.write t tag m limit) s (replied s (.transport t) tag 0x24 (.refused .writeProtected))) ∧
    ((s.tc t).st = .ready →
      Runs (.write t tag (.fromFile 0xFFFFFFFF#32) limit) s (replied s (.transport t) tag 0x24 (.refused .range)) ∧
      Runs (.verify t tag 0xFFFFFFFF#32 range mode policy) s (replied s (.transport t) tag 0x25 (.refused .range)) ∧
      Runs (.verify t tag a (.count 0) mode policy) s (replied s (.transport t) tag 0x25 (.refused .range)) ∧
      Runs (.restore t tag (.address 0xFFFFFFFF#32) offset stop) s
        (replied s (.transport t) tag 0x26 (.refused .range)) ∧
      Runs (.restore t tag (.file 0xFFFFFFFF#32) offset stop) s (replied s (.transport t) tag 0x26 (.refused .range)) ∧
      Runs (.restore t tag start offset (.count 0)) s (replied s (.transport t) tag 0x26 (.refused .range))) ∧
    ∀ r x p n, (s.tc t).st = .ready → s.mtb.get (.bay t) = some r → r.eod = .known x p n →
      (x ≤ a.toNat → a ≠ 0xFFFFFFFF#32 → range ≠ .count 0 →
        Runs (.verify t tag a range mode policy) s (replied s (.transport t) tag 0x25 (.refused .beyondEod))) ∧
      (x ≤ a.toNat → a ≠ 0xFFFFFFFF#32 → stop ≠ .count 0 →
        Runs (.restore t tag (.address a) offset stop) s (replied s (.transport t) tag 0x26 (.refused .beyondEod))) ∧
      (n < f.toNat → f ≠ 0xFFFFFFFF#32 → stop ≠ .count 0 →
        Runs (.restore t tag (.file f) offset stop) s (replied s (.transport t) tag 0x26 (.refused .beyondEod))) ∧
      (n < f.toNat → f ≠ 0xFFFFFFFF#32 → r.protect = some .clear →
        Runs (.write t tag (.fromFile f) limit) s (replied s (.transport t) tag 0x24 (.refused .beyondEod)))

/-- ABORT, answered DONE: in the first locate the job ends ABORTED in any mode it accepts, at the tachometer's frame
in a fast move and otherwise behind the last good header read since; a write job that has written nothing ends ABORTED
in WAITING. A streaming one discards its intake and its context's work, and with IMMEDIATE, also after a
FINISH_QUEUED, its block queue too, which FINISH_QUEUED keeps; the raw bytes discarded are counted, and the job is
marked to end; from WAITING it starts to stream, or to drain when nothing is left to write. In DRAINING, after a
decided ending, and a second time, an ABORT has no further effect. A read job ends ABORTED at once, with what it gives
up counted, also in a resync, whose fast move stops; or it is marked to end at the next mark, unless its reading has
ended. A mode of the other direction is refused RANGE, and without a streaming job ABORT is refused STATE. -/
def Obligations.AbortEndsOrMarksTheJob : Prop :=
  ∀ (s : State) (t : Tr) (tag : Byte) (mode : AbortMode) (bay : BaySense) (ok : Reply), Takes s →
    ok = { chan := .transport t, tag := tag, code := 0x27, body := .done [] } →
    (∀ (j : Job) (l : Locate), (s.tc t).job = some j → (s.tc t).locate = some l → (∀ x, l.phase ≠ .resync x) →
      ((j.kind = .write ∧ mode ≠ .atMark ∧ ∃ w, j = .write w) ∨ (mode ≠ .finishQueued ∧ ∃ r, j = .read r)) →
      ∃ u, Runs (.abort t tag mode bay) s u ∧ (u.tc t).st = .ready ∧
        ((∃ x, l.phase = .fast x ∨ l.phase = .fastFirst) → (u.tc t).pos = some bay.tach) ∧
        ((∀ x, l.phase ≠ .fast x) → l.phase ≠ .fastFirst →
          (u.tc t).pos = (match l.lastHeader with | some p => some (p + 1) | none => (s.tc t).pos)) ∧
        JobEnded t j.kind .aborted (reportOf u (s.mtb.get (.bay t)) s.free (givenUp s t j) .aborted) s u ∧
        u.lnk.replies = s.lnk.replies ++ [ok]) ∧
    (∀ w : WriteJob, (s.tc t).job = some (.write w) → (s.tc t).locate = none → mode ≠ .atMark →
      ((s.tc t).st = .draining ∨ w.verdict ≠ none ∨ w.abort = .immediate ∨
          (w.abort = .finishQueued ∧ mode = .finishQueued ∧ w.wrote = true) →
        Runs (.abort t tag mode bay) s (replied s (.transport t) tag 0x27 (.done []))) ∧
      (w.verdict = none → w.abort = .none →
        ((s.tc t).st = .waiting → w.wrote = false →
          ∃ u, Runs (.abort t tag mode bay) s u ∧ (u.tc t).st = .ready ∧ (u.tc t).pos = (s.tc t).pos ∧
            JobEnded t .write .aborted (reportOf u (s.mtb.get (.bay t)) s.free (givenUp s t (.write w)) .aborted) s u ∧
            u.lnk.replies = s.lnk.replies ++ [ok]) ∧
        (w.wrote = true → (s.tc t).st ≠ .draining →
          ∃ u w', Runs (.abort t tag mode bay) s u ∧ (u.tc t).job = some (.write w') ∧
            w'.abort = (if mode = .immediate then .immediate else .finishQueued) ∧ (u.tc t).intake = [] ∧
            (u.cx t).slice = [] ∧ (u.cx t).closed = none ∧ (u.cx t).held = none ∧
            (mode = .immediate → (u.tc t).blockQ = []) ∧ u.lnk.replies = s.lnk.replies ++ [ok])) ∧
      (∀ place raw, w.verdict = none → w.wrote = true → (s.tc t).st = .waiting →
        WriteStill (s.setTc t { s.tc t with intake := [] }) t w place →
        raw = w.rawDiscarded + (intakeRaw (s.tc t).intake + (s.cx t).raw) →
        (mode = .immediate → w.abort ≠ .immediate →
          ∃ u, Runs (.abort t tag mode bay) s u ∧
            WriteStreams s u t
              { w with abort := .immediate, rawDiscarded := raw + ((s.tc t).blockQ.map QEntry.raw).sum } [] place) ∧
        (mode = .finishQueued → w.abort = .none → WriteEntries (s.tc t).blockQ →
          ∃ u, Runs (.abort t tag mode bay) s u ∧
            WriteStreams s u t { w with abort := .finishQueued, rawDiscarded := raw } (s.tc t).blockQ place)) ∧
      ∀ discarded, w.verdict = none →
        ((s.tc t).st = .hitch ∨ ((s.tc t).st = .writing ∧ w.inProgress ≠ none)) →
        discarded = intakeRaw (s.tc t).intake + (s.cx t).raw →
        (mode = .immediate → w.abort ≠ .immediate →
          ∃ u, Runs (.abort t tag mode bay) s u ∧ (u.tc t).blockQ = [] ∧ (u.tc t).intake = [] ∧
            u.cx t = { dir := .write } ∧ (u.tc t).inflight = (s.tc t).inflight ∧ (u.tc t).rewrite = (s.tc t).rewrite ∧
            (u.tc t).st = (if (s.tc t).st = .writing then .draining else .hitch) ∧
            (u.tc t).job = some (.write { w with
              abort := .immediate
              rawDiscarded := w.rawDiscarded + (discarded + ((s.tc t).blockQ.map QEntry.raw).sum) }) ∧
            u.mtb = s.mtb ∧ u.lnk = withReply s.lnk (.transport t) tag 0x27 (.done [])) ∧
        (mode = .finishQueued → w.abort = .none →
          ∃ u, Runs (.abort t tag mode bay) s u ∧ (u.tc t).blockQ = (s.tc t).blockQ ∧ (u.tc t).intake = [] ∧
            u.cx t = { dir := .write } ∧ (u.tc t).inflight = (s.tc t).inflight ∧ (u.tc t).rewrite = (s.tc t).rewrite ∧
            (u.tc t).st = (s.tc t).st ∧
            (u.tc t).job = some (.write { w with
              abort := .finishQueued, rawDiscarded := w.rawDiscarded + discarded }) ∧
            u.mtb = s.mtb ∧ u.lnk = withReply s.lnk (.transport t) tag 0x27 (.done []))) ∧
    (∀ (r : ReadJob) (resync : Bool), (s.tc t).job = some (.read r) →
      ((resync = false ∧ (s.tc t).locate = none) ∨
        (resync = true ∧ ∃ l x, (s.tc t).locate = some l ∧ l.phase = .resync x)) →
      (r.short = none →
        (mode = .immediate →
          ∃ u, Runs (.abort t tag mode bay) s u ∧ (u.tc t).st = .ready ∧
            (u.tc t).pos = (if resync then some bay.tach else (s.tc t).pos) ∧
            JobEnded t (Job.kind (.read r)) .aborted
              (reportOf u (s.mtb.get (.bay t)) s.free (givenUp s t (.read { r with ended := some .aborted })) .aborted)
              s u ∧
            u.lnk.replies = s.lnk.replies ++ [ok]) ∧
        (mode = .atMark → r.ended = none →
          Runs (.abort t tag mode bay) s
            ((replied s (.transport t) tag 0x27 (.done [])).setTc t
              { s.tc t with job := some (.read { r with atMark := true }) }))) ∧
      (mode ≠ .finishQueued → (r.short ≠ none ∨ (mode = .atMark ∧ r.ended ≠ none)) →
        Runs (.abort t tag mode bay) s (replied s (.transport t) tag 0x27 (.done [])))) ∧
    (∀ w, (s.tc t).job = some (.write w) →
      Runs (.abort t tag .atMark bay) s (replied s (.transport t) tag 0x27 (.refused .range))) ∧
    (∀ r, (s.tc t).job = some (.read r) →
      Runs (.abort t tag .finishQueued bay) s (replied s (.transport t) tag 0x27 (.refused .range))) ∧
    ((∀ w, (s.tc t).job ≠ some (.write w)) → (∀ r, (s.tc t).job ≠ some (.read r)) →
      Runs (.abort t tag mode bay) s (replied s (.transport t) tag 0x27 (.refused .state)))

/-- MARK and CLOSE join the intake queue of a running write job that has not begun to end, behind the bytes before
them, or pass straight into the block queue behind the closed block of an idle context, and a job in WAITING then
starts to stream; a fifth is refused QUEUE_FULL; CLOSE begins the end of a write job, and of a COMPARE-mode verify's
host stream. Where a checked byte of a comparison waits for a host byte, the CLOSE ends the job COMPARE_SHORT at that
byte, or ABORTED after an ABORT AT_MARK. -/
def Obligations.MarkAndCloseJoinTheStream : Prop :=
  ∀ (s : State) (t : Tr) (tag : Byte), Takes s →
    (∀ (c : Instr) (code : Byte) (i : Item) (w : WriteJob),
      ((c = .mark t tag ∧ code = 0x28 ∧ i = .mark) ∨ (c = .close t tag ∧ code = 0x29 ∧ i = .close)) →
      (s.tc t).job = some (.write w) → w.closing = false → w.abort = .none → w.verdict = none →
      (4 ≤ itemCount (s.tc t).intake → Runs c s (replied s (.transport t) tag code (.refused .queueFull))) ∧
      (itemCount (s.tc t).intake < 4 → (s.cx t).closed = none → (s.cx t).held = none →
        ((s.cx t).complete = true → ((s.tc t).st = .waiting → ¬Resumes (s.tc t) (s.tc t).blockQ) →
          Runs c s
            ((replied s (.transport t) tag code .accepted).setTc t { s.tc t with
              intake := (s.tc t).intake ++ [.item i]
              job := some (.write { w with closing := decide (i = .close) }) })) ∧
        ∀ q, (s.cx t).complete = false → (s.cx t).slice = [] → (s.tc t).intake = [] →
          (s.tc t).blockQ.length + 1 < 32 →
          q = (s.tc t).blockQ ++ (if (s.cx t).cur.slices = 0 then [] else [.block (s.cx t).cur]) ++
            [if i = .mark then .mark else .close] →
          ∃ u, Runs c s u ∧ (u.tc t).intake = [] ∧ (u.cx t).cur = { payload := [], raw := 0, slices := 0 } ∧
            u.lnk.replies = s.lnk.replies ++ [{ chan := .transport t, tag := tag, code := code, body := .accepted }] ∧
            ((s.tc t).st ≠ .waiting →
              (u.tc t).st = (s.tc t).st ∧ (u.tc t).blockQ = q ∧
                (u.tc t).job = some (.write { w with closing := decide (i = .close) })) ∧
            ((s.tc t).st = .waiting → WriteEntries (s.tc t).blockQ →
              ∀ place, WriteStill s t w place →
                WriteStreams s u t { w with closing := decide (i = .close) } q place))) ∧
    (∀ r : ReadJob, (s.tc t).job = some (.read r) → r.isCompare = true → r.closing = false → r.ended = none →
      r.short = none → (s.tc t).st = .reading → (s.tc t).blockQ = [] → (s.tc t).intake = [] →
      ((s.tc t).delivery = [] →
        Runs (.close t tag) s
          ((replied s (.transport t) tag 0x29 .accepted).setTc t { s.tc t with
            intake := [.item .close], job := some (.read { r with closing := true }) })) ∧
      ∀ d bs k m rest, (s.tc t).delivery = .chunk (d :: bs) k m :: rest → d.checked = true → r.unaligned = false →
        ∃ u res, res = (if r.atMark then JobResult.aborted else .compareShort) ∧ Runs (.close t tag) s u ∧
          (u.tc t).st = .ready ∧ (u.tc t).pos = (s.tc t).pos ∧
          JobEnded t .verify res
            (reportOf u (s.mtb.get (.bay t)) s.free (.read { r with closing := true, short := some (d.addr, d.pos) }) res)
            s u ∧
          u.lnk.replies = s.lnk.replies ++ [{ chan := .transport t, tag := tag, code := 0x29, body := .accepted }]) ∧
    ((s.tc t).job = none →
      Runs (.mark t tag) s (replied s (.transport t) tag 0x28 (.refused .state)) ∧
      Runs (.close t tag) s (replied s (.transport t) tag 0x29 (.refused .state)))

/-! ## The streaming jobs: locating -/

/-- The state in which a write job has found its first frame place: the position there, the first address and file
number taken, 16 credits earned, WAITING (R106). -/
def Sys2Proof.Claims.WriteLocated (s u : State) (t : Tr) (w : WriteJob) (place addr file : Nat) (recovered : Bool) :
    Prop :=
  (u.tc t).st = .waiting ∧ (u.tc t).pos = some place ∧ (u.tc t).locate = none ∧
    (∃ w', (u.tc t).job = some (.write w') ∧ w'.start = some addr ∧ w'.nextAddr = addr ∧ w'.nextFile = file ∧
      w'.eodRecovered = recovered ∧ w'.mode = w.mode ∧ w'.wrote = w.wrote) ∧
    (u.tc t).granted + (u.tc t).pendingCredits = (s.tc t).granted + (s.tc t).pendingCredits + 16 ∧
    u.mtb = s.mtb ∧ u.chg = s.chg ∧ OtherKept t s u

/-- The state in which a reading has accepted its first frame: READING behind it at the active Lstart, the block in
the block queue or a restore's mark in the delivery queue, the mark learned, the applied offset taken, and for a
comparison 16 credits earned (R67, R135, R146, R148, R149, R153). -/
def Sys2Proof.Claims.ReadLocated (s u : State) (t : Tr) (r : ReadJob) (f : ReadFrame) (mark : Bool) : Prop :=
  (u.tc t).st = .reading ∧ (u.tc t).pos = some (f.hdr.frame + 1) ∧ (u.tc t).locate = none ∧
    (u.tc t).gov.l = ((s.tc t).gov.active.lstart : Int) ∧
    (∃ r', (u.tc t).job = some (.read r') ∧ r'.spec = r.spec ∧ r'.start = some f.hdr.addr ∧ r'.x = f.hdr.addr + 1 ∧
      r'.applied =
        (match r.spec with
          | .restore offset _ => min offset (if mark then 0 else f.hdr.rawLen)
          | .verify _ _ _ _ => 0) ∧
      r'.framesRead = 1 ∧ r'.accepted = r.accepted + 1 ∧ r'.searchStart = f.hdr.frame + 1 ∧ r'.skip = 0) ∧
    (u.tc t).blockQ = (if mark then [] else [.readBlock f.info f.block []]) ∧
    (u.tc t).delivery = (if mark ∧ r.isRestore = true then [.mark] else []) ∧
    u.mtb = (if mark then markLearned s.mtb t f.hdr.addr f.hdr.file f.hdr.frame else s.mtb) ∧
    (u.tc t).granted + (u.tc t).pendingCredits =
      (s.tc t).granted + (s.tc t).pendingCredits + (if r.isCompare then 16 else 0) ∧
    u.chg = s.chg ∧ OtherKept t s u

/-- A write job that waits for its locate: nothing queued, nothing decided (R105, R106). -/
def Sys2Proof.Claims.WriteWaits (s : State) (t : Tr) (w : WriteJob) : Prop :=
  (s.tc t).st = .locating ∧ (s.tc t).job = some (.write w) ∧ w.abort = .none ∧ w.verdict = none ∧
    (s.tc t).intake = [] ∧ (s.tc t).blockQ = [] ∧ s.cx t = { dir := .write } ∧ 1 ≤ (s.tc t).gov.active.restart

/-- A locate: the fast move's end begins the search for a good header, its timeout ends the job POSITION_FAULT with
the transport ADRIFT; 64 frames without a good header fail a try; a header above the estimate fails a try, the third
of them POSITION_FAULT; one not above it begins the forward search with its own frame. The forward search passes over
frames that are not its block, the 8192nd ending it LOCATE_FAULT, and ends BEYOND_EOD at an EOD frame not above the
address of a reading locate, or below that of a writing one; a writing locate ends on the frame it will overwrite; a
reading one at its block, good in header and payload, on which the reading starts. From a located mark, or frame 1,
marks are counted: each accepted frame moves the expected address on, the mark sought starts a write job behind it, or
is followed by a reading's first frame; the end of data, also at the end bound, ends the count BEYOND_EOD, and 64
skips READ_FAULT. The physical end ends the search LOCATE_FAULT, and READ_FAULT while marks are counted or the end of
data is sought. -/
def Obligations.LocateSearchesForItsBlock : Prop :=
  ∀ (s : State) (t : Tr) (l : Locate) (j : Job), (s.tc t).locate = some l → (s.tc t).job = some j →
    (∀ target tach, l.phase = .fast target →
      Runs (.fastMoveComplete t tach) s
        (s.setTc t { s.tc t with pos := some tach, locate := some { l with phase := .checking tach 0 } })) ∧
    (∀ sought, ((∃ x, l.phase = .fast x) ∧ sought = l.a) ∨ ((l.phase = .fastFirst ∨ ∃ x, l.phase = .resync x) ∧ sought = l.x) →
      ∃ u, Runs (.positionFault t) s u ∧ (u.tc t).st = .adrift ∧ (u.tc t).pos = none ∧
        LocateFails s u t j sought none .positionFault) ∧
    (∀ start n p raw, l.phase = .checking start n → (s.tc t).pos = some p → readFrame raw = none →
      (n + 1 < 64 →
        Runs (.locateFrameRead t raw) s
          (s.setTc t { s.tc t with pos := some (p + 1), locate := some { l with phase := .checking start (n + 1) } })) ∧
      (64 ≤ n + 1 → l.tries < 2 →
        Runs (.locateFrameRead t raw) s
          (s.setTc t { s.tc t with
            pos := some (p + 1)
            locate := some { l with tries := l.tries + 1, lastHeader := none, phase := .fast (max 1 (start - 16)) } })) ∧
      (64 ≤ n + 1 → 2 ≤ l.tries →
        ∃ u, Runs (.locateFrameRead t raw) s u ∧ (u.tc t).st = .adrift ∧ (u.tc t).pos = none ∧
          LocateFails s u t j l.a none .positionFault)) ∧
    (∀ start n raw f, l.phase = .checking start n → readFrame raw = some f →
      (f.hdr.frame ≤ l.e → ((∃ r, j = .read r) ∨ l.writing = true ∨ l.goal ≠ .address) →
        exec (.locateFrameRead t raw) s =
          exec (.locateFrameRead t raw) (s.setTc t { s.tc t with locate := some { l with phase := .forward 0 } })) ∧
      (l.e < f.hdr.frame → l.tries < 2 →
        Runs (.locateFrameRead t raw) s
          (s.setTc t { s.tc t with
            pos := some (f.hdr.frame + 1)
            locate := some { l with tries := l.tries + 1, lastHeader := none, phase := .fast (max 1 (l.e - 16)) } })) ∧
      (l.e < f.hdr.frame → 2 ≤ l.tries →
        ∃ u, Runs (.locateFrameRead t raw) s u ∧ (u.tc t).st = .adrift ∧ (u.tc t).pos = none ∧
          LocateFails s u t j l.a none .positionFault)) ∧
    (∀ n p raw next header, l.phase = .forward n → (s.tc t).pos = some p →
      ((readFrame raw = none ∧ next = p + 1 ∧ header = l.lastHeader) ∨
        ∃ f, readFrame raw = some f ∧ f.hdr.kind ≠ 5 ∧ next = f.hdr.frame + 1 ∧ header = some f.hdr.frame ∧
          (f.hdr.addr ≠ l.a ∨ (f.hdr.kind ≠ 2 ∧ f.hdr.kind ≠ 3) ∨ (l.writing = false ∧ f.payGood = false))) →
      (n + 1 < 8192 →
        Runs (.locateFrameRead t raw) s
          (s.setTc t { s.tc t with
            pos := some next, locate := some { l with lastHeader := header, phase := .forward (n + 1) } })) ∧
      (8192 ≤ n + 1 →
        ∃ u, Runs (.locateFrameRead t raw) s u ∧ (u.tc t).st = .ready ∧ (u.tc t).pos = some next ∧
          LocateFails s u t j l.a (some next) .locateFault)) ∧
    (∀ n raw f, l.phase = .forward n → readFrame raw = some f → f.hdr.kind = 5 →
      ((l.writing = false ∧ f.hdr.addr ≤ l.a) ∨ f.hdr.addr < l.a) →
      ∃ u, Runs (.locateFrameRead t raw) s u ∧ (u.tc t).st = .ready ∧ (u.tc t).pos = some (f.hdr.frame + 1) ∧
        LocateFails s u t j l.a (some (f.hdr.frame + 1)) .beyondEod) ∧
    (∀ n raw f w r c, l.phase = .forward n → l.writing = true → l.goal = .address → readFrame raw = some f →
      (f.hdr.kind = 2 ∨ f.hdr.kind = 3 ∨ f.hdr.kind = 5) → f.hdr.addr = l.a → j = .write w → WriteWaits s t w →
      s.mtb.get (.bay t) = some r → r.cls = some c → f.hdr.frame < Config.capacity c - 16 →
      ∀ k, ((∃ p, w.mode = .append ∧ r.eod = .known l.a p k) ∨ (∃ m, w.mode = .fromFile m ∧ k = m.toNat)) →
        ∃ u, Runs (.locateFrameRead t raw) s u ∧ WriteLocated s u t w f.hdr.frame l.a k false) ∧
    (∀ raw f mark r, l.writing = false → j = .read r →
      ((∃ n, l.phase = .forward n ∧ l.goal = .address ∧ classify l.a raw = .accepted f mark) ∨
        (l.phase = .counting true ∧ classify l.x raw = .accepted f mark)) →
      ((∃ offset, r.spec = .restore offset .toEod) ∨ ∃ a mode policy, r.spec = .verify a .toEod mode policy) →
      r.bound ≠ some (f.hdr.addr + 1) → r.ended = none → r.short = none → r.start = none → r.atMark = false →
      r.pendingGaps = [] → (s.tc t).blockQ = [] → (s.tc t).delivery = [] → (s.tc t).intake = [] → (s.tc t).watch = .off →
      ∃ u, Runs (.locateFrameRead t raw) s u ∧ ReadLocated s u t r f mark) ∧
    (∀ raw x f mark k, l.goal = .marks k →
      ((l.phase = .counting false ∧ x = l.x) ∨ (∃ n, l.phase = .forward n ∧ x = l.a)) →
      classify x raw = .accepted f mark →
      ((mark = false ∨ f.hdr.file + 1 ≠ k ∨ l.writing = false) → l.bound ≠ some (f.hdr.addr + 1) →
        Runs (.locateFrameRead t raw) s
          (State.setTc
            { s with mtb := if mark then markLearned s.mtb t f.hdr.addr f.hdr.file f.hdr.frame else s.mtb } t
            { s.tc t with
              pos := some (f.hdr.frame + 1)
              locate := some { l with
                x := f.hdr.addr + 1, skip := 0, lastHeader := some f.hdr.frame
                phase := .counting (mark && decide (f.hdr.file + 1 = k)) } })) ∧
      ((mark = false ∨ f.hdr.file + 1 ≠ k ∨ l.writing = false) → l.bound = some (f.hdr.addr + 1) →
        ∃ u, Runs (.locateFrameRead t raw) s u ∧ (u.tc t).st = .ready ∧ (u.tc t).pos = some (f.hdr.frame + 1) ∧
          LocateFails s u t j (f.hdr.addr + 1) (some (f.hdr.frame + 1)) .beyondEod) ∧
      (∀ w r c, mark = true → f.hdr.file + 1 = k → l.writing = true → j = .write w → WriteWaits s t w →
        s.mtb.get (.bay t) = some r → r.cls = some c → f.hdr.frame + 1 < Config.capacity c - 16 →
        ∃ u, Runs (.locateFrameRead t raw) s u ∧
          WriteLocated { s with mtb := markLearned s.mtb t f.hdr.addr f.hdr.file f.hdr.frame } u t w (f.hdr.frame + 1)
            (f.hdr.addr + 1) k false)) ∧
    (∀ found raw p, l.phase = .counting found → (s.tc t).pos = some p →
      (∀ f, classify l.x raw = .endOfData f →
        ∃ u, Runs (.locateFrameRead t raw) s u ∧ (u.tc t).st = .ready ∧ (u.tc t).pos = some (f.hdr.frame + 1) ∧
          LocateFails s u t j l.x (some (f.hdr.frame + 1)) .beyondEod) ∧
      (∀ f, readFrame raw = some f → (f.hdr.kind = 1 ∨ f.hdr.kind = 4) →
        Runs (.locateFrameRead t raw) s
          (s.setTc t { s.tc t with
            pos := some (f.hdr.frame + 1), locate := some { l with lastHeader := some f.hdr.frame } })) ∧
      (readFrame raw = none →
        (l.skip + 1 < 64 →
          Runs (.locateFrameRead t raw) s
            (s.setTc t { s.tc t with pos := some (p + 1), locate := some { l with skip := l.skip + 1 } })) ∧
        (64 ≤ l.skip + 1 →
          ∃ u, Runs (.locateFrameRead t raw) s u ∧ (u.tc t).st = .ready ∧ (u.tc t).pos = some (p + 1) ∧
            LocateFails s u t j l.x none .readFault))) ∧
    (∀ tach k, l.phase = .fastFirst → l.goal = .marks k →
      Runs (.fastMoveComplete t tach) s
        (s.setTc t { s.tc t with pos := some tach, locate := some { l with phase := .counting false } })) ∧
    ((∃ a b, l.phase = .checking a b ∨ l.phase = .forward a) →
      ∃ u, Runs (.physicalEnd t) s u ∧ (u.tc t).st = .ready ∧ (u.tc t).pos = (s.tc t).pos ∧
        LocateFails s u t j l.a (s.tc t).pos .locateFault) ∧
    ((∃ a, l.phase = .counting a ∨ ∃ sr, l.phase = .searching sr) →
      ∃ u, Runs (.physicalEnd t) s u ∧ (u.tc t).st = .ready ∧ (u.tc t).pos = (s.tc t).pos ∧
        LocateFails s u t j l.x none .readFault)

/-- The end-of-data search begins behind the located last map entry, or at frame 1. An accepted frame moves the
expected address on; a good header ends the run of frames without one; at an accepted EOD frame the write job starts
on that frame with the search's address and the frame's file number; a frame without a good header lengthens the run
and leaves the skips; the 32nd in a row recovers the end of data after the last good header, or where the search
began; a counted skip has a good header, and the 64th ends the job READ_FAULT; a place in the reserve zone ends it
END_OF_MEDIA. -/
def Obligations.EndOfDataSearchFindsThePlace : Prop :=
  (∀ (s : State) (t : Tr) (l : Locate) (r : CartRecord) (c : CartClass), (s.tc t).locate = some l →
    l.goal = .endOfData → s.mtb.get (.bay t) = some r → r.cls = some c →
    (∀ tach, l.phase = .fastFirst → tach < Config.capacity c - 16 →
      Runs (.fastMoveComplete t tach) s
        (s.setTc t { s.tc t with
          pos := some tach
          locate := some { l with skip := 0, phase := .searching { startFrame := tach, startFiles := 0 } } })) ∧
    ∀ n raw f mark, l.phase = .forward n → classify l.a raw = .accepted f mark →
      f.hdr.frame + 1 < Config.capacity c - 16 →
      Runs (.locateFrameRead t raw) s
        (State.setTc { s with mtb := if mark then markLearned s.mtb t f.hdr.addr f.hdr.file f.hdr.frame else s.mtb } t
          { s.tc t with
            pos := some (f.hdr.frame + 1)
            locate := some { l with
              x := f.hdr.addr + 1, skip := 0, lastHeader := some f.hdr.frame
              phase := .searching { startFrame := f.hdr.frame + 1, startFiles := r.map.length } } })) ∧
  ∀ (s : State) (t : Tr) (l : Locate) (sr : Search) (w : WriteJob) (r : CartRecord) (c : CartClass) (p : Nat) (raw : RawFrame),
    (s.tc t).locate = some l → l.phase = .searching sr → WriteWaits s t w → s.mtb.get (.bay t) = some r →
    r.cls = some c → (s.tc t).pos = some p →
    (∀ f, readFrame raw = some f → f.hdr.kind = 5 → f.hdr.malformed = false → f.hdr.addr = l.x →
      f.hdr.frame < Config.capacity c - 16 →
      ∃ u, Runs (.eodSearchFrameRead t raw) s u ∧ WriteLocated s u t w f.hdr.frame l.x f.hdr.file false) ∧
    (∀ f mark, classify l.x raw = .accepted f mark → f.hdr.frame + 1 < Config.capacity c - 16 →
      Runs (.eodSearchFrameRead t raw) s
        (State.setTc { s with mtb := if mark then markLearned s.mtb t f.hdr.addr f.hdr.file f.hdr.frame else s.mtb } t
          { s.tc t with
            pos := some (f.hdr.frame + 1)
            locate := some { l with
              x := l.x + 1, skip := 0, lastHeader := some f.hdr.frame
              phase := .searching { sr with
                lastAccepted := some (f.hdr.file, mark), lastGood := some f.hdr.frame, run := 0 } } })) ∧
    (∀ f, readFrame raw = some f → (f.hdr.kind = 1 ∨ f.hdr.kind = 4) → f.hdr.frame + 1 < Config.capacity c - 16 →
      Runs (.eodSearchFrameRead t raw) s
        (s.setTc t { s.tc t with
          pos := some (f.hdr.frame + 1)
          locate := some { l with
            lastHeader := some f.hdr.frame, phase := .searching { sr with lastGood := some f.hdr.frame, run := 0 } } })) ∧
    (∀ f, readFrame raw = some f → classify l.x raw = .counted →
      (l.skip + 1 < 64 → f.hdr.frame + 1 < Config.capacity c - 16 →
        Runs (.eodSearchFrameRead t raw) s
          (s.setTc t { s.tc t with
            pos := some (f.hdr.frame + 1)
            locate := some { l with
              skip := l.skip + 1, lastHeader := some f.hdr.frame
              phase := .searching { sr with lastGood := some f.hdr.frame, run := 0 } } })) ∧
      (64 ≤ l.skip + 1 →
        ∃ u, Runs (.eodSearchFrameRead t raw) s u ∧ (u.tc t).st = .ready ∧ (u.tc t).pos = some (f.hdr.frame + 1) ∧
          LocateFails s u t (.write w) l.x none .readFault) ∧
      (l.skip + 1 < 64 → Config.capacity c - 16 ≤ f.hdr.frame + 1 →
        ∃ u, Runs (.eodSearchFrameRead t raw) s u ∧ (u.tc t).st = .ready ∧
          LocateFails s u t (.write w) l.x none .endOfMedia)) ∧
    (readFrame raw = none →
      (sr.run + 1 < 32 → p + 1 < Config.capacity c - 16 →
        Runs (.eodSearchFrameRead t raw) s
          (s.setTc t { s.tc t with
            pos := some (p + 1)
            locate := some { l with phase := .searching { sr with run := sr.run + 1 } } })) ∧
      (sr.run + 1 < 32 → Config.capacity c - 16 ≤ p + 1 →
        ∃ u, Runs (.eodSearchFrameRead t raw) s u ∧ (u.tc t).st = .ready ∧
          LocateFails s u t (.write w) l.x none .endOfMedia) ∧
      (32 ≤ sr.run + 1 →
        (∀ g, sr.lastGood = some g → g + 1 < Config.capacity c - 16 →
          ∃ u, Runs (.eodSearchFrameRead t raw) s u ∧
            WriteLocated s u t w (g + 1) l.x
              (match sr.lastAccepted with
                | some (k, mark) => if mark then k + 1 else k
                | none => sr.startFiles) true) ∧
        (sr.lastGood = none → sr.startFrame < Config.capacity c - 16 →
          ∃ u, Runs (.eodSearchFrameRead t raw) s u ∧
            WriteLocated s u t w sr.startFrame l.x
              (match sr.lastAccepted with
                | some (k, mark) => if mark then k + 1 else k
                | none => sr.startFiles) true)))

/-! ## The streaming jobs: writing -/

/-- The formatter has chosen a frame g for a place: it is handed to the mechanism there, EARLY_WARNING goes out once
at or beyond C - 2048, and the frame before it has joined those in flight (R113, R125). -/
def Sys2Proof.Claims.Chosen (s u : State) (t : Tr) (w w' : WriteJob) (g : WFrame) (flight : List WFrame) (c : CartClass)
    (place : Nat) : Prop :=
  (u.tc t).inflight = flight ∧ (u.tc t).pos = some place ∧ (u.tc t).job = some (.write w') ∧ w'.inProgress = some g ∧
    g.hdr.frame = place ∧ w'.framesWritten = w.framesWritten + 1 ∧
    w'.warned = (w.warned || decide (Config.capacity c - 2048 ≤ place)) ∧
    u.lnk = queued s.lnk
      (if w.warned = false ∧ Config.capacity c - 2048 ≤ place then [.earlyWarning t place w.rawOnTape] else []) ∧
    u.mtb = s.mtb ∧ u.chg = s.chg

/-- The frame g carries an entry: a DATA frame with its block, or a MARK frame, with its address and file number and its
rewrite count as write pass (R112, R113, R118). -/
def Sys2Proof.Claims.Carries (g : WFrame) (e : WEntry) : Prop :=
  g.entry = some e ∧ g.hdr.addr = e.addr ∧ g.hdr.file = e.file ∧ g.hdr.pass = e.rewrites ∧
    match e.block with
    | some b => g.hdr.kind = 2 ∧ g.payload = b.payload ∧ g.hdr.rawLen = b.raw ∧ g.hdr.slices = b.slices
    | none => g.hdr.kind = 3 ∧ g.payload = []

/-- A frame of a block or mark is written: it joins the in-flight list, the position advances, the frame is counted;
the first frame of a job, whatever its kind, makes its record's end of data OPEN and cuts the map at the file it starts
from. Then the next is chosen: the head of the rewrite list, written again with its own address and its rewrite count as
write pass; while draining a FILLER or the EOD frame; the block or mark at the head of the block queue with the next
address; at the CLOSE entry the drain begins. With nothing left a FILLER is written, until the filler limit is reached
with no DATA or MARK frame in flight: then the transport hitches, and the fillers leave the list. An EARLY_WARNING comes
once at or beyond frame C - 2048. A choice in the reserve zone, C - 16, decides END_OF_MEDIA: all that is queued is
discarded, and the drain begins with a FILLER while DATA or MARK frames are in flight, else with the EOD frame. After an
EOD frame nothing is written until its result. -/
def Obligations.WrittenFrameGoesInFlight : Prop :=
  (∀ (s : State) (t : Tr) (w : WriteJob) (f : WFrame) (e : WEntry) (r : CartRecord),
    (s.tc t).job = some (.write w) → w.inProgress = some f → f.entry = some e →
    f.hdr.kind ≠ 4 → f.hdr.kind ≠ 5 → s.mtb.get (.bay t) = some r →
    ∃ u w', Runs (.writeCompletion t) s u ∧ (u.tc t).inflight = (s.tc t).inflight ++ [f] ∧
      (u.tc t).pos = some (f.hdr.frame + 1) ∧ (u.tc t).job = some (.write w') ∧ w'.wrote = true ∧
      w'.framesWritten = w.framesWritten + 1 ∧ w'.fillersWritten = w.fillersWritten ∧ w'.fillers = 0) ∧
  (∀ (s : State) (t : Tr) (w : WriteJob) (f : WFrame) (r : CartRecord),
    (s.tc t).job = some (.write w) → w.inProgress = some f → s.mtb.get (.bay t) = some r →
    ∃ u r', Runs (.writeCompletion t) s u ∧ u.mtb.get (.bay t) = some r' ∧
      (w.wrote = true → r' = r) ∧
      (w.wrote = false → r'.eod = .opened ∧ r'.dirty = true ∧
        (w.mode = .append → r'.map = r.map ∧ r'.rawTotal = r.rawTotal ∧ r'.codedTotal = r.codedTotal) ∧
        ∀ k, w.mode = .fromFile k → r'.map = r.map.take k.toNat ∧
          (k = 0 → r'.rawTotal = 0 ∧ r'.codedTotal = 0)) ∧
      OnlyRecord (.bay t) s u ∧ u.chg = s.chg) ∧
  (∀ (s : State) (t : Tr) (w : WriteJob) (f : WFrame) (r : CartRecord) (c : CartClass) (place : Nat)
    (flight : List WFrame),
    (s.tc t).job = some (.write w) → w.wrote = true → w.inProgress = some f → s.mtb.get (.bay t) = some r →
    r.cls = some c → place = f.hdr.frame + 1 → (s.tc t).intake = [] → (s.cx t).closed = none → (s.cx t).held = none →
    flight = (s.tc t).inflight ++ (if f.entry = none ∧ f.hdr.kind ≠ 4 ∧ f.hdr.kind ≠ 5 then [] else [f]) →
    (∀ g ∈ flight, g.hdr.kind ≠ 5 ∧ place < g.hdr.frame + 4) →
    (∀ e more, (s.tc t).rewrite = e :: more → ((s.tc t).st = .writing ∨ (s.tc t).st = .draining) →
      place < Config.capacity c - 16 →
      ∃ u w' g, Runs (.writeCompletion t) s u ∧ Chosen s u t w w' g flight c place ∧ Carries g e ∧ g.fromRewrite = true ∧
        (u.tc t).rewrite = more ∧ (u.tc t).blockQ = (s.tc t).blockQ ∧ w'.nextAddr = w.nextAddr ∧
        w'.nextFile = w.nextFile) ∧
    ((s.tc t).rewrite = [] → (s.tc t).st = .draining →
      ∃ u w' g, Runs (.writeCompletion t) s u ∧ Chosen s u t w w' g flight c place ∧ g.entry = none ∧ g.payload = [] ∧
        g.hdr.kind = (if flight.any (·.entry.isSome) then 4 else 5) ∧ g.hdr.addr = w.nextAddr ∧
        g.hdr.file = w.nextFile ∧ g.hdr.pass = 0 ∧ (u.tc t).st = .draining) ∧
    ((s.tc t).rewrite = [] → (s.tc t).st = .writing → place < Config.capacity c - 16 →
      (∀ (b : Option Block) q e, (s.tc t).blockQ = (match b with | some b => .block b | none => .mark) :: q →
        e = { block := b, addr := w.nextAddr, file := w.nextFile, rewrites := 0 } →
        ∃ u w' g, Runs (.writeCompletion t) s u ∧ Chosen s u t w w' g flight c place ∧ Carries g e ∧
          g.fromRewrite = false ∧ (u.tc t).blockQ = q ∧ (u.tc t).st = .writing ∧ w'.nextAddr = w.nextAddr + 1 ∧
          w'.nextFile = (if b = none then w.nextFile + 1 else w.nextFile)) ∧
      ∀ q, (s.tc t).blockQ = .close :: q →
        ∃ u w' g, Runs (.writeCompletion t) s u ∧ Chosen s u t w w' g flight c place ∧ g.entry = none ∧ g.payload = [] ∧
          g.hdr.kind = (if flight.any (·.entry.isSome) then 4 else 5) ∧ g.hdr.addr = w.nextAddr ∧
          g.hdr.file = w.nextFile ∧ g.hdr.pass = 0 ∧ (u.tc t).blockQ = q ∧ (u.tc t).st = .draining)) ∧
  ∀ (s : State) (t : Tr) (w : WriteJob) (f : WFrame) (r : CartRecord) (c : CartClass) (place : Nat),
    (s.tc t).job = some (.write w) → w.wrote = true → w.inProgress = some f → s.mtb.get (.bay t) = some r →
    r.cls = some c → place = f.hdr.frame + 1 → (s.cx t).closed = none → (s.cx t).held = none →
    ((s.tc t).st = .writing → w.abort = .none →
      (∀ g ∈ (s.tc t).inflight ++ [f], g.hdr.kind ≠ 5 ∧ place < g.hdr.frame + 4) →
      (f.hdr.kind = 4 → f.entry = none → (s.tc t).rewrite = [] → (s.tc t).blockQ = [] → (s.tc t).intake = [] →
        place < Config.capacity c - 16 →
        ((w.fillers + 1 < w.fillerLimit ∨ ∃ g ∈ (s.tc t).inflight, g.entry ≠ none) →
          ∃ u w' g, Runs (.writeCompletion t) s u ∧ (u.tc t).st = .writing ∧
            (u.tc t).inflight = (s.tc t).inflight ++ [f] ∧ (u.tc t).pos = some place ∧
            (u.tc t).job = some (.write w') ∧ w'.inProgress = some g ∧ g.hdr.kind = 4 ∧ g.hdr.frame = place ∧
            g.hdr.addr = w.nextAddr ∧ g.hdr.file = w.nextFile ∧ g.hdr.pass = 0 ∧ g.entry = none ∧
            w'.fillers = w.fillers + 1 ∧ w'.fillersWritten = w.fillersWritten + 1 ∧
            w'.framesWritten = w.framesWritten + 1 ∧
            w'.warned = (w.warned || decide (Config.capacity c - 2048 ≤ place)) ∧
            u.lnk = queued s.lnk
              (if w.warned = false ∧ Config.capacity c - 2048 ≤ place then [.earlyWarning t place w.rawOnTape] else []) ∧
            u.mtb = s.mtb ∧ u.chg = s.chg) ∧
        (w.fillerLimit ≤ w.fillers + 1 → (∀ g ∈ (s.tc t).inflight, g.entry = none ∧ g.hdr.kind = 4) →
          ∃ u w', Runs (.writeCompletion t) s u ∧ (u.tc t).st = .hitch ∧ (u.tc t).inflight = [] ∧
            (u.tc t).pos = some place ∧ (u.tc t).job = some (.write w') ∧ w'.inProgress = none ∧ w'.fillers = 0 ∧
            w'.hitches = w.hitches + 1 ∧ w'.fillersWritten = w.fillersWritten + 1 ∧ u.lnk = s.lnk ∧ u.mtb = s.mtb)) ∧
      (f.entry ≠ none ∨ f.hdr.kind = 4 → Config.capacity c - 16 ≤ place → w.verdict = none →
        ∃ u w' g, Runs (.writeCompletion t) s u ∧ (u.tc t).st = .draining ∧ (u.tc t).blockQ = [] ∧
          (u.tc t).intake = [] ∧ (u.tc t).rewrite = [] ∧ u.cx t = { dir := .write } ∧
          (u.tc t).inflight = (s.tc t).inflight ++ [f] ∧ (u.tc t).job = some (.write w') ∧
          w'.verdict = some .endOfMedia ∧ w'.blocksLost = w.blocksLost + (s.tc t).rewrite.length ∧
          w'.rawDiscarded =
            w.rawDiscarded + (intakeRaw (s.tc t).intake + (s.cx t).raw + ((s.tc t).blockQ.map QEntry.raw).sum) +
              ((s.tc t).rewrite.map WEntry.raw).sum ∧
          w'.inProgress = some g ∧ g.entry = none ∧ g.hdr.frame = place ∧
          g.hdr.kind = (if ((s.tc t).inflight ++ [f]).any (·.entry.isSome) then 4 else 5) ∧
          g.hdr.addr = (match (s.tc t).rewrite with | e :: _ => e.addr | [] => w.nextAddr) ∧
          g.hdr.file = (match (s.tc t).rewrite with | e :: _ => e.file | [] => w.nextFile) ∧ u.mtb = s.mtb)) ∧
    (f.hdr.kind = 5 → f.entry = none → f.fromRewrite = false → (s.tc t).st = .draining → (s.tc t).intake = [] →
      Runs (.writeCompletion t) s
        (s.setTc t { s.tc t with
          pos := some place
          inflight := (s.tc t).inflight ++ [f]
          job := some (.write { w with
            inProgress := none, framesWritten := w.framesWritten + 1, eodFrames := w.eodFrames + 1 }) }))

/-- A GOOD result confirms the oldest entry, which leaves the in-flight list: a block adds to the totals and the
counts, a mark to the file map when it is the next. A BAD one moves the failed entry and every later one to the front
of the rewrite list, one rewrite older, while a frame is being written; beyond the rewrite limit the job decides
WRITE_FAULT, and where the rewrite would fall in the reserve zone END_OF_MEDIA, and gives everything up. The result of
a FILLER only takes it from the list. A result for a frame that has left the list is discarded. -/
def Obligations.ReadBackConfirmsOrRewrites : Prop :=
  (∀ (s : State) (t : Tr) (w : WriteJob) (f : WFrame) (rest : List WFrame) (e : WEntry) (r : CartRecord)
    (raw : RawFrame),
    (s.tc t).job = some (.write w) → (s.tc t).inflight = f :: rest → f.entry = some e → s.mtb.get (.bay t) = some r →
    (s.tc t).FlightTold →
    (judge f.hdr raw = true →
      ∃ u w' r', Runs (.readBackResult t f.hdr.frame raw) s u ∧ (u.tc t).job = some (.write w') ∧
        ((u.tc t).inflight = rest ∨
          (w.inProgress = none ∧ (u.tc t).st = .hitch ∧ (u.tc t).inflight = [] ∧ ∀ g ∈ rest, g.hdr.kind = 4)) ∧
        u.mtb.get (.bay t) = some r' ∧
        (∀ b, e.block = some b →
          w'.blocksConfirmed = w.blocksConfirmed + 1 ∧ w'.rawOnTape = w.rawOnTape + b.raw ∧
          w'.coded = w.coded + b.payload.length ∧ r'.rawTotal = min Config.max64 (r.rawTotal + b.raw) ∧
          r'.codedTotal = min Config.max64 (r.codedTotal + b.payload.length) ∧ r'.map = r.map) ∧
        (e.block = none →
          w'.marksConfirmed = w.marksConfirmed + 1 ∧ r'.rawTotal = r.rawTotal ∧ r'.codedTotal = r.codedTotal ∧
          r'.map =
            if r.map.length = e.file ∧ e.file < 64 then r.map ++ [{ addr := e.addr, frame := f.hdr.frame }]
            else r.map) ∧
        r'.eod = r.eod ∧ r'.dirty = r.dirty) ∧
    (judge f.hdr raw = false → ∀ g p c moved, w.inProgress = some g → (s.tc t).pos = some p → r.cls = some c →
      moved = (((f :: rest).filterMap (·.entry)) ++ g.entry.toList).map (fun x => { x with rewrites := x.rewrites + 1 }) →
      (e.rewrites + 1 ≤ w.limit → p + 1 < Config.capacity c - 16 →
        ∃ u w', Runs (.readBackResult t f.hdr.frame raw) s u ∧ (u.tc t).inflight = [] ∧
          (u.tc t).rewrite = moved ++ (s.tc t).rewrite ∧ (u.tc t).st = (s.tc t).st ∧
          (u.tc t).job = some (.write w') ∧ w'.inProgress = some { g with entry := none } ∧ u.mtb = s.mtb) ∧
      ∀ res, w.verdict = none →
        ((w.limit < e.rewrites + 1 ∧ res = .writeFault) ∨
          (e.rewrites + 1 ≤ w.limit ∧ Config.capacity c - 16 ≤ p + 1 ∧ res = .endOfMedia)) →
        ∃ u w', Runs (.readBackResult t f.hdr.frame raw) s u ∧ (u.tc t).inflight = [] ∧ (u.tc t).rewrite = [] ∧
          (u.tc t).blockQ = [] ∧ (u.tc t).intake = [] ∧ ((s.tc t).st = .writing → (u.tc t).st = .draining) ∧
          (u.tc t).job = some (.write w') ∧ w'.verdict = some res ∧
          w'.blocksLost = w.blocksLost + moved.length + (s.tc t).rewrite.length ∧
          w'.nextAddr = e.addr ∧ w'.nextFile = e.file) ∧
    ∀ place, place ≠ f.hdr.frame → Runs (.readBackResult t place raw) s s) ∧
  ∀ (s : State) (t : Tr) (w : WriteJob) (f g : WFrame) (rest : List WFrame) (raw : RawFrame),
    (s.tc t).job = some (.write w) → (s.tc t).inflight = f :: rest → f.entry = none → f.hdr.kind = 4 →
    w.inProgress = some g → (s.tc t).intake = [] → (s.cx t).closed = none → (s.cx t).held = none →
    Runs (.readBackResult t f.hdr.frame raw) s (s.setTc t { s.tc t with inflight := rest })

/-- The result of an EOD frame: a GOOD one ends the drain and the job, with the record's end of data KNOWN at that
frame, the transport READY after it, and the result decided, or ABORTED after an ABORT, or OK; a third BAD one, or one
with no frame place left on the tape, ends it unconfirmed; the report gives the EOD frame, whether it was confirmed,
and the bytes left in the intake as discarded; a BAD one before that lets the formatter write another at the next
place. -/
def Obligations.DrainEndsAtTheEodFrame : Prop :=
  ∀ (s : State) (t : Tr) (w : WriteJob) (f : WFrame) (r : CartRecord) (raw : RawFrame) (p : Nat),
    (s.tc t).job = some (.write w) → (s.tc t).inflight = [f] → f.entry = none → f.hdr.kind = 5 →
    (s.tc t).pos = some p → s.mtb.get (.bay t) = some r →
    ((judge f.hdr raw = true ∨ 3 ≤ w.eodFrames ∨ ∃ c, r.cls = some c ∧ Config.capacity c ≤ p) →
      ∃ u r' res, Runs (.readBackResult t f.hdr.frame raw) s u ∧ (u.tc t).st = .ready ∧
        (u.tc t).pos = some (f.hdr.frame + 1) ∧
        res = (match w.verdict with | some v => v | none => if w.abort = .none then .ok else .aborted) ∧
        JobEnded t .write res
          (reportOf u (some r') s.free
            (.write { w with
              eodAddr := some f.hdr.addr, eodFrame := some f.hdr.frame, eodUnconfirmed := !judge f.hdr raw
              rawDiscarded := w.rawDiscarded + intakeRaw (s.tc t).intake }) res) s u ∧
        u.mtb.get (.bay t) = some r' ∧ r'.eod = .known f.hdr.addr f.hdr.frame f.hdr.file ∧ r'.dirty = true ∧
        r'.map = r.map ∧ r'.rawTotal = r.rawTotal ∧ r'.codedTotal = r.codedTotal ∧ r'.label = r.label) ∧
    (judge f.hdr raw = false → w.eodFrames < 3 → (s.tc t).st = .draining → (s.tc t).rewrite = [] → w.inProgress = none →
      w.warned = true → w.abort = .none → (∃ c, r.cls = some c ∧ p < Config.capacity c) →
      ∃ u e, Runs (.readBackResult t f.hdr.frame raw) s u ∧ (u.tc t).inflight = [] ∧
        (u.tc t).job = some (.write { w with inProgress := some e }) ∧ e.hdr.kind = 5 ∧ e.hdr.frame = p ∧
        e.hdr.addr = w.nextAddr ∧ e.hdr.file = w.nextFile ∧ e.hdr.pass = 0 ∧ u.mtb = s.mtb)

/-- The end of a hitch: WAITING, unless the condition for resuming holds already. A write job then streams at the
active Lstart and hands its first frame to the mechanism, or drains when it has an ending decided and nothing left to
write; a read job reads on. -/
def Obligations.HitchEndsInWaitingOrStreaming : Prop :=
  ∀ (s : State) (t : Tr), (s.tc t).st = .hitch →
    (∀ w : WriteJob, (s.tc t).job = some (.write w) → (s.tc t).intake = [] → (s.cx t).closed = none →
      (s.cx t).held = none → w.abort = .none → w.verdict = none →
      ((w.start = none ∨ ¬Resumes (s.tc t) (s.tc t).blockQ) →
        Runs (.hitchComplete t) s (s.setTc t { s.tc t with st := .waiting })) ∧
      ∀ place, WriteStill s t w place → WriteEntries (s.tc t).blockQ → (s.tc t).blockQ ≠ [] →
        Resumes (s.tc t) (s.tc t).blockQ →
        ∃ u, Runs (.hitchComplete t) s u ∧ WriteStreams s u t w (s.tc t).blockQ place) ∧
    (∀ (w : WriteJob) (place : Nat), (s.tc t).job = some (.write w) → WriteStill s t w place → (s.tc t).blockQ = [] →
      (w.abort ≠ .none ∨ w.verdict ≠ none) →
      ∃ u, Runs (.hitchComplete t) s u ∧ WriteStreams s u t w [] place) ∧
    ∀ (r : ReadJob) (i : ReadInfo) (b : Block) (q : List QEntry), (s.tc t).job = some (.read r) → r.isCompare = false →
      r.ended = none → r.short = none → (s.tc t).blockQ = .readBlock i b [] :: q →
      ((s.tc t).gov.active.resume < (s.tc t).blockQ.length →
        Runs (.hitchComplete t) s (s.setTc t { s.tc t with st := .waiting })) ∧
      ((s.tc t).blockQ.length ≤ (s.tc t).gov.active.resume →
        Runs (.hitchComplete t) s
          (s.setTc t { s.tc t with
            st := .reading
            gov := { (s.tc t).gov with
              a := 256 * ((s.tc t).gov.active.lstart : Int), l := ((s.tc t).gov.active.lstart : Int), evalCount := 0 } }))

/-! ## The streaming jobs: reading, and the datapath -/

/-- A frame read in READING is classified by the accept rule: a counted skip counts, the 64th in a row a read fault; the
block at the expected address joins the block queue and the next address is expected; a mark is learned and passed on.
The reading ends in WAITING when its count, its mark, an ABORT's mark or its end bound is met; end of data, or a
restore's read fault, ends the job once nothing is left to deliver. After an ABORT AT_MARK the result is ABORTED, and a
restore whose own range has then been delivered whole reports no resume point. A verify's read fault records its address
UNREADABLE, with x left at it, and in COMPARE mode leaves a gap or the unaligned marker. From a search start for the
first time it moves the tape back there, at the end of which x moves on and the transport reads again; a second one
ends the reading READ_FAULT, one on the last address of a count FAULTS_FOUND, and one before the end bound as the end
of data does. -/
def Obligations.ReadingAcceptsInAddressOrder : Prop :=
  (∀ (s : State) (t : Tr) (r : ReadJob) (offset : Nat) (raw : RawFrame) (f : ReadFrame) (p : Nat),
    (s.tc t).st = .reading → (s.tc t).job = some (.read r) → r.spec = .restore offset .toEod → r.ended = none →
    r.atMark = false → r.short = none → r.pendingGaps = [] → (s.tc t).watch = .off → (s.tc t).pos = some p →
    ((s.tc t).blockQ = [] → readFrame raw = none → r.skip + 1 < 64 →
      ∃ u, Runs (.readingFrameRead t raw) s u ∧ (u.tc t).st = .reading ∧ (u.tc t).pos = some (p + 1) ∧
        (u.tc t).job = some (.read { r with
          framesRead := r.framesRead + 1, countedSkips := r.countedSkips + 1, skip := r.skip + 1 }) ∧
        (u.tc t).blockQ = [] ∧ (u.tc t).delivery = (s.tc t).delivery ∧ u.mtb = s.mtb ∧ u.chg = s.chg ∧
        u.tc t.other = s.tc t.other ∧ u.lnk = s.lnk) ∧
    ((s.tc t).blockQ = [] → (s.tc t).delivery = [] → s.opOf t = false → r.faultCount = 0 → readFrame raw = none →
      64 ≤ r.skip + 1 →
      ∃ u, Runs (.readingFrameRead t raw) s u ∧ (u.tc t).st = .ready ∧ (u.tc t).pos = some (p + 1) ∧
        JobEnded t .restore .readFault
          (reportOf u (s.mtb.get (.bay t)) s.free
            (.read { r with
              framesRead := r.framesRead + 1, countedSkips := r.countedSkips + 1, readFault := some r.x }) .readFault)
          s u) ∧
    (∀ q i b rest, q = (s.tc t).blockQ → (q = [] ∨ q = .readBlock i b [] :: rest) → q.length < 32 →
      classify r.x raw = .accepted f false → r.bound ≠ some (f.hdr.addr + 1) →
      ∃ u r', Runs (.readingFrameRead t raw) s u ∧
        (u.tc t).blockQ = q ++ [.readBlock f.info f.block []] ∧
        (u.tc t).st = (if q.length + 1 = 32 then .hitch else .reading) ∧ (u.tc t).pos = some (f.hdr.frame + 1) ∧
        (u.tc t).job = some (.read r') ∧ r'.x = f.hdr.addr + 1 ∧ r'.skip = 0 ∧ r'.accepted = r.accepted + 1 ∧
        r'.blocksAccepted = r.blocksAccepted + 1 ∧ r'.framesRead = r.framesRead + 1 ∧ u.mtb = s.mtb) ∧
    ((s.tc t).blockQ = [] → classify r.x raw = .accepted f true → r.bound ≠ some (f.hdr.addr + 1) →
      ∃ u r', Runs (.readingFrameRead t raw) s u ∧ (u.tc t).st = .reading ∧ (u.tc t).blockQ = [] ∧
        (u.tc t).delivery = closeFilling (s.tc t).delivery ++ [.mark] ∧
        (u.tc t).job = some (.read r') ∧ r'.x = f.hdr.addr + 1 ∧ r'.marksAccepted = r.marksAccepted + 1 ∧
        u.mtb = markLearned s.mtb t f.hdr.addr f.hdr.file f.hdr.frame) ∧
    ((s.tc t).blockQ = [] → (s.tc t).delivery = [] → s.opOf t = false → r.faultCount = 0 →
      classify r.x raw = .endOfData f →
      ∃ u, Runs (.readingFrameRead t raw) s u ∧ (u.tc t).st = .ready ∧ (u.tc t).pos = some (f.hdr.frame + 1) ∧
        JobEnded t .restore .ok
          (reportOf u (s.mtb.get (.bay t)) s.free (.read { r with framesRead := r.framesRead + 1 }) .ok) s u)) ∧
  (∀ (s : State) (t : Tr) (r told : ReadJob) (offset : Nat) (stop : RestoreEnd) (raw : RawFrame) (f : ReadFrame),
    (s.tc t).st = .reading → (s.tc t).job = some (.read r) → r.spec = .restore offset stop → r.ended = none →
    r.atMark = true → r.short = none → r.pendingGaps = [] → (s.tc t).blockQ = [] → (s.tc t).delivery = [] →
    s.opOf t = false → classify r.x raw = .endOfData f →
    told =
      { r with framesRead := r.framesRead + 1, ended := some (if stop = .toEod then .ok else .endOfData) } →
    told.resumePoint .aborted = (if stop = .toEod then none else r.resume) ∧
      ∃ u, Runs (.readingFrameRead t raw) s u ∧ (u.tc t).st = .ready ∧ (u.tc t).pos = some (f.hdr.frame + 1) ∧
        JobEnded t .restore .aborted (reportOf u (s.mtb.get (.bay t)) s.free (.read told) .aborted) s u) ∧
  (∀ (s : State) (t : Tr) (r : ReadJob) (raw : RawFrame) (f : ReadFrame) (mark : Bool) (res : JobResult),
    (s.tc t).st = .reading → (s.tc t).job = some (.read r) → r.ended = none → r.short = none → r.pendingGaps = [] →
    (s.tc t).blockQ = [] → (s.tc t).delivery = [] → (s.tc t).intake = [] → classify r.x raw = .accepted f mark →
    ((∃ offset stop met, r.spec = .restore offset stop ∧
        met = ((∃ n, stop = .count n ∧ n.toNat ≤ r.accepted + 1) ∨ (stop = .toMark ∧ mark = true)) ∧
        ((met ∧ res = .ok) ∨
          (¬met ∧ r.bound = some (f.hdr.addr + 1) ∧ res = if stop = .toEod then .ok else .endOfData) ∨
          (¬met ∧ r.bound ≠ some (f.hdr.addr + 1) ∧ r.atMark = true ∧ mark = true ∧ res = .aborted))) ∨
      (mark = false ∧ ∃ a range mode policy met, r.spec = .verify a range mode policy ∧
        met = (∃ n, range = .count n ∧ a + n.toNat ≤ f.hdr.addr + 1) ∧
        ((met ∧ res = .ok) ∨
          (¬met ∧ r.bound = some (f.hdr.addr + 1) ∧ res = if range = .toEod then .ok else .endOfData)))) →
    ∃ u r', Runs (.readingFrameRead t raw) s u ∧ (u.tc t).st = .waiting ∧ (u.tc t).pos = some (f.hdr.frame + 1) ∧
      (u.tc t).job = some (.read r') ∧ r'.ended = some res ∧ r'.x = f.hdr.addr + 1 ∧ r'.accepted = r.accepted + 1 ∧
      (u.tc t).blockQ = (if mark then [] else [.readBlock f.info f.block []]) ∧
      (u.tc t).delivery = (if mark then [.mark] else [])) ∧
  ∀ (s : State) (t : Tr) (r faulty : ReadJob) (a : Nat) (range : VerifyRange) (mode : VerifyMode) (policy : FaultPolicy)
    (raw : RawFrame) (p : Nat),
    (s.tc t).st = .reading → (s.tc t).job = some (.read r) → r.spec = .verify a range mode policy → r.ended = none →
    r.atMark = false → r.short = none → r.pendingGaps = [] → r.unaligned = false → (s.tc t).pos = some p →
    (s.tc t).blockQ = [] → (s.tc t).delivery = [] → (s.tc t).intake = [] → s.opOf t = false →
    readFrame raw = none → 64 ≤ r.skip + 1 →
    faulty =
      { r with
        framesRead := r.framesRead + 1, countedSkips := r.countedSkips + 1, skip := r.skip + 1
        covered := r.covered + 1, faultCount := r.faultCount + 1, lastSeen := none
        faults := (r.record { addr := r.x, kind := .unreadable, offset := 0 }).faults
        pendingGaps :=
          if mode = .compare then [match r.lastSeen with | some n => .bytes r.x 0 n | none => .unaligned] else []
        unalignedFlag := r.unalignedFlag || decide (mode = .compare ∧ r.lastSeen = none) } →
    (r.faults.length < 32 → faulty.faults = r.faults ++ [{ addr := r.x, kind := .unreadable, offset := 0 }]) ∧
    (32 ≤ r.faults.length → faulty.faults =
      if policy = .keepLast then r.faults.tail ++ [{ addr := r.x, kind := .unreadable, offset := 0 }] else r.faults) ∧
    ((∀ n, range = .count n → r.x + 1 < a + n.toNat) → r.bound = some (r.x + 1) → mode = .check →
      ∃ u res, res = (if range = .toEod then JobResult.faultsFound else .endOfData) ∧
        Runs (.readingFrameRead t raw) s u ∧ (u.tc t).st = .ready ∧ (u.tc t).pos = some (p + 1) ∧
        JobEnded t .verify res (reportOf u (s.mtb.get (.bay t)) s.free (.read faulty) res) s u) ∧
    ((∀ n, range = .count n → r.x + 1 < a + n.toNat) → r.bound ≠ some (r.x + 1) →
      (r.resynced = false →
        ∃ u, Runs (.readingFrameRead t raw) s u ∧ (u.tc t).st = .locating ∧ (u.tc t).pos = some (p + 1) ∧
          (u.tc t).locate =
            some { writing := false, goal := .address, a := r.x + 1, e := r.searchStart, x := r.x + 1,
                   phase := .resync r.searchStart } ∧
          (u.tc t).job = some (.read { faulty with resynced := true, resyncs := r.resyncs + 1 }) ∧ u.mtb = s.mtb) ∧
      (r.resynced = true → mode = .check →
        ∃ u, Runs (.readingFrameRead t raw) s u ∧ (u.tc t).st = .ready ∧ (u.tc t).pos = some (p + 1) ∧
          JobEnded t .verify .readFault (reportOf u (s.mtb.get (.bay t)) s.free (.read faulty) .readFault) s u) ∧
      ∀ n, r.resynced = true → mode = .compare → r.lastSeen = some (n + 1) →
        ∃ u r', Runs (.readingFrameRead t raw) s u ∧ (u.tc t).st = .waiting ∧ (u.tc t).job = some (.read r') ∧
          r'.ended = some .readFault ∧ (u.tc t).delivery = [.gap (.bytes r.x 0 (n + 1))]) ∧
    ((∃ n, range = .count n ∧ r.x + 1 = a + n.toNat) → mode = .check →
      ∃ u, Runs (.readingFrameRead t raw) s u ∧ (u.tc t).st = .ready ∧ (u.tc t).pos = some (p + 1) ∧
        JobEnded t .verify .faultsFound (reportOf u (s.mtb.get (.bay t)) s.free (.read faulty) .faultsFound) s u) ∧
    ∀ (l : Locate) (v : State) (place tach : Nat), l.phase = .resync place →
      v = s.setTc t { s.tc t with st := .locating, locate := some l } →
      Runs (.fastMoveComplete t tach) v
        (v.setTc t { v.tc t with
          st := .reading, pos := some tach, locate := none
          job := some (.read { r with x := r.x + 1, skip := 0 })
          gov := { (s.tc t).gov with
            a := 256 * ((s.tc t).gov.active.lstart : Int), l := ((s.tc t).gov.active.lstart : Int), evalCount := 0 } })

/-- A compression completes: the coded slice, with its raw bytes' check and the shorter of the token stream and the
raw bytes, is appended to the current block, and the slice buffer is empty. A block of 32 slices, or one that a MARK
or CLOSE waits behind, joins the block queue, the item after it; a job in WAITING whose block queue then meets the
condition starts to stream with its first entry, and stays in WAITING otherwise. The completion of an abandoned one
leaves every context as it is. At every completion the datapath takes the other context if it is ready, otherwise the
same one if it is, and otherwise goes idle; while idle it takes a context that is ready. A write job's context is
ready with a complete slice that no operation has taken, one without a job never. -/
def Obligations.CompressionAppendsTheSlice : Prop :=
  (∀ (s : State) (t : Tr) (x : Ctx), s.cx t = x →
    (∀ (w : WriteJob) (tokens : List Byte), s.dp = some { t := t, decode := false, abandoned := false } →
      (s.tc t).job = some (.write w) → w.abort = .none → w.verdict = none →
      ((s.tc t).st = .waiting → ¬Resumes (s.tc t) (s.tc t).blockQ) → (s.tc t).intake = [] → x.closed = none →
      x.held = none → x.cur.slices + 1 < 32 → tokens = (tokenize x.table x.history x.slice x.cur.raw).out →
      ∃ v u, Runs .compressionComplete s u ∧ NextTaken t v u ∧ (v.cx t).slice = [] ∧ (v.cx t).complete = false ∧
        (v.cx t).cur.slices = x.cur.slices + 1 ∧ (v.cx t).cur.raw = x.cur.raw + x.slice.length ∧
        (v.cx t).cur.payload =
          x.cur.payload ++
            (if tokens.length < x.slice.length then
              1 :: beBytes 2 x.slice.length ++ beBytes 2 tokens.length ++ beBytes 4 (crc32 x.slice).toNat ++ tokens
            else
              2 :: beBytes 2 x.slice.length ++ beBytes 2 x.slice.length ++ beBytes 4 (crc32 x.slice).toNat ++ x.slice) ∧
        (v.cx t).history = (x.history ++ x.slice).drop ((x.history ++ x.slice).length - 4096) ∧
        v.tc t = s.tc t ∧ v.lnk = s.lnk ∧ v.mtb = s.mtb ∧ v.chg = s.chg) ∧
    (∀ (w : WriteJob) (tokens : List Byte) (b : Block) (q : List QEntry),
      s.dp = some { t := t, decode := false, abandoned := false } → (s.tc t).job = some (.write w) →
      w.abort = .none → w.verdict = none → x.closed = none → x.held = none →
      tokens = (tokenize x.table x.history x.slice x.cur.raw).out →
      b = { payload := x.cur.payload ++ codeSlice tokens x.slice, raw := x.cur.raw + x.slice.length,
            slices := x.cur.slices + 1 } →
      (((s.tc t).intake = [] ∧ 32 ≤ b.slices ∧ q = (s.tc t).blockQ ++ [.block b]) ∨
        ∃ i, (s.tc t).intake = [.item i] ∧
          q = (s.tc t).blockQ ++ [.block b, if i = .mark then .mark else .close]) →
      (s.tc t).blockQ.length + 1 < 32 →
      ∃ v u, Runs .compressionComplete s u ∧ NextTaken t v u ∧ (v.cx t).slice = [] ∧ (v.tc t).intake = [] ∧
        (v.cx t).cur = { payload := [], raw := 0, slices := 0 } ∧ v.mtb = s.mtb ∧ v.chg = s.chg ∧
        (((s.tc t).st = .waiting → ¬Resumes (s.tc t) q) →
          v.tc t = { s.tc t with intake := [], blockQ := q } ∧ v.lnk = s.lnk) ∧
        ((s.tc t).st = .waiting → Resumes (s.tc t) q → WriteEntries (s.tc t).blockQ →
          ∀ place, WriteStill (s.setTc t { s.tc t with intake := [] }) t w place →
            WriteStreams s v t w q place)) ∧
    (s.dp = some { t := t, decode := false, abandoned := true } →
      ∃ u, Runs .compressionComplete s u ∧ NextTaken t { s with dp := none } u)) ∧
  (∀ (s : State) (t : Tr), (s.tc t).job = none → s.ready t = false) ∧
  (∀ (s : State) (t : Tr) (w : WriteJob), (s.tc t).job = some (.write w) →
    (s.ready t = true ↔
      (s.cx t).complete = true ∧ s.dp ≠ some { t := t, decode := false, abandoned := false } ∧
        s.dp ≠ some { t := t, decode := true, abandoned := false })) ∧
  ∀ s : State, (s.dp ≠ none → s.dpKick = s) ∧
    (s.dp = none →
      (s.ready .tc0 = true → Taken .tc0 s s.dpKick) ∧
      (s.ready .tc0 = false → s.ready .tc1 = true → Taken .tc1 s s.dpKick) ∧
      (s.ready .tc0 = false → s.ready .tc1 = false → s.dpKick = s))

/-- The decode of a slice completes: a good one checks the bytes delivered, and the context goes on with the next
slice, or after the last the block leaves the queue; a CHECK-mode verify counts its bytes. A faulty one removes the
unchecked bytes. It ends a restore's reading RESTORE_FAULT with the block queue emptied and the filling chunk closed,
and the job once nothing is left to deliver, after an ABORT AT_MARK too. A verify records DECODE_BAD or SLICE_CHECK
and goes on behind the block, with a gap for the block's bytes not placed in COMPARE mode. A block that leaves the
queue of a reading in WAITING lets it read on at the active Lstart once no more entries are left than the resume
threshold. The completion of an abandoned decode changes no transport. A RESTORE_FAULT after the reading has ended
replaces its result. The last slice of a job whose reading has ended ends a CHECK-mode verify, and closes the filling
chunk of a restore. The datapath then chooses as at every completion. A read context is ready when the bytes its next
slice places find room, in CHECK mode always. A taken decode places the slice's bytes from the applied offset on,
unchecked, at the tail of the filling chunk, a new chunk beginning at each 4096. -/
def Obligations.DecodeChecksOrFaultsTheBlock : Prop :=
  (∀ (s : State) (t : Tr) (r : ReadJob) (i : ReadInfo) (b : Block) (out : SliceOut),
    s.dp = some { t := t, decode := true, abandoned := false } → (s.tc t).job = some (.read r) → r.isRestore = true →
    r.ended = none → r.short = none → r.pendingGaps = [] → (s.tc t).st = .reading →
    (s.tc t).blockQ = [.readBlock i b []] → out = decodeNext (s.cx t) b →
    (out.result = .good → b.slices = (s.cx t).next + 1 →
      ∃ v u, Runs .decodeComplete s u ∧ NextTaken t v u ∧ (v.tc t).blockQ = [] ∧ (v.tc t).st = .reading ∧
        (v.tc t).delivery = (s.tc t).delivery.map DItem.check ∧ (v.cx t).ref = false ∧ (v.cx t).history = [] ∧
        v.lnk = s.lnk ∧ v.mtb = s.mtb ∧ v.chg = s.chg)) ∧
  (∀ (s : State) (t : Tr) (r : ReadJob) (i : ReadInfo) (b : Block) (rest : List QEntry) (k : Nat),
    s.dp = some { t := t, decode := true, abandoned := false } → (s.tc t).job = some (.read r) → r.isRestore = true →
    r.short = none → r.pendingGaps = [] → (s.tc t).blockQ = .readBlock i b [] :: rest →
    ((r.ended = none ∧ (s.tc t).st = .reading) ∨
      ((r.ended = some .ok ∨ r.ended = some .endOfData ∨ r.ended = some .readFault) ∧ (s.tc t).st = .waiting)) →
    ((decodeNext (s.cx t) b).result = .decodeError k ∨ (decodeNext (s.cx t) b).result = .checkFault k) →
    ((s.tc t).delivery = [] →
      ∃ v u, Runs .decodeComplete s u ∧ NextTaken t v u ∧ (v.tc t).st = .ready ∧ (v.tc t).pos = (s.tc t).pos ∧
        JobEnded t .restore .restoreFault
          (reportOf v (s.mtb.get (.bay t)) s.free (.read { r with fault := some (i.addr, k) }) .restoreFault) s v) ∧
    ∀ bs closed goesOn, (s.tc t).delivery = [.chunk bs closed goesOn] → (∃ d ∈ bs, d.checked = true) →
      ∃ v u r', Runs .decodeComplete s u ∧ NextTaken t v u ∧ (v.tc t).st = .waiting ∧ (v.tc t).blockQ = [] ∧
        (v.tc t).delivery = [.chunk (bs.filter (·.checked)) true goesOn] ∧ v.cx t = { dir := .read } ∧
        (v.tc t).job = some (.read r') ∧ r'.ended = some .restoreFault ∧ r'.fault = some (i.addr, k) ∧
        r'.readFault = r.readFault) ∧
  (∀ (s : State) (t : Tr) (r : ReadJob) (i : ReadInfo) (b : Block) (out : SliceOut) (res told : JobResult),
    s.dp = some { t := t, decode := true, abandoned := false } → (s.tc t).job = some (.read r) → r.isCompare = false →
    r.ended = some res → res ≠ .restoreFault → r.short = none → r.pendingGaps = [] → (s.tc t).st = .waiting →
    (s.tc t).blockQ = [.readBlock i b []] → out = decodeNext (s.cx t) b → out.result = .good →
    b.slices = (s.cx t).next + 1 →
    told = (if r.atMark then .aborted else if res = .ok ∧ 0 < r.faultCount then .faultsFound else res) →
    ((s.tc t).delivery = [] → (s.tc t).intake = [] → r.isRestore = false →
      ∃ v u, Runs .decodeComplete s u ∧ NextTaken t v u ∧ (v.tc t).st = .ready ∧ (v.tc t).pos = (s.tc t).pos ∧
        JobEnded t .verify told
          (reportOf v (s.mtb.get (.bay t)) s.free (.read { r with rawChecked := r.rawChecked + out.bytes.length }) told)
          s v) ∧
    ∀ bs closed goesOn, (s.tc t).delivery = [.chunk bs closed goesOn] → bs ≠ [] → r.isRestore = true →
      ∃ v u, Runs .decodeComplete s u ∧ NextTaken t v u ∧ (v.tc t).st = .waiting ∧ (v.tc t).blockQ = [] ∧
        (v.tc t).delivery = [.chunk (bs.map fun d => { d with checked := true }) true goesOn]) ∧
  (∀ (s : State) (t : Tr) (r : ReadJob) (i : ReadInfo) (b : Block) (rest : List QEntry) (out : SliceOut),
    s.dp = some { t := t, decode := true, abandoned := false } → (s.tc t).job = some (.read r) → r.isCompare = false →
    r.ended = none → r.short = none → (s.tc t).st = .reading → (s.tc t).blockQ = .readBlock i b [] :: rest →
    out = decodeNext (s.cx t) b → out.result = .good → (s.cx t).next + 1 < b.slices → (s.cx t).ref = true →
    ∃ v u r', Runs .decodeComplete s u ∧ NextTaken t v u ∧ (v.tc t).blockQ = (s.tc t).blockQ ∧
      (v.tc t).job = some (.read r') ∧
      r'.rawChecked = (if r.isRestore then r.rawChecked else r.rawChecked + out.bytes.length) ∧
      (v.cx t).next = (s.cx t).next + 1 ∧ (v.cx t).off = (s.cx t).off + out.size ∧
      (v.cx t).decoded = (s.cx t).decoded + out.bytes.length ∧
      (v.cx t).history =
        ((s.cx t).history ++ out.bytes).drop (((s.cx t).history ++ out.bytes).length - 4096) ∧
      v.lnk = s.lnk ∧ v.mtb = s.mtb) ∧
  (∀ (s : State) (t : Tr) (r : ReadJob) (i j : ReadInfo) (b c : Block) (rest : List QEntry),
    s.dp = some { t := t, decode := true, abandoned := false } → (s.tc t).job = some (.read r) → r.isCompare = false →
    r.ended = none → r.short = none → (s.tc t).st = .waiting →
    (s.tc t).blockQ = .readBlock i b [] :: rest → (rest = [] ∨ ∃ more, rest = .readBlock j c [] :: more) →
    (((decodeNext (s.cx t) b).result = .good ∧ b.slices = (s.cx t).next + 1) ∨
      ((decodeNext (s.cx t) b).result ≠ .good ∧ r.isRestore = false)) →
    ∃ v u, Runs .decodeComplete s u ∧ NextTaken t v u ∧ (v.tc t).blockQ = rest ∧ (v.tc t).pos = (s.tc t).pos ∧
      (v.tc t).st = (if rest.length ≤ (s.tc t).gov.active.resume then .reading else .waiting) ∧
      (v.tc t).gov = (if rest.length ≤ (s.tc t).gov.active.resume then started (s.tc t).gov else (s.tc t).gov) ∧
      v.lnk = s.lnk ∧ v.mtb = s.mtb ∧ v.chg = s.chg) ∧
  (∀ (s : State) (t : Tr) (r : ReadJob) (a : Nat) (range : VerifyRange) (mode : VerifyMode) (policy : FaultPolicy)
    (i : ReadInfo) (b : Block) (out : SliceOut),
    s.dp = some { t := t, decode := true, abandoned := false } → (s.tc t).job = some (.read r) →
    r.spec = .verify a range mode policy → r.ended = none → r.short = none → r.unaligned = false →
    (s.tc t).st = .reading → (s.tc t).blockQ = [.readBlock i b []] → (s.tc t).delivery = [] → (s.tc t).intake = [] →
    out = decodeNext (s.cx t) b → r.faults.length < 32 →
    (out.result = .good → b.slices = (s.cx t).next + 1 →
      ∃ v u, Runs .decodeComplete s u ∧ NextTaken t v u ∧ (v.tc t).blockQ = [] ∧ (v.tc t).st = .reading ∧
        (v.tc t).job = some (.read { r with rawChecked := r.rawChecked + out.bytes.length })) ∧
    ∀ k kind, (out.result = .decodeError k ∧ kind = .decodeBad) ∨ (out.result = .checkFault k ∧ kind = .sliceCheck) →
      ∃ v u, Runs .decodeComplete s u ∧ NextTaken t v u ∧ (v.tc t).blockQ = [] ∧ (v.tc t).st = .reading ∧
        (v.tc t).job = some (.read { r with
          faultCount := r.faultCount + 1, faults := r.faults ++ [{ addr := i.addr, kind := kind, offset := 0 }] }) ∧
        (v.cx t).ref = false ∧
        ((s.cx t).decoded < b.raw → (v.tc t).delivery =
          (if mode = .compare then [.gap (.bytes i.addr (s.cx t).decoded (b.raw - (s.cx t).decoded))] else []))) ∧
  (∀ (s : State) (t : Tr), s.dp = some { t := t, decode := true, abandoned := true } →
    ∃ u, Runs .decodeComplete s u ∧ NextTaken t { s with dp := none } u) ∧
  (∀ (s : State) (t : Tr) (r : ReadJob) (i : ReadInfo) (b : Block) (gaps : List Gap) (rest : List QEntry)
    (begun off : Nat),
    (s.tc t).job = some (.read r) → r.start ≠ none → (s.cx t).dir = .read →
    (s.tc t).blockQ = .readBlock i b gaps :: rest →
    begun = (if (s.cx t).ref then (s.cx t).decoded else 0) → off = (if (s.cx t).ref then (s.cx t).off else 0) →
    (s.ready t = true ↔
      (∀ k, s.dp ≠ some { t := t, decode := k, abandoned := false }) ∧
        ((∃ a range policy, r.spec = .verify a range .check policy) ∨
          begun + nextRaw (b.payload.drop off) - max begun (leftOut r i b) ≤ deliveryRoom (s.tc t).delivery))) ∧
  (∀ (d : List DItem), RestoreQueue d →
    deliveryRoom d =
      (match d.getLast? with | some (.chunk bs false _) => 4096 - bs.length | _ => 0) +
        4096 * (16 - (d.filter fun e => match e with | .chunk _ _ _ => true | _ => false).length)) ∧
  ∀ (bs : List DByte) (d : List DItem), RestoreQueue d →
    (∀ front have_, d = front ++ [.chunk have_ false false] → have_.length ≤ 4096 →
      ∃ more, NewChunks (bs.drop (4096 - have_.length)) more ∧
        deliver bs d = front ++ [.chunk (have_ ++ bs.take (4096 - have_.length)) false false] ++ more) ∧
    ((∀ front have_, d ≠ front ++ [.chunk have_ false false]) →
      ∃ more, NewChunks bs more ∧ deliver bs d = d ++ more)
end

