-- ==== Sys2Proof/Laws/State.lean ====
section
/-! SUPPORT. One lemma per field per update of the state, so that no proof unfolds a record update. -/

namespace Sys2Proof.Machine

variable (s : State) (t : Tr)

@[simp] theorem State.modLnk_lnk (f : Lnk → Lnk) : (s.modLnk f).lnk = f s.lnk := rfl

@[simp] theorem State.modLnk_mtb (f : Lnk → Lnk) : (s.modLnk f).mtb = s.mtb := rfl

@[simp] theorem State.modLnk_chg (f : Lnk → Lnk) : (s.modLnk f).chg = s.chg := rfl

@[simp] theorem State.modLnk_tc0 (f : Lnk → Lnk) : (s.modLnk f).tc0 = s.tc0 := rfl

@[simp] theorem State.modLnk_tc1 (f : Lnk → Lnk) : (s.modLnk f).tc1 = s.tc1 := rfl

@[simp] theorem State.modLnk_cx0 (f : Lnk → Lnk) : (s.modLnk f).cx0 = s.cx0 := rfl

@[simp] theorem State.modLnk_cx1 (f : Lnk → Lnk) : (s.modLnk f).cx1 = s.cx1 := rfl

@[simp] theorem State.modLnk_dp (f : Lnk → Lnk) : (s.modLnk f).dp = s.dp := rfl

@[simp] theorem State.modLnk_free (f : Lnk → Lnk) : (s.modLnk f).free = s.free := rfl

@[simp] theorem State.modLnk_pending (f : Lnk → Lnk) : (s.modLnk f).pending = s.pending := rfl

@[simp] theorem State.modLnk_tc (f : Lnk → Lnk) : (s.modLnk f).tc t = s.tc t := by cases t <;> rfl

@[simp] theorem State.modLnk_cx (f : Lnk → Lnk) : (s.modLnk f).cx t = s.cx t := by cases t <;> rfl

@[simp] theorem State.modMtb_lnk (f : Mtb → Mtb) : (s.modMtb f).lnk = s.lnk := rfl

@[simp] theorem State.modMtb_mtb (f : Mtb → Mtb) : (s.modMtb f).mtb = f s.mtb := rfl

@[simp] theorem State.modMtb_chg (f : Mtb → Mtb) : (s.modMtb f).chg = s.chg := rfl

@[simp] theorem State.modMtb_tc0 (f : Mtb → Mtb) : (s.modMtb f).tc0 = s.tc0 := rfl

@[simp] theorem State.modMtb_tc1 (f : Mtb → Mtb) : (s.modMtb f).tc1 = s.tc1 := rfl

@[simp] theorem State.modMtb_cx0 (f : Mtb → Mtb) : (s.modMtb f).cx0 = s.cx0 := rfl

@[simp] theorem State.modMtb_cx1 (f : Mtb → Mtb) : (s.modMtb f).cx1 = s.cx1 := rfl

@[simp] theorem State.modMtb_dp (f : Mtb → Mtb) : (s.modMtb f).dp = s.dp := rfl

@[simp] theorem State.modMtb_free (f : Mtb → Mtb) : (s.modMtb f).free = s.free := rfl

@[simp] theorem State.modMtb_pending (f : Mtb → Mtb) : (s.modMtb f).pending = s.pending := rfl

@[simp] theorem State.modMtb_tc (f : Mtb → Mtb) : (s.modMtb f).tc t = s.tc t := by cases t <;> rfl

@[simp] theorem State.modMtb_cx (f : Mtb → Mtb) : (s.modMtb f).cx t = s.cx t := by cases t <;> rfl

@[simp] theorem State.modChg_lnk (f : Chg → Chg) : (s.modChg f).lnk = s.lnk := rfl

@[simp] theorem State.modChg_mtb (f : Chg → Chg) : (s.modChg f).mtb = s.mtb := rfl

@[simp] theorem State.modChg_chg (f : Chg → Chg) : (s.modChg f).chg = f s.chg := rfl

@[simp] theorem State.modChg_tc0 (f : Chg → Chg) : (s.modChg f).tc0 = s.tc0 := rfl

@[simp] theorem State.modChg_tc1 (f : Chg → Chg) : (s.modChg f).tc1 = s.tc1 := rfl

@[simp] theorem State.modChg_cx0 (f : Chg → Chg) : (s.modChg f).cx0 = s.cx0 := rfl

@[simp] theorem State.modChg_cx1 (f : Chg → Chg) : (s.modChg f).cx1 = s.cx1 := rfl

@[simp] theorem State.modChg_dp (f : Chg → Chg) : (s.modChg f).dp = s.dp := rfl

@[simp] theorem State.modChg_free (f : Chg → Chg) : (s.modChg f).free = s.free := rfl

@[simp] theorem State.modChg_pending (f : Chg → Chg) : (s.modChg f).pending = s.pending := rfl

@[simp] theorem State.modChg_tc (f : Chg → Chg) : (s.modChg f).tc t = s.tc t := by cases t <;> rfl

@[simp] theorem State.modChg_cx (f : Chg → Chg) : (s.modChg f).cx t = s.cx t := by cases t <;> rfl

@[simp] theorem State.setTc_lnk (c : Tc) : (s.setTc t c).lnk = s.lnk := by cases t <;> rfl

@[simp] theorem State.modTc_lnk (f : Tc → Tc) : (s.modTc t f).lnk = s.lnk := by cases t <;> rfl

@[simp] theorem State.setTc_mtb (c : Tc) : (s.setTc t c).mtb = s.mtb := by cases t <;> rfl

@[simp] theorem State.modTc_mtb (f : Tc → Tc) : (s.modTc t f).mtb = s.mtb := by cases t <;> rfl

@[simp] theorem State.setTc_chg (c : Tc) : (s.setTc t c).chg = s.chg := by cases t <;> rfl

@[simp] theorem State.modTc_chg (f : Tc → Tc) : (s.modTc t f).chg = s.chg := by cases t <;> rfl

@[simp] theorem State.setTc_cx0 (c : Tc) : (s.setTc t c).cx0 = s.cx0 := by cases t <;> rfl

@[simp] theorem State.modTc_cx0 (f : Tc → Tc) : (s.modTc t f).cx0 = s.cx0 := by cases t <;> rfl

@[simp] theorem State.setTc_cx1 (c : Tc) : (s.setTc t c).cx1 = s.cx1 := by cases t <;> rfl

@[simp] theorem State.modTc_cx1 (f : Tc → Tc) : (s.modTc t f).cx1 = s.cx1 := by cases t <;> rfl

@[simp] theorem State.setTc_dp (c : Tc) : (s.setTc t c).dp = s.dp := by cases t <;> rfl

@[simp] theorem State.modTc_dp (f : Tc → Tc) : (s.modTc t f).dp = s.dp := by cases t <;> rfl

@[simp] theorem State.setTc_free (c : Tc) : (s.setTc t c).free = s.free := by cases t <;> rfl

@[simp] theorem State.modTc_free (f : Tc → Tc) : (s.modTc t f).free = s.free := by cases t <;> rfl

@[simp] theorem State.setTc_pending (c : Tc) : (s.setTc t c).pending = s.pending := by cases t <;> rfl

@[simp] theorem State.modTc_pending (f : Tc → Tc) : (s.modTc t f).pending = s.pending := by cases t <;> rfl

@[simp] theorem State.setCx_lnk (x : Ctx) : (s.setCx t x).lnk = s.lnk := by cases t <;> rfl

@[simp] theorem State.setCx_mtb (x : Ctx) : (s.setCx t x).mtb = s.mtb := by cases t <;> rfl

@[simp] theorem State.setCx_chg (x : Ctx) : (s.setCx t x).chg = s.chg := by cases t <;> rfl

@[simp] theorem State.setCx_tc0 (x : Ctx) : (s.setCx t x).tc0 = s.tc0 := by cases t <;> rfl

@[simp] theorem State.setCx_tc1 (x : Ctx) : (s.setCx t x).tc1 = s.tc1 := by cases t <;> rfl

@[simp] theorem State.setCx_dp (x : Ctx) : (s.setCx t x).dp = s.dp := by cases t <;> rfl

@[simp] theorem State.setCx_free (x : Ctx) : (s.setCx t x).free = s.free := by cases t <;> rfl

@[simp] theorem State.setCx_pending (x : Ctx) : (s.setCx t x).pending = s.pending := by cases t <;> rfl

@[simp] theorem State.setTc_tc (c : Tc) : (s.setTc t c).tc t = c := by cases t <;> rfl

@[simp] theorem State.setTc_tc_other (c : Tc) : (s.setTc t c).tc t.other = s.tc t.other := by cases t <;> rfl

@[simp] theorem State.modTc_tc (f : Tc → Tc) : (s.modTc t f).tc t = f (s.tc t) := by cases t <;> rfl

@[simp] theorem State.modTc_tc_other (f : Tc → Tc) : (s.modTc t f).tc t.other = s.tc t.other := by cases t <;> rfl

@[simp] theorem State.setCx_cx (x : Ctx) : (s.setCx t x).cx t = x := by cases t <;> rfl

@[simp] theorem State.setCx_cx_other (x : Ctx) : (s.setCx t x).cx t.other = s.cx t.other := by cases t <;> rfl

@[simp] theorem State.setTc_cx (u : Tr) (c : Tc) : (s.setTc t c).cx u = s.cx u := by cases t <;> cases u <;> rfl

@[simp] theorem State.modTc_cx (u : Tr) (f : Tc → Tc) : (s.modTc t f).cx u = s.cx u := by cases t <;> cases u <;> rfl

@[simp] theorem State.setCx_tc (u : Tr) (x : Ctx) : (s.setCx t x).tc u = s.tc u := by cases t <;> cases u <;> rfl

@[simp] theorem State.notify_mtb (n : Notice) : (s.notify n).mtb = s.mtb := rfl

@[simp] theorem State.notify_chg (n : Notice) : (s.notify n).chg = s.chg := rfl

@[simp] theorem State.notify_tc0 (n : Notice) : (s.notify n).tc0 = s.tc0 := rfl

@[simp] theorem State.notify_tc1 (n : Notice) : (s.notify n).tc1 = s.tc1 := rfl

@[simp] theorem State.notify_cx0 (n : Notice) : (s.notify n).cx0 = s.cx0 := rfl

@[simp] theorem State.notify_cx1 (n : Notice) : (s.notify n).cx1 = s.cx1 := rfl

@[simp] theorem State.notify_dp (n : Notice) : (s.notify n).dp = s.dp := rfl

@[simp] theorem State.notify_free (n : Notice) : (s.notify n).free = s.free := rfl

@[simp] theorem State.notify_pending (n : Notice) : (s.notify n).pending = s.pending := rfl

@[simp] theorem State.notify_tc (n : Notice) : (s.notify n).tc t = s.tc t := by cases t <;> rfl

@[simp] theorem State.reply_mtb (ch : Chan) (tag code : Byte) (b : ReplyBody) : (s.reply ch tag code b).mtb = s.mtb := rfl

@[simp] theorem State.reply_chg (ch : Chan) (tag code : Byte) (b : ReplyBody) : (s.reply ch tag code b).chg = s.chg := rfl

@[simp] theorem State.reply_tc0 (ch : Chan) (tag code : Byte) (b : ReplyBody) : (s.reply ch tag code b).tc0 = s.tc0 := rfl

@[simp] theorem State.reply_tc1 (ch : Chan) (tag code : Byte) (b : ReplyBody) : (s.reply ch tag code b).tc1 = s.tc1 := rfl

@[simp] theorem State.reply_cx0 (ch : Chan) (tag code : Byte) (b : ReplyBody) : (s.reply ch tag code b).cx0 = s.cx0 := rfl

@[simp] theorem State.reply_cx1 (ch : Chan) (tag code : Byte) (b : ReplyBody) : (s.reply ch tag code b).cx1 = s.cx1 := rfl

@[simp] theorem State.reply_dp (ch : Chan) (tag code : Byte) (b : ReplyBody) : (s.reply ch tag code b).dp = s.dp := rfl

@[simp] theorem State.reply_free (ch : Chan) (tag code : Byte) (b : ReplyBody) : (s.reply ch tag code b).free = s.free := rfl

@[simp] theorem State.reply_pending (ch : Chan) (tag code : Byte) (b : ReplyBody) : (s.reply ch tag code b).pending = s.pending := rfl

@[simp] theorem State.reply_tc (ch : Chan) (tag code : Byte) (b : ReplyBody) : (s.reply ch tag code b).tc t = s.tc t := by cases t <;> rfl

@[simp] theorem State.notify_lnk (n : Notice) : (s.notify n).lnk = s.lnk.pushNotice n := rfl

@[simp] theorem State.reply_lnk (ch : Chan) (tag code : Byte) (b : ReplyBody) :
    (s.reply ch tag code b).lnk = s.lnk.pushReply { chan := ch, tag, code, body := b } := rfl

@[simp] theorem Tc.goto_pos (c : Tc) (st : TcState) : (c.goto st).pos = c.pos := by unfold Tc.goto; split <;> rfl

@[simp] theorem Tc.stream_pos (c : Tc) (st : TcState) : (c.stream st).pos = c.pos := rfl

@[simp] theorem Tc.goto_job (c : Tc) (st : TcState) : (c.goto st).job = c.job := by unfold Tc.goto; split <;> rfl

@[simp] theorem Tc.stream_job (c : Tc) (st : TcState) : (c.stream st).job = c.job := rfl

@[simp] theorem Tc.goto_locate (c : Tc) (st : TcState) : (c.goto st).locate = c.locate := by unfold Tc.goto; split <;> rfl

@[simp] theorem Tc.stream_locate (c : Tc) (st : TcState) : (c.stream st).locate = c.locate := rfl

@[simp] theorem Tc.goto_intake (c : Tc) (st : TcState) : (c.goto st).intake = c.intake := by unfold Tc.goto; split <;> rfl

@[simp] theorem Tc.stream_intake (c : Tc) (st : TcState) : (c.stream st).intake = c.intake := rfl

@[simp] theorem Tc.goto_blockQ (c : Tc) (st : TcState) : (c.goto st).blockQ = c.blockQ := by unfold Tc.goto; split <;> rfl

@[simp] theorem Tc.stream_blockQ (c : Tc) (st : TcState) : (c.stream st).blockQ = c.blockQ := rfl

@[simp] theorem Tc.goto_inflight (c : Tc) (st : TcState) : (c.goto st).inflight = c.inflight := by unfold Tc.goto; split <;> rfl

@[simp] theorem Tc.stream_inflight (c : Tc) (st : TcState) : (c.stream st).inflight = c.inflight := rfl

@[simp] theorem Tc.goto_rewrite (c : Tc) (st : TcState) : (c.goto st).rewrite = c.rewrite := by unfold Tc.goto; split <;> rfl

@[simp] theorem Tc.stream_rewrite (c : Tc) (st : TcState) : (c.stream st).rewrite = c.rewrite := rfl

@[simp] theorem Tc.goto_delivery (c : Tc) (st : TcState) : (c.goto st).delivery = c.delivery := by unfold Tc.goto; split <;> rfl

@[simp] theorem Tc.stream_delivery (c : Tc) (st : TcState) : (c.stream st).delivery = c.delivery := rfl

@[simp] theorem Tc.goto_pendingCredits (c : Tc) (st : TcState) : (c.goto st).pendingCredits = c.pendingCredits := by unfold Tc.goto; split <;> rfl

@[simp] theorem Tc.stream_pendingCredits (c : Tc) (st : TcState) : (c.stream st).pendingCredits = c.pendingCredits := rfl

@[simp] theorem Tc.goto_granted (c : Tc) (st : TcState) : (c.goto st).granted = c.granted := by unfold Tc.goto; split <;> rfl

@[simp] theorem Tc.stream_granted (c : Tc) (st : TcState) : (c.stream st).granted = c.granted := rfl

@[simp] theorem Tc.goto_labelCount (c : Tc) (st : TcState) : (c.goto st).labelCount = c.labelCount := by unfold Tc.goto; split <;> rfl

@[simp] theorem Tc.stream_labelCount (c : Tc) (st : TcState) : (c.stream st).labelCount = c.labelCount := rfl

@[simp] theorem Tc.goto_watch (c : Tc) (st : TcState) : (c.goto st).watch = c.watch := by unfold Tc.goto; split <;> rfl

@[simp] theorem Tc.stream_watch (c : Tc) (st : TcState) : (c.stream st).watch = c.watch := rfl

@[simp] theorem Tc.goto_st (c : Tc) (st : TcState) : (c.goto st).st = st := by unfold Tc.goto; split <;> rfl

@[simp] theorem Tc.stream_st (c : Tc) (st : TcState) : (c.stream st).st = st := rfl

end Sys2Proof.Machine
end

