-- ==== Sys2Proof/Laws/Ops.lean ====
section
/-! SUPPORT. What the shared operations can do, said once: the media table, the two outbound queues, credits, the gate
of requests, the accumulator of the governor, the ends and reports of jobs, the position of a locate, read faults and
the end-of-data search, and the parts of `settle`. -/

namespace Sys2Proof.Machine

/-! ## The media table -/

theorem Loc.idx_inj {a b : Loc} (h : a.idx = b.idx) : a = b := by
  have h' : a.idx.val = b.idx.val := congrArg Fin.val h
  rcases a with i | _ | t | _ <;> rcases b with j | _ | u | _ <;> try cases t
  all_goals try cases u
  all_goals simp [Loc.idx] at h' ⊢
  all_goals omega

@[simp] theorem Mtb.get_put (m : Mtb) (l : Loc) (r : Option CartRecord) : (m.put l r).get l = r := by
  simp [Mtb.get, Mtb.put]

theorem Mtb.get_put_of_ne (m : Mtb) {l k : Loc} (r : Option CartRecord) (h : k ≠ l) : (m.put l r).get k = m.get k := by
  have : l.idx.val ≠ k.idx.val := fun e => h (Loc.idx_inj (Fin.ext e)).symm
  simp [Mtb.get, Mtb.put, this]

/-- Settling changes the DUPLICATE flag of a record and nothing else (R6). -/
theorem Mtb.get_settle (m : Mtb) (l : Loc) :
    m.settle.get l = (m.get l).map fun r => { r with duplicate := m.clash l.idx } := by
  simp [Mtb.get, Mtb.settle]

@[simp] theorem Mtb.get_remove (m : Mtb) (l : Loc) : (m.remove l).get l = none := by
  simp [Mtb.remove, Mtb.get_settle]

@[simp] theorem Mtb.get_modify (m : Mtb) (l : Loc) (f : CartRecord → CartRecord) :
    (m.modify l f).get l = (m.get l).map f := by simp [Mtb.modify]

theorem Mtb.get_modify_of_ne (m : Mtb) {l k : Loc} (f : CartRecord → CartRecord) (h : k ≠ l) :
    (m.modify l f).get k = m.get k := by simp [Mtb.modify, Mtb.get_put_of_ne _ _ h]

@[simp] theorem Mtb.get_setBayValues (m : Mtb) (t : Tr) (v : Option BayValues) (l : Loc) :
    (m.setBayValues t v).get l = m.get l := by cases t <;> rfl

/-- Whether two records hold equal labels does not depend on their DUPLICATE flags (R6). -/
@[simp] theorem sameLabel_duplicate (a b : Option CartRecord) (x y : Bool) :
    sameLabel (a.map fun r => { r with duplicate := x }) (b.map fun r => { r with duplicate := y }) = sameLabel a b := by
  cases a <;> cases b <;> rfl

@[simp] theorem Mtb.clash_settle (m : Mtb) (i : Fin 20) : m.settle.clash i = m.clash i := by
  simp [Mtb.clash, Mtb.settle]

/-- Settled flags stay settled (R6). -/
@[simp] theorem Mtb.settle_settle (m : Mtb) : m.settle.settle = m.settle := by
  have h : ∀ i, m.settle.clash i = m.clash i := m.clash_settle
  unfold Mtb.settle at h ⊢
  simp only [h, Mtb.mk.injEq, and_self, and_true]
  ext i hi : 1
  simp [Function.comp_def]

/-- The flags are settled exactly when every record carries the flag that its label calls for (R6). -/
theorem Mtb.settle_eq_self_iff (m : Mtb) :
    m.settle = m ↔ ∀ (i : Fin 20) (r : CartRecord), m.entries[i] = some r → r.duplicate = m.clash i := by
  constructor
  · intro h i r hr
    have e : (m.settle.entries)[i] = m.entries[i] := by rw [h]
    simp only [Mtb.settle, Fin.getElem_fin, Vector.getElem_ofFn, Fin.eta] at e
    rw [Fin.getElem_fin] at hr
    rw [hr] at e
    simpa using (congrArg CartRecord.duplicate (Option.some.inj e)).symm
  · intro h
    unfold Mtb.settle
    rcases m with ⟨entries, b0, b1⟩
    simp only [Mtb.mk.injEq, and_self, and_true]
    ext i hi : 1
    have hi' := h ⟨i, hi⟩
    simp only [Fin.getElem_fin] at hi'
    simp only [Vector.getElem_ofFn, Fin.getElem_fin]
    cases hr : entries[i] with
    | none => rfl
    | some r => simp [← hi' r hr]

/-! ## Replies and notices -/

/-- A notice is queued, or lost at a full queue (R176). -/
theorem Lnk.pushNotice_cases (l : Lnk) (n : Notice) :
    (l.notices.length < 32 ∧ l.pushNotice n = { l with notices := l.notices ++ [n] }) ∨
      (32 ≤ l.notices.length ∧ l.pushNotice n = { l with lost := true }) := by
  unfold Lnk.pushNotice Config.noticeMax
  split <;> rename_i h
  · exact .inl ⟨h, rfl⟩
  · exact .inr ⟨Nat.le_of_not_lt h, rfl⟩

theorem Lnk.pushNotice_bound (l : Lnk) (n : Notice) (h : l.notices.length ≤ 32) :
    (l.pushNotice n).notices.length ≤ 32 := by
  rcases l.pushNotice_cases n with ⟨h1, e⟩ | ⟨_, e⟩ <;> rw [e] <;> simp <;> omega

@[simp] theorem Lnk.pushNotice_replies (l : Lnk) (n : Notice) : (l.pushNotice n).replies = l.replies := by
  unfold Lnk.pushNotice; split <;> rfl

@[simp] theorem Lnk.pushNotice_lane (l : Lnk) (n : Notice) : (l.pushNotice n).lane = l.lane := by
  unfold Lnk.pushNotice; split <;> rfl

@[simp] theorem Lnk.pushNotice_inbound (l : Lnk) (n : Notice) : (l.pushNotice n).inbound = l.inbound := by
  unfold Lnk.pushNotice; split <;> rfl

@[simp] theorem Lnk.pushNotice_hostHold (l : Lnk) (n : Notice) : (l.pushNotice n).hostHold = l.hostHold := by
  unfold Lnk.pushNotice; split <;> rfl

@[simp] theorem Lnk.pushNotice_resetting (l : Lnk) (n : Notice) : (l.pushNotice n).resetting = l.resetting := by
  unfold Lnk.pushNotice; split <;> rfl

/-- What the gate makes of a request: nothing after a RESET_ENGINE, a link error without a place for the reply, and
otherwise what its block makes of it (R172, R184). -/
theorem State.gate_cases (s : State) (f : State → State) :
    (s.lnk.resetting = true ∧ s.gate f = s) ∨
      (s.lnk.resetting = false ∧ 16 ≤ s.lnk.replies.length ∧ s.gate f = s.modLnk Lnk.linkError) ∨
      (s.lnk.resetting = false ∧ s.lnk.replies.length < 16 ∧ s.gate f = f s) := by
  unfold State.gate Config.replyMax
  cases h : s.lnk.resetting
  · by_cases h2 : 16 ≤ s.lnk.replies.length
    · exact .inr (.inl ⟨rfl, h2, by simp [h2]⟩)
    · exact .inr (.inr ⟨rfl, by omega, by simp [h2]⟩)
  · exact .inl ⟨rfl, by simp⟩

theorem State.gate_open {s : State} (f : State → State) (h1 : s.lnk.resetting = false)
    (h2 : s.lnk.replies.length < 16) : s.gate f = f s := by
  simp [State.gate, h1, Config.replyMax, Nat.not_le.mpr h2]

/-! ## Credits -/

section
variable (s : State) (t u : Tr)

@[simp] theorem State.formCredit_mtb : (s.formCredit t).mtb = s.mtb := by
  unfold State.formCredit; dsimp only; split; · rfl
  split <;> simp

@[simp] theorem State.formCredit_chg : (s.formCredit t).chg = s.chg := by
  unfold State.formCredit; dsimp only; split; · rfl
  split <;> simp

@[simp] theorem State.formCredit_dp : (s.formCredit t).dp = s.dp := by
  unfold State.formCredit; dsimp only; split; · rfl
  split <;> simp

/-- Forming a CREDIT notice moves the pending credits of its transport to those granted (R108). -/
theorem State.formCredit_tc :
    ((s.formCredit t).tc t).granted + ((s.formCredit t).tc t).pendingCredits =
      (s.tc t).granted + (s.tc t).pendingCredits := by
  unfold State.formCredit
  dsimp only
  split
  · rfl
  · split
    · rfl
    · simp

end

/-! ## The governor -/

theorem GovSet.clampA_bounds (g : GovSet) (a : Int) (h : g.lmin ≤ g.lmax) :
    256 * (g.lmin : Int) ≤ g.clampA a ∧ g.clampA a ≤ 256 * (g.lmax : Int) := by
  unfold GovSet.clampA; omega

/-- The level of a whole multiple of 256 (R137). -/
@[simp] theorem levelOf_mul (n : Int) : levelOf (256 * n) = n := by unfold levelOf; omega

theorem clampNat_bounds (lo hi v : Nat) (h : lo ≤ hi) : lo ≤ clampNat lo hi v ∧ clampNat lo hi v ≤ hi := by
  unfold clampNat; omega

/-! ## Jobs and their reports -/

/-- What can end a reading at an acceptance, in this order: the job's own condition, the end bound, an ABORT's mark
(R84, R147, R154, R162). -/
theorem ReadJob.endsAt_cases (r : ReadJob) (mark : Bool) :
    (r.meets mark = true ∧ r.endsAt mark = some .ok) ∨
      (r.meets mark = false ∧ r.bound = some r.x ∧ r.endsAt mark = some r.atEnd) ∨
      (r.meets mark = false ∧ r.bound ≠ some r.x ∧ r.atMark = true ∧ mark = true ∧ r.endsAt mark = some .aborted) ∨
      (r.meets mark = false ∧ r.bound ≠ some r.x ∧ (r.atMark = false ∨ mark = false) ∧ r.endsAt mark = none) := by
  unfold ReadJob.endsAt
  cases h1 : r.meets mark <;> by_cases h2 : r.bound = some r.x <;> cases h3 : r.atMark <;> cases mark <;> simp [h2]

/-- The resume point is absent when the range was delivered whole, and otherwise as the job holds it (R165). -/
theorem ReadJob.resumePoint_cases (r : ReadJob) (res : JobResult) :
    ((res = .ok ∨ (res = .aborted ∧ r.ended = some .ok)) ∧ r.resumePoint res = none) ∨
      (¬(res = .ok ∨ (res = .aborted ∧ r.ended = some .ok)) ∧ r.resumePoint res = r.resume) := by
  unfold ReadJob.resumePoint; split <;> simp_all

theorem State.loadCountTold_of_record {s : State} {t : Tr} {r : CartRecord} (h : s.mtb.get (.bay t) = some r) :
    s.loadCountTold t = (r.loadCount, s) := by simp [State.loadCountTold, State.bayRecord, h]

theorem State.loadCountTold_of_none {s : State} {t : Tr} (h : s.mtb.get (.bay t) = none) :
    s.loadCountTold t = (Config.unstated s.free, { s with free := s.free + 1 }) := by
  simp [State.loadCountTold, State.bayRecord, State.draw, h]

/-! ## The estimate and the position of a locate -/

/-- The starting point of a locate is an entry of the map not above the address sought, and none of those is above it; there
is none exactly when every entry is above the address (R61). -/
theorem entryFor_spec (m : List MapEntry) (a : Nat) :
    match entryFor m a with
    | some b => b ∈ m ∧ b.addr ≤ a ∧ ∀ e ∈ m, e.addr ≤ a → e.addr ≤ b.addr
    | none => ∀ e ∈ m, a < e.addr := by
  induction m with
  | nil => simp [entryFor]
  | cons e m ih =>
    cases hb : entryFor m a with
    | none =>
      simp only [hb] at ih
      by_cases he : e.addr ≤ a
      · simp only [entryFor, hb, if_pos he]
        exact ⟨by simp, he, fun x hx hxa => (List.mem_cons.mp hx).elim (fun h => by simp [h]) fun h => by
          have := ih x h; omega⟩
      · simp only [entryFor, hb, if_neg he]
        exact fun x hx => (List.mem_cons.mp hx).elim (fun h => by rw [h]; omega) (ih x)
    | some b =>
      simp only [hb] at ih
      by_cases he : e.addr ≤ a ∧ b.addr < e.addr
      · simp only [entryFor, hb, if_pos he]
        exact ⟨by simp, he.1, fun x hx hxa => (List.mem_cons.mp hx).elim (fun h => by simp [h]) fun h => by
          have := ih.2.2 x h hxa; omega⟩
      · simp only [entryFor, hb, if_neg he]
        exact ⟨by simp [ih.1], ih.2.1, fun x hx hxa => (List.mem_cons.mp hx).elim (fun h => by subst h; omega)
          fun h => ih.2.2 x h hxa⟩

/-- What a locate notes of a frame: the frame number of a good header, and nothing of another (R65). -/
theorem Locate.noted_cases (l : Locate) (raw : RawFrame) :
    (∃ f, readFrame raw = some f ∧ l.noted raw = { l with lastHeader := some f.hdr.frame }) ∨
      (readFrame raw = none ∧ l.noted raw = l) := by
  unfold Locate.noted; cases readFrame raw <;> simp

@[simp] theorem Locate.noted_phase (l : Locate) (raw : RawFrame) : (l.noted raw).phase = l.phase := by
  obtain ⟨f, _, h⟩ | ⟨_, h⟩ := l.noted_cases raw <;> rw [h]

@[simp] theorem Locate.retry_lastHeader (l : Locate) (target : Nat) : (l.retry target).lastHeader = none := rfl
@[simp] theorem Locate.retry_tries (l : Locate) (target : Nat) : (l.retry target).tries = l.tries + 1 := rfl
@[simp] theorem Locate.retry_phase (l : Locate) (target : Nat) : (l.retry target).phase = .fast (max 1 target) := rfl

/-- Where an ABORT stops the tape (R65): the tachometer's frame in a fast move; else the frame after the last good header
read since; else, and without a locate, the position held (log entry 61). -/
theorem Tc.abortPos_cases (c : Tc) (tach : Nat) :
    (∃ l, c.locate = some l ∧ l.fastMoving = true ∧ c.abortPos tach = some tach) ∨
      (∃ l p, c.locate = some l ∧ l.fastMoving = false ∧ l.lastHeader = some p ∧ c.abortPos tach = some (p + 1)) ∨
      ((∀ l, c.locate = some l → l.fastMoving = false ∧ l.lastHeader = none) ∧ c.abortPos tach = c.pos) := by
  unfold Tc.abortPos
  cases hl : c.locate with
  | none => simp
  | some l => cases hp : l.phase <;> cases hh : l.lastHeader <;> simp [Locate.fastMoving, hp, hh]

/-! ## Read faults and the end-of-data search -/

/-- A read fault leaves the reading at x and at its skip run (R160). -/
@[simp] theorem ReadJob.unreadable_x (r : ReadJob) : r.unreadable.x = r.x := by
  unfold ReadJob.unreadable ReadJob.record; dsimp only

@[simp] theorem ReadJob.unreadable_skip (r : ReadJob) : r.unreadable.skip = r.skip := by
  unfold ReadJob.unreadable ReadJob.record; dsimp only

@[simp] theorem ReadJob.past_x (r : ReadJob) : r.past.x = r.x + 1 := rfl
@[simp] theorem ReadJob.past_skip (r : ReadJob) : r.past.skip = 0 := rfl
@[simp] theorem ReadJob.past_spec (r : ReadJob) : r.past.spec = r.spec := rfl

/-- The end-of-data search takes a frame without a good header by its run, any other by the accept rule (R66, R82). -/
theorem State.searchFrame_cases (s : State) (t : Tr) (l : Locate) (sr : Search) (raw : RawFrame) :
    (readFrame raw = none ∧
        s.searchFrame t l sr raw =
          (s.modTc t fun c => c.passed raw).searchLost t l { sr with run := sr.run + 1 }) ∨
      ∃ f, readFrame raw = some f ∧
        s.searchFrame t l sr raw =
          (s.modTc t fun c => c.passed raw).searchAccept t l { sr with lastGood := some f.hdr.frame, run := 0 } raw := by
  unfold State.searchFrame Search.track; cases readFrame raw <;> simp

/-! ## The parts of settling -/

theorem State.chgWatch_of_not_waiting {s : State} (h : s.chg.st ≠ .waitBay) : s.chgWatch = s := by
  unfold State.chgWatch; split <;> simp_all

theorem State.chgDrive_of_not_running {s : State} (h : s.chg.st ≠ .running ∨ s.chg.step ≠ none) : s.chgDrive = s := by
  unfold State.chgDrive State.chgDriveN
  rw [if_neg]; rintro ⟨h1, h2⟩; cases h <;> contradiction

theorem State.dpKick_of_busy {s : State} (h : s.dp ≠ none) : s.dpKick = s := by
  unfold State.dpKick; rw [if_pos]; exact Option.isSome_iff_ne_none.mpr h

theorem State.dpKick_of_not_ready {s : State} (h0 : s.ready .tc0 = false) (h1 : s.ready .tc1 = false) :
    s.dpKick = s := by
  unfold State.dpKick; simp [h0, h1]

/-- An idle transport asks nothing of the datapath or the lane. -/
theorem State.not_ready_of_no_job {s : State} {t : Tr} (h : (s.tc t).job = none) :
    s.ready t = false ∧ s.dataReady t = false := by
  simp [State.ready, State.writeReady, State.readReady, State.dataReady, Tc.isWrite, Tc.readJob, h]

end Sys2Proof.Machine
end

