-- ==== Sys2Proof/Tests/Slice0.lean ====
section
/-! SUPPORT. Tests: values written out from the spec's tables and worked cases, and for every statement of
Obligations.lean concrete states and operands that meet its hypotheses, clause by clause. -/

namespace Sys2Proof.Tests

open Sys2Proof Sys2Proof.Machine Sys2Proof.Claims

/-! ## Small states -/

/-- The engine with the changer IDLE and the receiver at a frame boundary. -/
def idle : State := { State.reset with chg := { st := .idle }, lnk := { rx := .boundary } }

/-- The cartridge in D0: a T1, its tab clear. -/
def tape : CartRecord := { cls := some .t1, protect := some .clear }

/-- TC0 in a condition, with a cartridge in D0. -/
def bay (c : Tc) (r : CartRecord := tape) : State := { idle with tc0 := c, mtb := ({} : Mtb).put (.bay .tc0) (some r) }

/-- TC0 running a job in a state. -/
def job (st : TcState) (j : Job) (r : CartRecord := tape) : State := bay { st := st, pos := some 100, job := some j } r

/-- TC0 locating for a job. -/
def locate (j : Job) (l : Locate) (r : CartRecord := tape) : State :=
  { bay { st := .locating, pos := some 100, job := some j, locate := some l } r with cx0 := { dir := .write } }

/-- The changer in a condition, with a cartridge in S0 and one in H. -/
def changer (c : Chg) : State :=
  { idle with chg := c, mtb := (({} : Mtb).put (.slot 0) (some {})).put .hand (some {}) }

/-- A move from S0 to S1, one from S0 to D0, and a scan of S0 to M. -/
def move : Order := .move (.slot 0) (.slot 1) false 7
def moveBay : Order := .move (.slot 0) (.bay .tc0) true 7
def scan : Order := .scan 0 16

/-- Twelve printable characters: NIGHTLY-0001. -/
def chars : List Byte := [0x4E, 0x49, 0x47, 0x48, 0x54, 0x4C, 0x59, 0x2D, 0x30, 0x30, 0x30, 0x31]

/-- A frame as written, as the read head gives it back. -/
def asRead (h : Header) (payload : List Byte) : RawFrame := .bytes h.bytes payload

/-- An EOD frame, a mark and a one-byte block. -/
def eodHdr (frame addr : Nat) : Header := mkHeader .eod 0 frame addr 0 0 0 []
def oneByte : List Byte := codeSlice [0x00, 0x41] [0x41]
def dataHdr (frame addr : Nat) : Header := mkHeader .data 0 frame addr 0 1 1 oneByte
def eodRead (frame addr : Nat) : ReadFrame := { hdr := eodHdr frame addr, payload := [], payGood := true }
def dataRead (frame addr : Nat) : ReadFrame := { hdr := dataHdr frame addr, payload := oneByte, payGood := true }
def block : Block := { payload := oneByte, raw := 1, slices := 1 }

/-- A write job under way, and a frame of it. -/
def writing : WriteJob := { mode := .append, limit := 4, start := some 0, nextAddr := 1, wrote := true }
def entry : WEntry := { block := some block, addr := 0, file := 0, rewrites := 0 }
def frame : WFrame := { hdr := dataHdr 10 0, payload := oneByte, entry := some entry, fromRewrite := false }
def eodFrame : WFrame := { hdr := eodHdr 10 1, payload := [], entry := none, fromRewrite := false }

/-- A restore to the end of data. -/
def reading : ReadJob := { spec := .restore 0 .toEod, x := 0 }

/-- A locate in a phase. -/
def seek (writes : Bool) (phase : LocPhase) : Locate :=
  { writing := writes, goal := .address, a := 5, e := 50, x := 5, phase := phase }

theorem takes_of {s : State} (h : s.lnk.resetting = false ∧ s.lnk.replies.length < 16) : Takes s := h

/-! ## WellFormed refuses what no lane, note or tape can give -/

theorem test_wf_chunk (bytes : List Byte) (h : bytes.length = 4097) : Instr.wf (.dataIn .tc0 bytes) = false := by
  simp only [Instr.wf, h]; decide
theorem test_wf_label : Instr.wf (.label .tc0 1 [0x41]) = false := by decide
theorem test_wf_note : Instr.wf (.noteReadComplete (some [0x3C])) = false := by decide
theorem test_wf_identify_header : Instr.wf (.identifyFrameRead .tc0 (.bytes [0] [])) = false := by decide
theorem test_wf_locate_header : Instr.wf (.locateFrameRead .tc0 (.bytes [0] [])) = false := by decide
theorem test_wf_search_header : Instr.wf (.eodSearchFrameRead .tc0 (.bytes [] [])) = false := by decide
theorem test_wf_reading_header : Instr.wf (.readingFrameRead .tc1 (.bytes [1] [])) = false := by decide
theorem test_wf_read_back_header : Instr.wf (.readBackResult .tc1 0 (.bytes [2] [])) = false := by decide
theorem test_wf_payload (header payload : List Byte) (h : header.length = 27) (hp : payload.length = 32769) :
    RawFrame.wf (.bytes header payload) = false := by
  simp only [RawFrame.wf, h, hp]; decide
theorem test_wf_request_label : Request.wf (.label [0x41]) = false := by decide
theorem test_wf_takes (bytes : List Byte) (h : bytes.length = 4096) : Instr.wf (.dataIn .tc0 bytes) = true := by
  simp only [Instr.wf, h]; decide

/-! ## Decoding: payloads written out from R173's table -/

theorem test_word_spells_none : decodeTableWord 8 0x01 = none := rfl
theorem test_decode_status : decodeRequest .engine [0x02, 0x01] = .ok (.status true) := rfl
theorem test_decode_move :
    decodeRequest .changer [0x10, 0x10, 0x11, 0x01, 0x00, 0x05] = .ok (.move 16 17 true 5) := rfl
theorem test_decode_scan : decodeRequest .changer [0x11, 0x00, 0x10] = .ok (.scan 0 16) := rfl
theorem test_decode_label : decodeRequest (.transport .tc0) (0x23 :: chars) = .ok (.label chars) := rfl
theorem test_decode_write :
    decodeRequest (.transport .tc1) [0x24, 0x02, 0x00, 0x00, 0x01, 0x02, 0x04] = .ok (.write (.fromFile 0x102) 4) :=
  rfl
theorem test_decode_verify :
    decodeRequest (.transport .tc0) [0x25, 0, 0, 0, 9, 1, 0, 0, 0, 4, 2, 1] =
      .ok (.verify 9 (.count 4) .compare .keepFirst) := rfl
theorem test_decode_restore :
    decodeRequest (.transport .tc0) [0x26, 1, 0, 0, 0x13, 0x88, 0, 0, 0x4E, 0x20, 1, 0, 0, 0, 3] =
      .ok (.restore (.address 5000) 20000 (.count 3)) := rfl
theorem test_decode_abort : decodeRequest (.transport .tc0) [0x27, 3] = .ok (.abort .atMark) := rfl
theorem test_decode_watch :
    decodeRequest (.transport .tc0) [0x2D, 1, 0xFF, 0xFF, 0xFF, 0xFE] = .ok (.watch (.address 0xFFFFFFFE)) := rfl
theorem test_decode_other_channel : decodeRequest .engine [0x10, 0, 1, 0, 0, 0] = .error .unknown := rfl
theorem test_decode_wrong_length : decodeRequest (.transport .tc0) [0x20, 0] = .error .format := rfl
theorem test_decode_bad_flag : decodeRequest .engine [0x02, 2] = .error .format := rfl
theorem test_decode_empty : decodeRequest .engine [] = .error .unknown := rfl

/-! ## Values of the spec's tables and worked cases -/

/-- The check values of R76 and R77 for the characters 1 to 9. -/
theorem test_crc16 : crc16 [0x31, 0x32, 0x33, 0x34, 0x35, 0x36, 0x37, 0x38, 0x39] = 0x29B1 := by decide +kernel
theorem test_crc32 : crc32 [0x31, 0x32, 0x33, 0x34, 0x35, 0x36, 0x37, 0x38, 0x39] = 0xCBF43926 := by decide +kernel

/-- The two slices of the worked case of section 5.3: ABCDABCDABCDXY and ABCDQ. -/
def slice0 : List Byte := [65, 66, 67, 68, 65, 66, 67, 68, 65, 66, 67, 68, 88, 89]
def slice1 : List Byte := [65, 66, 67, 68, 81]

theorem test_matcher_first :
    (tokenize [] [] slice0 0).out = [0x03, 65, 66, 67, 68, 0x85, 0x00, 0x03, 0x01, 88, 89] ∧
      (tokenize [] [] slice0 0).table = [(659, 4), (732, 1), (801, 2), (842, 3)] := by decide
theorem test_matcher_second :
    (tokenize [(659, 4), (732, 1), (801, 2), (842, 3)] slice0 slice1 14).out = [0x81, 0x00, 0x09, 0x00, 81] := by decide
theorem test_slice_sizes :
    (codeSlice (tokenize [] [] slice0 0).out slice0).length = 20 ∧
      (codeSlice [0x81, 0x00, 0x09, 0x00, 81] slice1).take 5 = [2, 0, 5, 0, 5] := by decide
theorem test_decoder_first : (decodeSlice 0 0 [] (codeSlice (tokenize [] [] slice0 0).out slice0)).bytes = slice0 := by
  decide

/-- The governor of the worked cases of section 7.3. -/
def gov (a : Int) : Gov :=
  { active := { s := 16, d := 1, ea := 3, ma := 2, ed := 2, md := 5, lmin := 2, lmax := 8, n := 1 }, a := a, l := levelOf a }

theorem test_governor_rises : (((gov 1536).countFrame true 21).countFrame true 22).countFrame true 23 =
    { gov 1698 with l := 7 } := by decide
theorem test_governor_deadband : (gov 1698).countFrame true 17 = gov 1698 := by decide
theorem test_governor_truncates : ((gov 1698).countFrame true 13).a = 1683 := by decide
theorem test_governor_clamps :
    (((gov 2040).countFrame true 24).a, ((gov 520).countFrame true 14).a, ((gov 520).countFrame true 14).l) =
      (2048, 512, 2) := by decide
/-- The second worked case: an armed copy moves, clamping A, before the update of the same evaluation. -/
theorem test_governor_armed :
    ({ pending := { n := 4, lmax := 8 }, active := { n := 4 }, armed := true, a := 2900, l := 11, evalCount := 3 } :
      Gov).countFrame true 20 = { pending := { n := 4, lmax := 8 }, active := { n := 4, lmax := 8 }, a := 2048, l := 8 } := by
  decide

/-- R130's example. -/
theorem test_governor_settings :
    (let g := clampSettings ⟨0, 12, 3, 0, 2, 0, 3, 9, 11, 24, 24, 8, 100, 0⟩;
      (g.s, g.d, g.lmin, g.lmax, g.lstart, g.n)) = (1, 8, 3, 9, 11, 64) := by decide

/-- The capacity estimates of section 1.3. -/
theorem test_estimate :
    (estimateOf .t1 500000 30000000000 20000000000, estimateOf .t1 500000 0 0, estimateOf .t1 786420 0 0) =
      (14077919232, 9385279488, 0) := by decide

/-- The estimate of section 3.8's example. -/
theorem test_locate_estimate : estimateFor [⟨40000, 40312⟩, ⟨80001, 80655⟩] 80500 = 81154 := by decide

/-- R61: the greatest address not above the one sought need not stand last. -/
theorem test_locate_estimate_unordered : estimateFor [⟨40000, 40312⟩, ⟨200, 201⟩] 50000 = 50312 := by decide

/-- R185, R25, R48, R70: power-on with no cartridge, the doors closed. -/
theorem test_power_on_is_reset :
    State.reset.powerOn
      { slots := 0, mail := false, grip := false, mainOpen := false, mailOpen := false,
        bay0 := ⟨false, false, .t1, .set, 0⟩, bay1 := ⟨false, false, .t1, .set, 0⟩ } = State.reset := by decide

/-- Section 4.8's first reading: frame 1001 read with a bad payload check, 1002 of another address, a filler, 1005. -/
theorem test_accept_rule :
    (classify 501 (asRead (dataHdr 1001 501) [0x00]), classify 501 (asRead (dataHdr 1002 502) oneByte),
      classify 501 (asRead (mkHeader .filler 0 1003 503 2 0 0 []) []), classify 501 (asRead (dataHdr 1005 501) oneByte)) =
      (.counted, .counted, .uncounted, .accepted (dataRead 1005 501) false) := by decide +kernel

/-- Section 4.9: a LABEL job on a T2 cartridge whose transport held label count 4 writes its frame 0. -/
theorem test_label_frame :
    (match exec (.rewindComplete .tc1)
        { idle with tc1 := { st := .rewinding, job := some (.label { chars := chars, count := 5, cls := .t2 }) } } with
      | .next s =>
        (match s.tc1.job with
          | some (.label j) => j.inProgress.map fun f => (f.hdr.kind, f.hdr.frame, f.hdr.addr, f.payload.drop 12)
          | _ => none)
      | _ => none) = some (1, 0, 0xFFFFFFFF, [2, 0, 0, 0, 5]) := by decide +kernel

/-- Section 10.1: the mail door closes over a new cartridge. -/
theorem test_mail_arrives :
    (match exec (.mailDoorClose true) { idle with chg := { st := .idle, mailOpen := true } } with
      | .next s => (s.mtb.get .mail, s.lnk.lane.map (·.payload))
      | _ => (none, none)) = (some {}, some [4]) := by decide

/-- R170, R173, R176: the frame of MAIL_ARRIVED on the lane, and a MOVE_END of CANCELLED, order tag 0x0102. -/
theorem test_mail_arrived_frame :
    (noticeFrame .mailArrived true).bytes.take 8 = [0xC5, 3, 1, 0, 1, 0, 1, 4] ∧
      (Notice.moveEnd { order := .move (.slot 0) (.slot 1) false 0x0102, result := .cancelled, loc := none, label := none
                        noteState := none, counts := none }).payload.take 6 = [3, 1, 1, 2, 12, 0] := by decide

/-! ## Witnesses: the machine as a whole, and the laws that every step keeps -/

/-- An IDENT at the front of the queue. -/
def waiting : State := { idle with pending := [.ident 1] }

theorem witness_StepRunsTheFrontCommand :
    waiting.pending = .ident 1 :: [] ∧ State.reset.pending = [] := ⟨rfl, rfl⟩

theorem witness_EveryStepLeavesASettledState : waiting.settle = waiting ∧ ∃ s', step waiting = .next s' :=
  ⟨by decide, _, rfl⟩

theorem witness_SettlingKeepsWhatItDoesNotServe :
    ∀ r, (waiting.tc .tc0).job = some (.read r) → r.isRestore = false := by
  intro r h; cases h

/-- Both replies and notices waiting, the lane in use, free, and held. -/
def linkOf (l : Lnk) : State := { idle with lnk := l }
def aReply : Reply := { chan := .engine, tag := 1, code := 1, body := .accepted }

/-- A checked chunk ready at TC0. -/
def chunkReady : State :=
  { idle with tc0 := { st := .reading, job := some (.read reading),
                       delivery := [.chunk [{ byte := 0x41, addr := 0, pos := 0, last := true, checked := true }] true false] } }

theorem witness_OutboundLaneServesInOrder :
    (linkOf { hostHold := true }).lnk.hostHold = true ∧
      ((linkOf { replies := [aReply] }).lnk.lane = none ∧ (linkOf { replies := [aReply] }).lnk.hostHold = false ∧
        (linkOf { replies := [aReply] }).lnk.replies = aReply :: []) ∧
      ((linkOf { notices := [.mailTaken] }).lnk.replies = [] ∧
        (linkOf { notices := [.mailTaken] }).lnk.notices = .mailTaken :: [] ∧
        (linkOf { notices := [.mailTaken] }).tc0.pendingCredits = 0 ∧
        (linkOf { notices := [.mailTaken] }).tc1.pendingCredits = 0) ∧
      (chunkReady.lnk.lastServed = Tr.tc0.other ∧ chunkReady.dataReady .tc0 = true ∧
        (chunkReady.tc .tc0).delivery ≠ []) ∧
      ({ chunkReady with lnk := { lastServed := .tc0 } } : State).dataReady Tr.tc0.other = false ∧
      (idle.dataReady .tc0 = false ∧ idle.dataReady .tc1 = false) ∧ idle.settle = idle ∧
      idle.lnk.notices.length < 32 ∧ 32 ≤ (linkOf { notices := List.replicate 32 .mailTaken }).lnk.notices.length := by
  decide

/-- A restore with a delivery queue, in a state, an operation of its context perhaps in progress. -/
def sending (r : ReadJob) (d : List DItem) (st : TcState := .waiting) (dp : Option DpOp := none) : State :=
  { idle with tc0 := { st := st, job := some (.read r), delivery := d }, dp := dp }

/-- The sending while the job reads on, READING and in WAITING with more blocks than the resume threshold; behind the
end of the reading with a block left to decode, with a decode in progress, with a filling chunk behind the head, and
with nothing left, after an ABORT AT_MARK too; a mark, a full unclosed chunk, and an unchecked byte, at the head. -/
theorem witness_OutboundLaneServesInOrder_sending :
    let byte (ok : Bool) : DByte := { byte := 0x41, addr := 0, pos := 0, last := true, checked := ok }
    let head : DItem := .chunk [byte true] true false
    let blockOf : QEntry := .readBlock ⟨1, 0, 2, 0⟩ block []
    let done : ReadJob := { reading with ended := some .ok }
    ((chunkReady.tc .tc0).job = some (.read reading) ∧ reading.ended = none ∧ reading.short = none ∧
        (chunkReady.tc .tc0).st ≠ .waiting ∧ (chunkReady.tc .tc0).blockQ = []) ∧
      (let s : State :=
         { sending reading [head] with tc0 := { (sending reading [head]).tc0 with blockQ := List.replicate 9 blockOf } }
       (s.tc .tc0).st = .waiting ∧ (s.tc .tc0).gov.active.resume < (s.tc .tc0).blockQ.length ∧ s.dataReady .tc0 = true) ∧
      ((sending done [head]).dataReady .tc0 = true ∧ done.ended = some .ok ∧ done.pendingGaps = [] ∧
        ((sending done [head]).tc .tc0).blockQ = [] ∧ (sending done [head]).opOf .tc0 = false ∧ closeFilling [] = [] ∧
        done.faultCount = 0 ∧ ({ done with atMark := true } : ReadJob).atMark = true) ∧
      (sending done [head] .waiting (some { t := .tc0, decode := true, abandoned := false })).opOf .tc0 = true ∧
      closeFilling [.chunk [byte true] false false] = [.chunk [byte true] true false] ∧
      ((sending reading [.mark]).dataReady .tc0 = true ∧ reading.spec = .restore 0 .toEod) ∧
      (sending reading [.chunk [byte false] true false]).dataReady .tc0 = false ∧
      (sending reading [.chunk [byte true] false false]).dataReady .tc0 = false := by decide +kernel

theorem range_default : ({} : GovSet).InRange := by unfold GovSet.InRange; decide

theorem governor_default : ({} : Gov).Sound :=
  ⟨range_default, range_default, by decide, by decide, by decide, by decide, by decide⟩

theorem witness_laws :
    waiting.GovSound ∧ waiting.LinkBounded ∧ waiting.MapsBounded ∧ waiting.FaultsBounded ∧ waiting.OrdersBounded ∧
      waiting.LockLaw ∧ ∃ s', step waiting = .next s' := by
  refine ⟨⟨governor_default, governor_default⟩, ?_, ?_, ⟨trivial, trivial⟩, ?_, rfl, _, rfl⟩
  · unfold State.LinkBounded; decide
  · intro l r h
    have e : ∀ i : Fin 20, waiting.mtb.entries[i] = none := by decide
    have h' : waiting.mtb.entries[l.idx] = some r := h
    rw [e] at h'; cases h'
  · unfold State.OrdersBounded; decide

/-! ## Witnesses: the engine and the changer -/

theorem witness_requests_are_taken : Takes idle := takes_of (by decide)

theorem witness_MediaReportsTheTable :
    Loc.ofCode (0x00 : Byte).toNat = some (.slot 0) ∧ Loc.ofCode (0x13 : Byte).toNat = some .hand ∧
      idle.mtb.get (.slot 0) = none ∧ 19 < (0x14 : Byte).toNat ∧ (0x14 : Byte) ≠ 0xFF ∧
      (bay {} { tape with label := some { chars := chars, source := .tape } }).mtb.get (.bay .tc0) =
        some { tape with label := some { chars := chars, source := .tape } } ∧ chars.length = 12 := by decide

/-- The estimate's records: without a class, UNKNOWN, KNOWN in the reserve zone and before it, and OPEN with a frame being
written and with none. -/
theorem witness_MediaReportsTheTable_estimate :
    ({} : CartRecord).cls = none ∧ tape.eod = .unknown ∧ tape.cls = some .t1 ∧
      ({ tape with eod := .known 9 786420 1 } : CartRecord).eod = .known 9 786420 1 ∧ (786432 : Nat) - 16 - 786420 = 0 ∧
      ({ tape with eod := .opened, binding := some .tc0 } : CartRecord).binding = some .tc0 ∧
      ((job .waiting (.write writing)).tc .tc0).pos = some 100 ∧ writing.inProgress = none ∧
      (let w := { writing with inProgress := some frame }
       ((job .writing (.write w)).tc .tc0).job = some (.write w) ∧ w.inProgress = some frame) := by decide +kernel

/-- The DONE reply of a RESET_ENGINE on the lane. -/
def resetting : State :=
  linkOf { resetting := true, lane := some { kind := .reply, chan := .engine, tag := 9, flags := 0, payload := [1, 0x04] } }

theorem witness_EveryStepKeepsTheGovernorLaw : waiting.GovSound ∧ ∃ s', step waiting = .next s' :=
  ⟨witness_laws.1, _, rfl⟩
theorem witness_EveryStepKeepsTheLinkBounds : waiting.LinkBounded ∧ ∃ s', step waiting = .next s' :=
  ⟨witness_laws.2.1, _, rfl⟩
theorem witness_EveryStepKeepsTheListBoundsAndTheMailLock :
    waiting.MapsBounded ∧ waiting.FaultsBounded ∧ waiting.OrdersBounded ∧ waiting.LockLaw ∧ ∃ s', step waiting = .next s' :=
  witness_laws.2.2
/-- A write job with frames 10 in flight and 11 in progress, a block queued, a chunk held and 15 credits out. -/
def streaming : State :=
  { bay { st := .writing, pos := some 11, job := some (.write { writing with inProgress := some { frame with hdr := dataHdr 11 1 } }),
          inflight := [frame], blockQ := [.block block], intake := [.chunk [0x41] 1], granted := 15 } with
    pending := [.writeCompletion .tc0] }

theorem witness_EveryStepKeepsTheStreamingQueues :
    streaming.GovSound ∧ streaming.QueuesSound ∧ ∃ s', step streaming = .next s' := by
  refine ⟨⟨governor_default, governor_default⟩, ⟨⟨?_, ?_, ?_⟩, ?_, ?_, ?_⟩, _, rfl⟩
  · unfold Tc.QueuesBounded; decide
  · intro h; exact absurd h (by decide)
  · refine ⟨rfl, (fun _ h => nomatch h), (fun h => nomatch h), ⟨rfl, ?_, ?_⟩, fun h => absurd rfl h, ?_⟩
    · intro f h; cases h with
      | head => exact ⟨11, rfl, by decide +kernel⟩
      | tail _ h => cases h
    · intro g h; cases h; exact ⟨rfl, by decide +kernel⟩
    · intro f h; cases h with
      | head => exact fun h => nomatch h
      | tail _ h => cases h
  · unfold Tc.QueuesBounded; decide
  · intro _; exact ⟨rfl, rfl, rfl, rfl, rfl, rfl⟩
  · exact ⟨rfl, rfl, rfl, rfl, rfl, rfl, rfl⟩
theorem witness_IdentAndStatusAnswer : Takes idle := takes_of (by decide)

theorem witness_ResetEngineResetsAtItsReply :
    Takes idle ∧ resetting.lnk.resetting = true ∧
      resetting.lnk.lane = some { kind := .reply, chan := .engine, tag := 9, flags := 0, payload := [1, 0x04] } :=
  ⟨takes_of (by decide), rfl, rfl⟩

theorem witness_MoveAccepted : MoveAccepted idle (.slot 0) (.bay .tc1) :=
  ⟨by decide, by decide, .inl rfl, fun _ h => (by cases h), by decide⟩

/-- A running UNLOAD gives its bay to a MOVE (R27). -/
theorem witness_MoveAccepted_from_a_bay : MoveAccepted (job .rewinding .unload) (.bay .tc0) .mail :=
  ⟨by decide, by decide, .inl rfl, fun t h => (by cases t <;> first | exact .inr rfl | cases h), by decide⟩

theorem witness_MoveAndScanJoinTheQueueOrAreRefused :
    let full := changer { st := .running, queue := List.replicate 8 move, step := some .grip }
    Loc.ofCode (0 : Byte).toNat = some (.slot 0) ∧ Loc.ofCode (18 : Byte).toNat = some (.bay .tc1) ∧
      19 < (20 : Byte).toNat ∧ 18 < (19 : Byte).toNat ∧
      (State.reset.chg.st = .homing ∧ (3 : Byte).toNat ≤ 19 ∧ (18 : Byte).toNat ≤ 18 ∧ (3 : Byte) ≠ 18) ∧
      ((changer { st := .held }).chg.st = .held ∧ (18 : Byte) ≠ 19 ∧ (18 : Byte) ≠ 0) ∧
      (Loc.ofCode (17 : Byte).toNat = some (.bay .tc0) ∧ (idle.tc .tc0).st ≠ .seated ∧ (idle.tc .tc0).job ≠ some .unload) ∧
      (8 ≤ full.chg.queue.length ∧ full.chg.st = .running ∧ full.lnk.replies.length < 16) ∧
      ((0 : Byte).toNat ≤ (16 : Byte).toNat ∧ (16 : Byte).toNat ≤ 16 ∧ idle.chg.st = .idle ∧ idle.chg.queue.length < 8) ∧
      16 < (17 : Byte).toNat ∧ (1 : Byte).toNat < (2 : Byte).toNat := by decide

/-- The changer running a MOVE at a step, with another order behind it. -/
def running (step : OrderStep) (o : Order := move) (st : ChgState := .running) : State :=
  changer { st := st, queue := [o, scan], step := some step, mailLock := true }

theorem witness_CancelRemovesWhatHasNotStarted :
    Takes (running .grip) ∧ (running .grip).chg.st ≠ .faulted ∧ (changer { st := .faulted }).chg.st = .faulted :=
  ⟨takes_of (by decide), by decide, rfl⟩

/-- A grip in progress, a note write cut off, a scan between its grip and its push-back, orders not started, and none;
the same states meet the opening of the main door. -/
def noteWriting : State :=
  changer { st := .running, queue := [move], step := some .note, hand := .holding, noteOp := some (.write {} .pageClear) }
def scanHolds : State :=
  changer { st := .running, queue := [scan, move], step := some .note, hand := .holding, noteOp := some .read }

theorem witness_ChangerResetEndsEveryOrder :
    Takes (running .grip) ∧
      (cutEnds (running .grip) .reset).length = 2 ∧ handCut (running .grip).chg = .unsettledGrip (.slot 0) ∧
      (Takes noteWriting ∧ (noteCut noteWriting).get .hand = some { noteState := .invalid }) ∧
      (Takes scanHolds ∧ handCut scanHolds.chg = .unsettledPlace (.slot 0) ∧ noteCut scanHolds = scanHolds.mtb) ∧
      (Takes (changer { st := .held, queue := [move] }) ∧
        cutEnds (changer { st := .held, queue := [move] }) .reset = cancelled [move]) ∧
      (Takes idle ∧ cutEnds idle .reset = []) ∧ Takes (changer { st := .halted, mainOpen := true }) :=
  ⟨takes_of (by decide), by decide, by decide, ⟨takes_of (by decide), by decide⟩,
    ⟨takes_of (by decide), by decide, by decide⟩, ⟨takes_of (by decide), by decide⟩, ⟨takes_of (by decide), by decide⟩,
    takes_of (by decide)⟩

/-- The changer with orders none of which has started. -/
def starting (o : Order) (picker : Picker) : State := changer { st := .running, queue := [o], picker := picker }

/-- A move out of H, one from M, one out of D0 and one to M. -/
def moveHand : Order := .move .hand (.slot 1) false 7
def moveMail : Order := .move .mail (.slot 1) false 7
def fromBay : Order := .move (.bay .tc0) (.slot 1) false 7
def toMail : Order := .move (.slot 0) .mail false 7

theorem witness_OrdersStartAndTravelEnds_start :
    ((starting move .home).chg.step = none ∧ (starting move .home).chg.picker ≠ .atLoc (.slot 0)) ∧
      (starting move (.atLoc (.slot 0))).chg.picker = .atLoc (.slot 0) ∧
      ((starting moveHand .home).chg.st = .running ∧ (starting moveHand .home).chg.queue = [moveHand]) ∧
      ((starting scan .home).chg.queue = [scan] ∧ (starting scan .home).chg.picker ≠ .atLoc (scanLoc 0)) := by decide

theorem witness_OrdersStartAndTravelEnds_source :
    let s := running .travelSource moveMail
    let b := running .travelSource fromBay
    ((running .travelSource).chg.queue = move :: [scan] ∧ (running .travelSource).chg.step = some .travelSource ∧
      (running .travelSource).chg.gripLoc move = .slot 0) ∧
      (s.chg.gripLoc moveMail = .mail ∧ s.chg.mailOpen = false) ∧
      ({ s with chg := { s.chg with mailOpen := true } } : State).chg.mailOpen = true ∧
      b.chg.gripLoc fromBay = .bay .tc0 ∧ ({ b with tc0 := { st := .seated } } : State).tc0.st = .seated ∧
      (({ b with tc0 := { st := .ready } } : State).tc0.st ≠ .seated ∧
        ({ b with tc0 := { st := .ready } } : State).tc0.st ≠ .empty) := by decide

theorem witness_OrdersStartAndTravelEnds_destination :
    let s := running .travelDest toMail
    let b := running .travelDest moveBay
    ((running .travelDest).chg.step = some .travelDest ∧ (running .travelDest).chg.placeLoc move = .slot 1 ∧
      Loc.slot 1 ≠ .bay .tc0 ∧ Loc.slot 1 ≠ .bay .tc1) ∧
      (s.chg.placeLoc toMail = .mail ∧ s.chg.mailOpen = false) ∧
      ({ s with chg := { s.chg with mailOpen := true } } : State).chg.mailOpen = true ∧
      (b.chg.placeLoc moveBay = .bay .tc0 ∧ b.tc0.st = .empty) ∧
      ({ b with tc0 := { st := .seated } } : State).tc0.st ≠ .empty := by decide

/-- A SCAN that senses a location, with a record in S0. -/
def scanning (at_ : Nat) (o : Order := scan) (r : CartRecord := {}) : State :=
  { idle with
    chg := { st := .running, queue := [o], step := some .senseSource, scanAt := at_ }
    mtb := ({} : Mtb).put (.slot 0) (some r) }

theorem witness_PresenceDecidesTheGrip_move :
    ((running .senseSource).chg.queue = move :: [scan] ∧ (running .senseSource).chg.step = some .senseSource ∧
      Loc.slot 0 ≠ .hand ∧ Loc.slot 0 ≠ .bay .tc0 ∧ Loc.slot 0 ≠ .bay .tc1 ∧
      (running .senseSource).mtb.get (.slot 0) ≠ none) ∧
      ((running .senseSource moveMail).chg.queue = moveMail :: [scan] ∧ (running .senseSource moveMail).mtb.get .mail = none) ∧
      ((running .senseSource moveHand).chg.queue = moveHand :: [scan] ∧
        (running .senseSource moveHand).chg.picker ≠ .atLoc (.slot 1)) ∧
      (running .travelSource fromBay).chg.step = some .travelSource ∧
      ((running .travelSource fromBay).tc .tc0).st = .empty := by decide

/-- At the first location and at the last. -/
theorem witness_PresenceDecidesTheGrip_scan :
    ((scanning 0).chg.queue = scan :: [] ∧ (scanning 0).chg.step = some .senseSource ∧
      (scanning 0).chg.scanAt = (0 : Fin 16).val ∧ (scanning 0).mtb.get (.slot 0) = some {} ∧
      ({} : CartRecord).noteState = .unread ∧ (0 : Fin 16).val < 16 ∧ (scanning 0).chg.picker ≠ .atLoc (scanLoc 1)) ∧
      (scanning 1).mtb.get (.slot 1) = none ∧
      (scanning 0 scan { noteState := .valid }).mtb.get (.slot 0) = some { noteState := .valid } ∧
      ((scanning 15 (.scan 15 15)).chg.scanAt = (15 : Fin 16).val ∧ 15 ≤ (15 : Fin 16).val) := by decide

/-- The changer gripping for an order, with a record in the source. -/
def gripping (o : Order) (src : Loc) (r : Option CartRecord) (c : Tc := {}) : State :=
  { idle with
    chg := { st := .running, queue := [o], step := some .grip }, mtb := ({} : Mtb).put src r, tc0 := c }

theorem witness_GripPassesTheRecordAndStartsTheNote :
    (let s := gripping move (.slot 0) (some {})
     s.chg.queue = move :: [] ∧ s.chg.step = some .grip ∧ s.mtb.get (.slot 0) = some {} ∧ s.mtb.get .hand = none ∧
       s.chg.picker ≠ .atLoc (.slot 1) ∧ Loc.slot 0 ≠ .hand ∧ ({} : CartRecord).dirty = false ∧
       ({} : CartRecord).noteState = .unread) ∧
      (gripping move (.slot 0) (some { tape with dirty := true })).mtb.get (.slot 0) = some { tape with dirty := true } ∧
      (gripping move (.slot 0) (some { dirty := true, protect := some .set })).mtb.get (.slot 0) =
        some { dirty := true, protect := some .set } ∧
      (let s := gripping fromBay (.bay .tc0) (some { noteState := .valid }) { st := .seated }
       s.chg.queue = fromBay :: [] ∧ s.mtb.get (.bay .tc0) = some { noteState := .valid } ∧ (s.tc .tc0).st = .seated) ∧
      (gripping move (.slot 0) none).mtb.get (.slot 0) = none ∧
      ((gripping scan (.slot 0) (some {})).chg.queue = scan :: [] ∧
        (gripping scan (.slot 0) (some {})).chg.scanAt = (0 : Fin 16).val) := by decide

theorem witness_PickerFaultsStopTheChanger :
    (running .travelSource).chg.step = some .travelSource ∧ (running .grip).chg.step = some .grip ∧
      (running (.place false false)).chg.step = some (.place false false) ∧
      (running .grip).chg.queue = move :: [scan] := by decide

/-- A note operation under way. -/
def noting (op : NoteOp) : State :=
  changer { st := .running, queue := [move], step := some .note, hand := .holding, noteOp := some op, image := some [0x3C] }

theorem witness_NoteReadRebuildsTheRecord :
    (noting .read).chg.queue = move :: [] ∧ (noting .read).chg.noteOp = some .read ∧
      (noting .read).chg.picker ≠ .atLoc (.slot 1) := by decide

theorem witness_NoteReadRebuildsTheRecord_scan :
    let s : State := { noting .read with chg := { (noting .read).chg with queue := [scan] } }
    s.chg.queue = scan :: [] ∧ s.chg.noteOp = some .read ∧ s.chg.scanAt = (0 : Fin 16).val := by decide

/-- An image with its marker, of class byte 0, of one that carries no section, and of four sections. -/
theorem witness_NoteReadRebuildsTheRecord_image :
    ([] : List Byte).getD 0 0 ≠ 0x3C ∧ ([0x3C] : List Byte).getD 0 0 = 0x3C ∧ ([0x3C] : List Byte).getD 13 0 ≠ 1 ∧
      ([0x3C] : List Byte).getD 13 0 ≠ 2 ∧
      (let img : List Byte := 0x3C :: List.replicate 12 0 ++ [2, 0, 0, 4]
       img.getD 13 0 = 2 ∧ 3 < (img.getD 16 0).toNat ∧ noteSections img .t2 = none) := by decide

theorem witness_NoteWriteGoesPageByPageToItsEnd :
    (noting (.write {} (.page 63))).chg.noteOp = some (.write {} (.page 63)) ∧
      (noting (.write {} .unlock)).chg.queue = move :: [] ∧ (noting (.write {} .unlock)).mtb.get .hand = some {} ∧
      WriteStep.unlock ≠ .readBack ∧
      (noting (.write {} .readBack)).chg.noteOp = some (.write {} .readBack) ∧
      (noting (.write {} .readBack)).chg.image = some [0x3C] ∧ some [0x00] ≠ (noting (.write {} .readBack)).chg.image ∧
      (noting (.write {} .readBack)).chg.picker ≠ .atLoc (.slot 1) := by decide

theorem witness_NoteWriteGoesPageByPageToItsEnd_image :
    ((0x3C : Byte) :: List.replicate 2047 0).length = 2048 ∧ ((0x3C : Byte) :: List.replicate 2047 0).head? = some 0x3C :=
  ⟨by rw [List.length_cons, List.length_replicate], rfl⟩

theorem witness_PlacePassesTheRecordOnceConfirmed :
    let b (p : OrderStep) := running p moveBay
    ((running (.place false true)).chg.queue = move :: [scan] ∧
      (running (.place false true)).chg.step = some (.place false true) ∧
      (running (.place false true)).mtb.get .hand = some {}) ∧
      ((b (.place false false)).chg.queue = moveBay :: [scan] ∧ ((b (.place false false)).tc .tc0).st = .empty ∧
        ((b (.place false false)).tc .tc0).job = none ∧ (b (.place false false)).chg.takeHold ≠ some .tc0 ∧
        (b (.place false false)).mtb.get .hand = some {}) ∧
      (b (.place true false)).chg.step = some (.place true false) ∧
      (let s := { b (.place false true) with
         tc0 := { st := .seated }, mtb := (b (.place false true)).mtb.setBayValues .tc0 (some ⟨.t1, .clear⟩) }
       s.chg.step = some (.place false true) ∧ (s.tc .tc0).st = .seated ∧ s.mtb.get .hand = some {} ∧
         s.mtb.bayValues .tc0 = some { cls := .t1, protect := .clear }) := by decide

/-- A push-back at the first location and at the last. -/
theorem witness_PlacePassesTheRecordOnceConfirmed_scan :
    (running (.place false false) scan).chg.queue = scan :: [scan] ∧
      (running (.place false false) scan).chg.step = some (.place false false) ∧
      (running (.place false false) scan).chg.scanAt < 16 ∧
      (running (.place false false) scan).chg.picker ≠ .atLoc (scanLoc 1) ∧
      0 ≤ (running (.place false false) (.scan 0 0)).chg.scanAt := by decide

theorem witness_WaitingOrdersResumeOrTimeOut :
    let b (c : Tc) : State := { running (.waitBay .tc0) fromBay .waitBay with tc0 := c }
    ((b {}).chg.queue = fromBay :: [scan] ∧ (b {}).chg.st = .waitBay ∧ (b {}).chg.step = some (.waitBay .tc0) ∧
      ((b {}).tc .tc0).st = .empty) ∧
      ((b { st := .seated }).tc .tc0).st = .seated ∧
      (((b { st := .ready }).tc .tc0).st ≠ .seated ∧ ((b { st := .ready }).tc .tc0).st ≠ .empty) ∧
      (let m : State := { running .waitMailSource moveMail .waitMail with
         chg := { (running .waitMailSource moveMail .waitMail).chg with mailOpen := true } }
       m.chg.st = .waitMail ∧ m.chg.step = some .waitMailSource ∧ m.chg.mailOpen = true) ∧
      (let m : State := { running .waitMailDest toMail .waitMail with
         chg := { (running .waitMailDest toMail .waitMail).chg with mailOpen := true } }
       m.chg.queue = toMail :: [scan] ∧ m.chg.st = .waitMail ∧ m.chg.step = some .waitMailDest ∧ m.chg.mailOpen = true) := by
  decide

theorem witness_MainDoorHaltsAndResumesTheChanger :
    ((running .grip).chg.mainOpen = false ∧ noteWriting.chg.mainOpen = false ∧ scanHolds.chg.mainOpen = false ∧
        State.reset.chg.mainOpen = false ∧ (changer { st := .faulted }).chg.mainOpen = false) ∧
      ((changer { st := .faulted, mainOpen := true }).chg.mainOpen = true ∧
        (changer { st := .faulted, mainOpen := true }).chg.st ≠ .halted) ∧
      ((changer { st := .halted, mainOpen := true, homingOwed := true }).chg.st = .halted ∧
        (changer { st := .halted, mainOpen := true, homingOwed := true }).chg.homingOwed = true) ∧
      (changer { st := .halted, mainOpen := true, hand := .holding }).chg.homingOwed = false ∧
      (changer { st := .halted, mainOpen := true, hand := .holding }).chg.hand = .holding ∧
      (changer { st := .halted, mainOpen := true, hand := .unsettledGrip (.slot 0) }).chg.hand =
        .unsettledGrip (.slot 0) ∧
      (changer { st := .halted, mainOpen := true, hand := .unsettledPlace (.slot 1) }).chg.hand =
        .unsettledPlace (.slot 1) := by decide

theorem witness_HomingSettlesTheHand :
    let s (h : Hand) : State := { changer { hand := h } with mtb := ({} : Mtb).put (.slot 0) (some {}) }
    (State.reset.chg.st = .homing ∧ State.reset.chg.hand = .empty) ∧
      (changer { st := .homing, hand := .unsettledGrip (.slot 0) }).chg.hand = .unsettledGrip (.slot 0) ∧
      (changer { hand := .unsettledPlace (.slot 0) }).mtb.get .hand = some {} ∧
      (changer { hand := .unsettledPlace (.slot 0) }).chg.hand = .unsettledPlace (.slot 0) ∧
      ((s (.unsettledGrip (.slot 0))).mtb.get .hand = none ∧ (s (.unsettledGrip (.slot 0))).mtb.get (.slot 0) = some {}) ∧
      (s (.unsettledGrip (.slot 1))).mtb.get (.slot 1) = none ∧
      ((s (.unsettledPlace (.slot 0))).mtb.get .hand = none ∧
        (s (.unsettledPlace (.slot 0))).chg.hand = .unsettledPlace (.slot 0)) ∧ Loc.slot 0 ≠ .hand := by decide

/-- The mail door open, with and without a record in M. -/
def mailOpen (r : Option CartRecord) : State :=
  { idle with chg := { st := .idle, mailOpen := true }, mtb := ({} : Mtb).put .mail r }

theorem witness_MailDoorClosingTakesTheMailSlot :
    idle.chg.mailLock = false ∧ (mailOpen none).chg.mailOpen = true ∧ (mailOpen none).chg.st ≠ .waitMail ∧
      (mailOpen none).mtb.get .mail = none ∧ (mailOpen (some {})).mtb.get .mail = some {} := by decide

/-- Two records with equal labels, and both flags; and a state whose flags are settled, which takes a step. -/
theorem witness_DuplicateMarksEqualLabels :
    let r : CartRecord := { label := some { chars := chars, source := .tape } }
    let m := (({} : Mtb).put (.slot 0) (some r)).put (.slot 1) (some r)
    m.settle.get (.slot 0) = some { r with duplicate := true } ∧
      m.settle.get (.slot 1) = some { r with duplicate := true } ∧
      ({ waiting with mtb := m.settle } : State).DuplicatesSettled ∧
      ∃ s', step { waiting with mtb := m.settle } = .next s' := by
  refine ⟨by decide, by decide, ?_, _, rfl⟩
  unfold State.DuplicatesSettled; decide

/-! ## Witnesses: the transports -/

theorem witness_SeatingAndUnseatingABay :
    (idle.tc .tc0).st = .empty ∧ (∀ a b, idle.chg.step ≠ some (.place a b)) ∧
      ((bay { st := .seated }).tc .tc0).st = .seated :=
  ⟨rfl, (fun _ _ h => nomatch h), rfl⟩

theorem witness_BayRequestsStartTheirJobs :
    Takes (bay { st := .seated }) ∧ ((bay { st := .seated }).tc .tc0).st = .seated ∧
      (bay { st := .seated }).chg.takeHold ≠ some .tc0 ∧ ((bay { st := .faulted }).tc .tc0).st = .faulted ∧
      ((bay { st := .adrift }).tc .tc0).st = .adrift ∧ ((bay { st := .ready }).tc .tc0).st = .ready ∧
      isLabel chars = true ∧ (bay { st := .ready }).mtb.get (.bay .tc0) = some tape ∧ tape.protect = some .clear ∧
      tape.cls = some .t1 :=
  ⟨takes_of (by decide), by decide, by decide, by decide, by decide, by decide, by decide, by decide, by decide, by decide⟩

/-- No other record holds the label. -/
theorem witness_BayRequestsStartTheirJobs_label :
    ∀ l q lb, l ≠ .bay .tc0 → (bay { st := .ready }).mtb.get l = some q → q.label = some lb → lb.chars ≠ chars := by
  intro l q lb h hq _
  have e : (bay { st := .ready }).mtb.get l = none := by
    simp only [bay, Mtb.get_put_of_ne _ _ h]
    exact (by decide : ∀ i : Fin 20, ({} : Mtb).entries[i] = none) l.idx
  rw [e] at hq; cases hq

def labelled : CartRecord := { label := some { chars := chars, source := .note } }

theorem witness_JobRequestsAreRefused :
    (idle.tc .tc0).st ≠ .seated ∧ (idle.tc .tc0).st ≠ .ready ∧ isLabel [0x41] = false ∧
      ({ bay { st := .seated } with chg := { takeHold := some .tc0 } } : State).chg.takeHold = some .tc0 ∧
      (bay { st := .ready } { tape with protect := some .set }).mtb.get (.bay .tc0) = some { tape with protect := some .set } ∧
      ((bay { st := .ready }).mtb.put (.slot 0) (some labelled)).get (.slot 0) = some labelled ∧
      labelled.label = some { chars := chars, source := .note } ∧ StartMode.append ≠ .fromFile 0xFFFFFFFF#32 ∧
      (bay { st := .ready } { tape with eod := .known 9 9 0 }).mtb.get (.bay .tc0) = some { tape with eod := .known 9 9 0 } ∧
      9 ≤ (9 : Word).toNat ∧ (9 : Word) ≠ 0xFFFFFFFF#32 ∧ VerifyRange.toEod ≠ .count 0 ∧ RestoreEnd.toMark ≠ .count 0 ∧
      0 < (1 : Word).toNat ∧ (1 : Word) ≠ 0xFFFFFFFF#32 ∧ { tape with eod := .known 9 9 0 }.protect = some .clear := by
  decide

/-- A LABEL frame's payload: the label, class byte and label count 4 (R58). -/
def labelPayload : List Byte := chars ++ [1, 0, 0, 0, 4]
def labelRead (payGood : Bool) : ReadFrame :=
  { hdr := mkHeader .label 0 0 4294967295 0 0 0 labelPayload, payload := labelPayload, payGood := payGood }

/-- The findings: a good LABEL frame, one whose payload check fails, another frame, and the 32nd without a header. -/
theorem witness_LoadIdentifiesTheTape_finding :
    let s := job .identifying (.load { framesRead := 31 })
    ((job .threading (.load {})).tc .tc0).st = .threading ∧
      ((s.tc .tc0).st = .identifying ∧ (s.tc .tc0).job = some (.load { framesRead := 31, finding := none }) ∧
        (s.tc .tc0).pos = some 100) ∧
      (readFrame (asRead (labelRead true).hdr labelPayload) = some (labelRead true) ∧ (labelRead true).hdr.kind = 1 ∧
        (labelRead true).hdr.malformed = false ∧ isLabel (labelPayload.take 12) = true) ∧
      (readFrame (asRead (labelRead true).hdr (labelPayload.set 0 0x4F))).map (fun f => (f.hdr.kind, f.payGood)) =
        some (1, false) ∧
      (readFrame (asRead (eodHdr 7 3) []) = some (eodRead 7 3) ∧ (eodRead 7 3).hdr.kind ≠ 1) ∧
      readFrame .unreadable = none := by decide +kernel

/-- The rewind after a LABEL finding, on a record with no label, the same and another, and after BLANK. -/
theorem witness_LoadIdentifiesTheTape_rewind :
    let s (f : Finding) (r : CartRecord) := job .identifying (.load { framesRead := 1, finding := some f }) r
    let held (cs : List Byte) : CartRecord := { tape with label := some { chars := cs, source := .note } }
    ((s (.label chars 4) tape).tc .tc0).st = .identifying ∧ (s (.label chars 4) tape).mtb.get (.bay .tc0) = some tape ∧
      (s (.label chars 4) (held chars)).mtb.get (.bay .tc0) = some (held chars) ∧
      ((s (.label chars 4) (held (chars.set 0 0x4F))).mtb.get (.bay .tc0) = some (held (chars.set 0 0x4F)) ∧
        chars.set 0 0x4F ≠ chars) ∧
      ((s .blank tape).tc .tc0).job = some (.load { framesRead := 1, finding := some .blank }) := by decide

/-- The rewind after a finding when no record stands in the bay. -/
theorem witness_LoadIdentifiesTheTape_no_record :
    let s : State :=
      { idle with tc0 := { st := .identifying, job := some (.load { framesRead := 1, finding := some (.label chars 4) }) } }
    (s.tc .tc0).st = .identifying ∧
      (s.tc .tc0).job = some (.load { framesRead := 1, finding := some (.label chars 4) }) ∧
      s.mtb.get (.bay .tc0) = none := by decide

def labelJob : LabelJob := { chars := chars, count := 1, cls := .t1 }
def labelFrame : WFrame := { hdr := mkHeader .label 0 0 4294967295 0 0 0 chars, payload := chars, entry := none, fromRewrite := false }

theorem witness_RewindsEndOrLeadOn :
    ((job .rewinding .rewind).tc .tc0).job = some .rewind ∧ ((job .rewinding .unload).tc .tc0).st = .rewinding ∧
      ((job .unthreading .unload).tc .tc0).st = .unthreading ∧
      ((job .rewinding (.label labelJob)).tc .tc0).job = some (.label labelJob) := by decide

/-- The first result, the second after a GOOD first one, and the second after a BAD first one. -/
theorem witness_LabelJobWritesTwoFrames :
    let s (j : LabelJob) := bay { st := .writing, job := some (.label j), inflight := [eodFrame] }
    labelFrame.hdr.frame = 0 ∧
      ((job .writing (.label { labelJob with inProgress := some labelFrame })).tc .tc0).st = .writing ∧
      (((s labelJob).tc .tc0).inflight = eodFrame :: [] ∧
        ((s labelJob).tc .tc0).job = some (.label { labelJob with results := 0 })) ∧
      (((s { labelJob with results := 1 }).tc .tc0).job = some (.label { labelJob with results := 1 }) ∧
        labelJob.bad = false ∧ (s { labelJob with results := 1 }).mtb.get (.bay .tc0) = some tape) ∧
      ((s { labelJob with results := 1, bad := true }).tc .tc0).job =
        some (.label { labelJob with results := 1, bad := true }) ∧
      judge eodFrame.hdr (asRead eodFrame.hdr []) = true ∧ judge eodFrame.hdr .unreadable = false := by decide +kernel

theorem witness_MechanismFaultsEndTheJob :
    ((job .threading (.load {})).tc .tc0).st = .threading ∧ ((job .rewinding .unload).tc .tc0).st = .rewinding ∧
      ((job .identifying (.load { framesRead := 1, finding := some .blank })).tc .tc0).job =
        some (.load { framesRead := 1, finding := some .blank }) ∧
      ((job .unthreading .unload).tc .tc0).st = .unthreading ∧ ((job .writing (.write writing)).tc .tc0).st ≠ .empty ∧
      ((job .writing (.write writing)).tc .tc0).st ≠ .seated ∧
      (job .writing (.write writing)).mtb.get (.bay .tc0) = some tape ∧
      (((bay { st := .ready }).tc .tc0).job = none ∧ ((bay { st := .ready }).tc .tc0).st ≠ .empty ∧
        ((bay { st := .ready }).tc .tc0).st ≠ .seated) := by decide

/-- A running job with its end of data OPEN, found EMPTY, tape out, and seated; an EMPTY transport found seated; an
EMPTY one found EMPTY. -/
theorem witness_TransportResetLeavesTheSensedState :
    let s := job .writing (.write writing) { tape with eod := .opened }
    (Takes s ∧ (∀ a b, s.chg.step ≠ some (.place a b)) ∧ (s.tc .tc0).job = some (.write writing) ∧
        s.mtb.get (.bay .tc0) = some { tape with eod := .opened }) ∧
      (decide (TcState.empty = .empty ∧ (s.tc .tc0).st ≠ .empty ∧ (s.tc .tc0).st ≠ .seated) = true ∧
        decide (TcState.adrift = .empty ∧ (s.tc .tc0).st ≠ .empty ∧ (s.tc .tc0).st ≠ .seated) = false) ∧
      (Takes (bay {}) ∧ decide (TcState.seated = .seated ∧ ((bay {}).tc .tc0).st = .empty) = true) ∧
      Takes idle ∧ idle.mtb.get (.bay .tc0) = none :=
  ⟨⟨takes_of (by decide), (fun _ _ h => nomatch h), rfl, by decide⟩, by decide, ⟨takes_of (by decide), by decide⟩,
    takes_of (by decide), by decide⟩

theorem witness_TransportResetLeavesTheSensedState_armed :
    (armedMoved { pending := { lstart := 9, lmax := 8 }, armed := true }).active.lstart = 8 := by decide

theorem witness_SetAndGetGovernor :
    (clampSettings ⟨16, 1, 3, 0, 2, 0, 12, 12, 6, 24, 24, 8, 1, 0⟩).lmin ≤
        (clampSettings ⟨16, 1, 3, 0, 2, 0, 12, 12, 6, 24, 24, 8, 1, 0⟩).lmax ∧
      (clampSettings ⟨16, 1, 3, 0, 2, 0, 20, 0, 6, 24, 24, 8, 1, 0⟩).lmax <
        (clampSettings ⟨16, 1, 3, 0, 2, 0, 20, 0, 6, 24, 24, 8, 1, 0⟩).lmin := by decide

/-- A write job in WAITING, HITCH or the drain, at the last place before the reserve zone, with a block queue. -/
def waitingWith (q : List QEntry) (st : TcState := .waiting) (w : WriteJob := writing) : State :=
  bay { st := st, pos := some 786415, job := some (.write w), blockQ := q }

theorem witness_WriteStill (q : List QEntry) (st : TcState) :
    WriteStill (waitingWith q st) .tc0 writing 786415 :=
  ⟨(fun h => nomatch h), rfl, rfl, rfl, rfl, rfl, rfl, rfl, tape, .t1, rfl, rfl, by decide⟩

/-- Twenty-three blocks and twenty-four, around the default restart threshold; a mark, and the CLOSE entry. -/
theorem witness_Resumes :
    ¬Resumes ((waitingWith []).tc .tc0) (List.replicate 23 (.block block)) ∧
      Resumes ((waitingWith []).tc .tc0) (List.replicate 24 (.block block)) ∧
      Resumes ((waitingWith []).tc .tc0) [.block block, .mark] ∧ Resumes ((waitingWith []).tc .tc0) [.close] := by
  unfold Resumes; decide

theorem witness_WriteEntries (n : Nat) : WriteEntries (List.replicate n (.block block) ++ [.mark, .close]) := by
  intro e h
  rcases List.mem_append.mp h with h | h
  · exact .inl ⟨block, List.eq_of_mem_replicate h⟩
  · simp at h; exact .inr h

/-- An APPLY that lowers the restart threshold of a waiting job to one, and its resume threshold to that of one entry.
-/
theorem witness_ApplyMovesOrArmsTheCopy :
    Takes idle ∧ ((job .writing (.write writing)).tc .tc0).engaged = true ∧ (idle.tc .tc0).engaged = false ∧
      (idle.tc .tc0).job = none ∧
      (Takes (waitingWith [.block block]) ∧ ((waitingWith [.block block]).tc .tc0).engaged = false ∧
        ((waitingWith [.block block]).tc .tc0).st = .waiting ∧ writing.abort = .none ∧ writing.verdict = none) ∧
      (let c : Tc := { gov := { pending := { restart := 1 }, active := { restart := 1 } } }
       Resumes c [.block block] ∧ ¬Resumes c []) ∧
      (let s := bay { st := .waiting, job := some (.read reading), blockQ := [.readBlock ⟨0, 0, 1, 0⟩ block []] }
       Takes s ∧ (s.tc .tc0).blockQ.length ≤ (s.tc .tc0).gov.pending.resume ∧ reading.isCompare = false) :=
  ⟨takes_of (by decide), by decide, by decide, rfl, ⟨takes_of (by decide), by decide, by decide, by decide, by decide⟩,
    ⟨.inl (by decide), by unfold Resumes; decide⟩, takes_of (by decide), by decide, by decide⟩

/-- At the deadband's edge and one beyond it; with two frames to go; with an armed copy. -/
theorem witness_EvaluationMovesTheAccumulator :
    (armedMoved (gov 1536) = gov 1536 ∧ (gov 1536).active.n ≤ (gov 1536).evalCount + 1 ∧
        ((17 : Nat) : Int) - (gov 1536).active.s ≤ (gov 1536).active.d ∧
        ((gov 1536).active.d : Int) < ((18 : Nat) : Int) - (gov 1536).active.s) ∧
      (let g : Gov := { active := { n := 4 }, evalCount := 2 }
       g.evalCount + 1 < g.active.n ∧ g.active.n ≤ ({ g with evalCount := 3 } : Gov).evalCount + 1) ∧
      (let g : Gov := { pending := { n := 4, lmax := 8, lstart := 9 }, armed := true, a := 2900, l := 11 }
       armedMoved g = { g with active := { g.pending with lstart := 8 }, armed := false, a := 2048, l := 8 }) := by decide

/-- A frame written in WRITING and in DRAINING; a frame read with the block queue empty, a mark among them, and with a
block at its head; the faults, ABORTs and EOD frame that leave a state with frames counted. -/
theorem witness_EvaluationMovesTheAccumulator_frames :
    let w : WriteJob := { writing with inProgress := some frame }
    let blockOf : QEntry := .readBlock ⟨1, 0, 2, 0⟩ block []
    let s (q : List QEntry) : State := bay { st := .reading, pos := some 100, job := some (.read reading), blockQ := q }
    (((job .writing (.write w)).tc .tc0).job = some (.write w) ∧ ((job .writing (.write w)).tc .tc0).st = .writing ∧
        ((job .draining (.write w)).tc .tc0).st = .draining) ∧
      (((s []).tc .tc0).st = .reading ∧ ((s []).tc .tc0).job = some (.read reading) ∧ reading.ended = none ∧
        ((s [blockOf]).tc .tc0).blockQ = blockOf :: []) ∧
      classify reading.x (asRead (mkHeader .mark 0 10 0 0 0 0 []) []) =
        .accepted { hdr := mkHeader .mark 0 10 0 0 0 0 [], payload := [], payGood := true } true ∧
      classify reading.x (asRead (dataHdr 10 0) oneByte) = .accepted (dataRead 10 0) false ∧
      classify reading.x .unreadable = .counted ∧
      (((s []).tc .tc0).locate = none ∧ reading.short = none) ∧
      (let d := bay { st := .draining, pos := some 11, job := some (.write writing), inflight := [eodFrame] }
       (d.tc .tc0).job = some (.write writing) ∧ (d.tc .tc0).inflight = [eodFrame] ∧ eodFrame.entry = none ∧
         eodFrame.hdr.kind = 5 ∧ judge eodFrame.hdr (asRead eodFrame.hdr []) = true) := by decide +kernel

theorem witness_EvaluationMovesTheAccumulator_takes : Takes (job .reading (.read reading)) := takes_of (by decide)

theorem witness_WatchPointIsSetAndFires :
    Takes idle ∧ WatchPoint.address 0xFFFFFFFE#32 ≠ .address 0xFFFFFFFF#32 ∧ (idle.tc .tc0).watch = .off ∧
      ((bay { watch := .marks }).tc .tc0).watch = .marks ∧
      ((bay { watch := .address 0xFFFFFFFE#32 }).tc .tc0).watch = .address 0xFFFFFFFE#32 :=
  ⟨takes_of (by decide), by decide, rfl, rfl, rfl⟩

/-- A confirmed block, an accepted frame, the frame that ends a locate of each kind and a mark that one counts, with a
watch point that names each of them, and one that does not. -/
theorem witness_WatchPointIsSetAndFires_frames :
    let s : State := streaming
    let l : Locate := seek false (.forward 3)
    let m : Locate := { seek false (.counting false) with goal := .marks 3 }
    let c : Locate := seek false (.counting true)
    let markAt5 : Header := mkHeader .mark 0 51 5 0 0 0 []
    ((∃ w, (s.tc .tc0).job = some (.write w)) ∧ (s.tc .tc0).inflight = frame :: [] ∧ frame.entry = some entry ∧
        judge frame.hdr (asRead frame.hdr frame.payload) = true) ∧
      (({ s with tc0 := { s.tc0 with watch := .address 0 } } : State).tc .tc0).watch = .address 0 ∧
      (0 : Word).toNat = entry.addr ∧ (1 : Word).toNat ≠ entry.addr ∧ entry.block.isNone = false ∧
      (classify reading.x (asRead (dataHdr 10 0) oneByte) = .accepted (dataRead 10 0) false ∧
        ∀ f k, classify reading.x .unreadable ≠ .accepted f k) ∧
      (((locate (.read reading) l).tc .tc0).locate = some l ∧ l.phase = .forward 3 ∧ l.writing = false ∧
        l.goal = .address ∧ classify l.a (asRead (dataHdr 51 5) oneByte) = .accepted (dataRead 51 5) false) ∧
      ((locate (.read reading) c).tc .tc0).locate = some c ∧ c.phase = .counting true ∧ m.phase = .counting false ∧
      classify m.x (asRead markAt5 []) = .accepted { hdr := markAt5, payload := [], payGood := true } true := by
  refine ⟨⟨⟨_, rfl⟩, rfl, rfl, by decide +kernel⟩, rfl, by decide, by decide, rfl,
    ⟨by decide +kernel, fun _ _ h => nomatch h⟩, ⟨rfl, rfl, rfl, rfl, by decide +kernel⟩, rfl, rfl, rfl, by decide +kernel⟩

/-! ## Witnesses: encodings and the link -/

theorem witness_RequestsDecodeFromTheirEncodings :
    Request.wf (.label chars) = true ∧ Request.onChan (.label chars) (.transport .tc1) = true := by decide

def inFrame : InFrame := { dataIn := false, chan := .engine, tag := 3, payload := [0x01] }

theorem witness_ReceiverTakesWholeFrames :
    inFrame.payload.length ≤ 4096 ∧ inFrame.dataIn = false ∧ idle.lnk.rx = .boundary ∧ State.reset.lnk.rx = .hunting ∧
      idle.lnk.inbound.length < 2 ∧ 2 ≤ (linkOf { inbound := [inFrame, inFrame] }).lnk.inbound.length := by decide

/-- The boundary values that the note's checks admit: the greatest address, and a map entry just below it. -/
def noted : CartRecord :=
  { cls := some .t1, label := some { chars := chars, source := .tape }, loadCount := 65535,
    eod := .known 4294967294 786431 1, map := [⟨4294967293, 786430⟩], rawTotal := Config.max64, codedTotal := Config.max64 }

theorem witness_NoteImagesReadBackAsTheRecord :
    noted.cls = some .t1 ∧ (∀ l, noted.label = some l → isLabel l.chars = true) ∧ noted.loadCount ≤ 65535 ∧
      noted.rawTotal ≤ Config.max64 ∧ noted.codedTotal ≤ Config.max64 ∧ noted.map.length ≤ 64 ∧
      risingMap noted.map = true ∧ (∀ e ∈ noted.map, e.addr ≤ Config.max32 ∧ e.frame ≤ Config.max32) ∧
      (∀ a f n, noted.eod = .known a f n → a < Config.max32 ∧ 0 < f ∧ f < Config.capacity .t1 ∧ n ≤ Config.max32 ∧
        noted.map.length ≤ n ∧ ∀ e ∈ noted.map, e.addr < a) :=
  ⟨rfl, fun l h => by cases h; decide, by decide, by decide, by decide, by decide, by decide, by decide,
    fun a f n h => by cases h; decide⟩

theorem witness_WrittenFramesReadBack :
    (255 < 256) ∧ (4294967295 < 2 ^ 32) ∧ oneByte.length ≤ 32768 ∧
      (List.replicate 27 (0 : Byte)) ≠ (dataHdr 4294967295 4294967295).bytes := by decide +kernel

theorem witness_CompressedSlicesDecodeBack :
    1 ≤ slice1.length ∧ slice1.length ≤ 8192 ∧ slice0.length = min 14 4096 := by decide

/-- Sixteen replies wait, and an IDENT is the oldest inbound frame; then fifteen, so that the refusal has a place. -/
def fullReplies : State := linkOf { inbound := [inFrame], replies := List.replicate 16 aReply }

theorem witness_HandlingRunsTheFrameTaken :
    (fullReplies.lnk.resetting = false ∧ 16 ≤ fullReplies.lnk.replies.length ∧
        fullReplies.lnk.inbound = inFrame :: [] ∧ inFrame.dataIn = false ∧
        Request.onChan .cancel .changer = true ∧ Request.onChan .transportReset (.transport .tc1) = true) ∧
      (linkOf { inbound := [inFrame] }).lnk.inbound = inFrame :: [] ∧ inFrame.payload = encodeRequest .ident ∧
      Request.onChan .ident .engine = true ∧ decodeRequest .engine [0x7F] = .error .unknown ∧
      (List.replicate 15 aReply).length < 16 ∧
      ({ dataIn := true, chan := .transport .tc1, tag := 0, payload := [1] } : InFrame).chan = .transport .tc1 :=
  ⟨by decide, rfl, rfl, rfl, rfl, by decide, rfl⟩

/-- A code of another channel and one of no table; the lengths and values at the bounds of the table; an APPEND with a
number that is not examined. -/
theorem witness_HandlingRunsTheFrameTaken_payloads :
    (¬onItsChannel .engine 0x10 ∧ ¬onItsChannel (.transport .tc0) 0x2F ∧ onItsChannel (.transport .tc0) 0x2E) ∧
      (payloadLength 0x23 = some (0x23 :: chars).length ∧ payloadLength 0x23 ≠ some chars.length) ∧
      (listed [0x27, 3] ∧ ¬listed [0x27, 4] ∧ ¬listed [0x27, 0] ∧ listed [0x2D, 0, 9, 9, 9, 9] ∧
        ¬listed [0x26, 1, 0, 0, 0, 0, 0, 0, 0, 0, 4, 0, 0, 0, 0]) ∧
      examined [0x24, 1, 9, 9, 9, 9, 4] = encodeRequest (.write .append 4) ∧
      examined [0x24, 2, 0, 0, 0, 9, 4] = encodeRequest (.write (.fromFile 9) 4) := by
  refine ⟨by simp only [onItsChannel]; decide, by decide, ⟨?_, ?_, ?_, ?_, ?_⟩, by decide +kernel, by decide +kernel⟩ <;>
    unfold listed <;> decide

/-- Noise, the first length above 4096, and an IDENT whose check, kind, channel or DATA_IN channel is wrong. -/
theorem witness_LinkLinesAreFollowed :
    idle.lnk.resetting = false ∧ (∀ b ∈ ([0x00, 0xC4, 0xC6] : List Byte), b ≠ 0xC5) ∧ State.reset.lnk.rx = .hunting ∧
      idle.lnk.rx = .boundary ∧ 4096 < 256 * (0x10 : Byte).toNat + (0x01 : Byte).toNat ∧
      0 ≠ (crc16 [1, 0, 0, 0, 0, 1, 1]).toNat ∧ ((2 : Byte) ≠ 1 ∧ (2 : Byte) ≠ 4) ∧ 3 < (4 : Byte).toNat ∧
      (1 : Byte).toNat < 2 ∧ ([0x01] : List Byte).length ≤ 4096 := by decide +kernel

/-- Credits: none, and the last one. -/
def credited (j : Job) : State := bay { st := .writing, job := some j, granted := 1 }

theorem witness_DataInUsesACredit :
    ((idle.tc .tc0).granted = 0 ∧ [(1 : Byte)] ≠ []) ∧
      (((credited (.write { writing with closing := true })).tc .tc0).granted = 0 + 1 ∧
        ((credited (.write { writing with closing := true })).tc .tc0).job = some (.write { writing with closing := true })) ∧
      ((credited (.read { reading with atMark := true })).tc .tc0).job = some (.read { reading with atMark := true }) ∧
      (((credited (.write writing)).tc .tc0).st ≠ .waiting ∧ ((credited (.write writing)).cx .tc0).complete = false ∧
        ((credited (.write writing)).cx .tc0).slice = [] ∧ ((credited (.write writing)).tc .tc0).intake = [] ∧
        (List.replicate 4096 (0 : Byte)).length < 8192) ∧
      ({ credited (.write writing) with cx0 := { complete := true } } : State).cx0.complete = true := by decide +kernel

/-- A job that waits at its start, with a credit, and a block queue by which it does not resume. -/
theorem witness_DataInUsesACredit_waiting :
    let s := bay { st := .waiting, granted := 1, job := some (.write { writing with wrote := false }) }
    (s.tc .tc0).granted = 0 + 1 ∧ (s.tc .tc0).st = .waiting ∧ ¬Resumes (s.tc .tc0) (s.tc .tc0).blockQ ∧
      (s.cx .tc0).cur = { payload := [], raw := 0, slices := 0 } := by unfold Resumes; decide

/-- A COMPARE-mode verify with one credit out, and what the delivery queue holds. -/
def comparison : ReadJob := { spec := .verify 0 .toEod .compare .keepFirst, x := 1 }
def comparing (delivery : List DItem) (r : ReadJob := comparison) : State :=
  bay { st := .reading, pos := some 11, job := some (.read r), granted := 1, delivery := delivery }

/-- Checked bytes A and B of the block of address 0, its last among them. -/
def byteA : DByte := { byte := 0x41, addr := 0, pos := 0, last := false, checked := true }
def byteB : DByte := { byte := 0x42, addr := 0, pos := 1, last := true, checked := true }

/-- Nothing to compare with; two equal bytes; a first that differs; a gap, the unaligned marker, and behind it. -/
theorem witness_DataInUsesACredit_compare :
    let s := comparing []
    ((s.tc .tc0).granted = 0 + 1 ∧ (s.tc .tc0).job = some (.read comparison) ∧ (s.tc .tc0).st = .reading ∧
      (s.tc .tc0).blockQ = [] ∧ (s.tc .tc0).intake = [] ∧ (s.tc .tc0).delivery = [] ∧ comparison.closing = false ∧
      comparison.atMark = false ∧ comparison.short = none ∧ comparison.ended = none ∧ comparison.unaligned = false) ∧
      (((comparing [.chunk [byteA, byteB] false false]).tc .tc0).delivery = [.chunk [byteA, byteB] false false] ∧
        [byteA, byteB].map (·.byte) = [0x41, 0x42] ∧ (∀ d ∈ [byteA, byteB], d.checked = true ∧ d.addr = 0) ∧
        comparison.mismatchAt ≠ some 0) ∧
      (([0x40, 0x42] : List Byte) = ([] : List DByte).map (·.byte) ++ 0x40 :: [0x42] ∧ 0x40 ≠ byteA.byte ∧
        ([0x42] : List Byte).length = [byteB].length ∧ comparison.faults.length < 32) ∧
      ((comparing [.gap (.bytes 0 0 2)]).tc .tc0).delivery = [.gap (.bytes 0 0 2)] ∧
      ((comparing [.gap .unaligned]).tc .tc0).delivery = [.gap .unaligned] ∧
      ((comparing [] { comparison with unaligned := true }).tc .tc0).delivery = [] := by decide

/-! ## Witnesses: the streaming jobs -/

/-- READY with a KNOWN end of data one before the end of the tape, and one mark on the map. -/
def known : CartRecord := { tape with eod := .known 9 786431 1, map := [⟨4, 12⟩] }

theorem witness_StreamingJobsBeginWithTheirLocate :
    let s := bay { st := .ready } known
    Takes s ∧ (s.tc .tc0).st = .ready ∧ s.mtb.get (.bay .tc0) = some known ∧ known.cls = some .t1 ∧
      known.protect = some .clear ∧ (toAddress known true .address 9 786431).e < Config.capacity .t1 ∧
      (∀ a p n, known.eod = .known a p n → (1 : Word).toNat ≤ n) ∧ (1 : Word) ≠ 0xFFFFFFFF#32 ∧
      (∀ a p n, known.eod = .known a p n → (8 : Word).toNat < a) ∧ VerifyRange.toEod ≠ .count 0 ∧
      RestoreEnd.toMark ≠ .count 0 ∧
      (toAddress known false .address 8 (estimateFor known.map 8)).e < Config.capacity .t1 := by
  refine ⟨takes_of (by decide), by decide, by decide, by decide, by decide, by decide, ?_, by decide, ?_, by decide,
    by decide, by decide⟩ <;> intro a p n h <;> cases h <;> decide

/-- The map entry with the greatest address not above the one sought, in a map out of order; and a map with none. -/
theorem witness_StreamingJobsBeginWithTheirLocate_estimate :
    let m : List MapEntry := [⟨40000, 40312⟩, ⟨200, 201⟩]
    (⟨40000, 40312⟩ ∈ m ∧ 40000 ≤ 50000 ∧ (∀ e ∈ m, e.addr ≤ 50000 → e = ⟨40000, 40312⟩ ∨ e.addr < 40000)) ∧
      (∀ e ∈ m, 199 < e.addr) := by decide

/-- By file: file 0, the file behind a mark of the map, and one beyond the map, with it and without one; APPEND with
the end of data UNKNOWN; an estimate beyond the tape. -/
theorem witness_StreamingJobsBeginWithTheirLocate_file :
    let mapped : CartRecord := { tape with map := [⟨4, 12⟩] }
    (toFile known true 0).goal = .address ∧ (toFile known false 1).a = 5 ∧
      ((toFile mapped true 2).goal = .marks 2 ∧ (toFile mapped true 2).phase = .fast 4 ∧
        (toFile mapped true 2).e < Config.capacity .t1) ∧
      ((toFile tape false 2).phase = .fastFirst ∧ (toFile tape false 2).e < Config.capacity .t1) ∧
      ((∀ a p n, mapped.eod ≠ .known a p n) ∧ (toLastEntry mapped true .endOfData).a = 4) ∧
      Config.capacity .t1 ≤ (toFile { tape with map := [⟨4, 786432⟩] } true 1).e :=
  ⟨rfl, by decide, by decide, by decide, ⟨(fun _ _ _ h => nomatch h), by decide⟩, by decide⟩

theorem witness_AbortEndsOrMarksTheJob :
    (Takes (locate (.write writing) (seek true (.fast 42))) ∧
      ((locate (.write writing) (seek true (.fast 42))).tc .tc0).locate = some (seek true (.fast 42)) ∧
      (Job.write writing).kind = .write ∧ AbortMode.immediate ≠ .atMark) ∧
      (((job .waiting (.write { writing with wrote := false })).tc .tc0).locate = none ∧ writing.verdict = none ∧
        writing.abort = .none ∧ writing.wrote = true ∧ ((job .writing (.write writing)).tc .tc0).st ≠ .draining) ∧
      ((job .reading (.read reading)).tc .tc0).job = some (.read reading) ∧ reading.ended = none ∧ reading.short = none ∧
      (∀ x, (seek true (.fast 42)).phase ≠ .resync x) ∧ (∀ w, (idle.tc .tc0).job ≠ some (.write w)) ∧
      ∀ r, (idle.tc .tc0).job ≠ some (.read r) :=
  ⟨⟨takes_of (by decide), by decide, by decide, by decide⟩, by decide, by decide, by decide, by decide,
    (fun _ h => nomatch h), (fun _ h => nomatch h), (fun _ h => nomatch h)⟩

/-- A hitch, and a frame being written with blocks queued, before an ABORT and after a FINISH_QUEUED; the drain, a
decided ending and an ABORT taken before; a resync; a reading that has ended, and a comparison cut short. -/
theorem witness_AbortEndsOrMarksTheJob_streaming :
    let s (st : TcState) (w : WriteJob) :=
      bay { st := st, pos := some 10, job := some (.write w), blockQ := [.block block] }
    let busy := { writing with inProgress := some frame }
    let resync := locate (.read reading) (seek false (.resync 3))
    let done : ReadJob := { reading with ended := some .ok }
    let cut : ReadJob := { reading with spec := .verify 0 .toEod .compare .keepFirst, short := some (3, 4) }
    (Takes (s .hitch writing) ∧ ((s .hitch writing).tc .tc0).st = .hitch ∧ writing.abort ≠ .immediate) ∧
      (((s .writing busy).tc .tc0).st = .writing ∧ busy.inProgress ≠ none ∧ busy.verdict = none ∧ busy.abort = .none ∧
        (s .writing busy).tc0.locate = none) ∧
      ({ busy with abort := .finishQueued } : WriteJob).abort ≠ .immediate ∧
      (((s .draining writing).tc .tc0).st = .draining ∧ ({ writing with verdict := some .writeFault }).verdict ≠ none ∧
        ({ writing with abort := .immediate } : WriteJob).abort = .immediate ∧
        ({ writing with abort := .finishQueued } : WriteJob).wrote = true) ∧
      (Takes resync ∧ (resync.tc .tc0).job = some (.read reading) ∧
        ∃ l x, (resync.tc .tc0).locate = some l ∧ l.phase = .resync x) ∧
      (done.ended ≠ none ∧ done.short = none ∧ ((job .waiting (.read done)).tc .tc0).locate = none) ∧
      cut.short ≠ none ∧ ((job .reading (.read cut)).tc .tc0).job = some (.read cut) :=
  ⟨⟨takes_of (by decide), by decide, by decide⟩, by decide, by decide, by decide,
    ⟨takes_of (by decide), by decide, _, 3, rfl, rfl⟩, by decide, by decide, by decide⟩

/-- An ABORT after a good header read in a forward search, and before any in a try; an ABORT in WAITING. -/
theorem witness_AbortEndsOrMarksTheJob_places :
    let l := { seek true (.forward 3) with lastHeader := some 51 }
    (Takes (locate (.write writing) l) ∧ l.lastHeader = some 51 ∧ (∀ x, l.phase ≠ .resync x)) ∧
      (Takes (locate (.write writing) (seek true (.checking 42 7))) ∧ (seek true (.checking 42 7)).lastHeader = none) ∧
      (Takes (waitingWith [.block block]) ∧ ((waitingWith [.block block]).tc .tc0).locate = none ∧ writing.wrote = true ∧
        WriteStill ((waitingWith [.block block]).setTc .tc0 { (waitingWith [.block block]).tc .tc0 with intake := [] })
          .tc0 writing 786415) :=
  ⟨⟨takes_of (by decide), rfl, (fun _ h => nomatch h)⟩, ⟨takes_of (by decide), rfl⟩, takes_of (by decide), rfl, rfl,
    witness_WriteStill _ _⟩

/-- Three items in the intake queue, and four; a comparison with nothing to compare, and with a checked byte waiting. -/
theorem witness_MarkAndCloseJoinTheStream :
    let full := bay { st := .writing, job := some (.write writing), intake := List.replicate 4 (.item .mark) }
    let part := { bay { st := .writing, job := some (.write writing), intake := List.replicate 3 (.item .mark) } with
      cx0 := { complete := true } }
    let pass := bay { st := .writing, job := some (.write writing), blockQ := List.replicate 30 .mark }
    Takes full ∧ 4 ≤ itemCount (full.tc .tc0).intake ∧ itemCount (part.tc .tc0).intake < 4 ∧
      (part.cx .tc0).complete = true ∧ (pass.tc .tc0).blockQ.length + 1 < 32 ∧ (pass.cx .tc0).slice = [] ∧
      (((comparing []).tc .tc0).st = .reading ∧ ((comparing []).tc .tc0).job = some (.read comparison) ∧
        comparison.isCompare = true ∧ comparison.closing = false ∧ comparison.ended = none ∧ comparison.short = none ∧
        ((comparing []).tc .tc0).delivery = [] ∧ ((comparing []).tc .tc0).intake = []) ∧
      (((comparing [.chunk [byteA, byteB] false false]).tc .tc0).delivery = [.chunk [byteA, byteB] false false] ∧
        byteA.checked = true ∧ comparison.unaligned = false) ∧
      (idle.tc .tc0).job = none :=
  ⟨takes_of (by decide), by decide, by decide, by decide, by decide, by decide, by decide, by decide, rfl⟩

/-- A job in WAITING with an empty block queue, and with a block in its context, takes a MARK or a CLOSE. -/
theorem witness_MarkAndCloseJoinTheStream_waiting :
    let s : State := { waitingWith [] with cx0 := { dir := .write, cur := block } }
    (Takes s ∧ (s.tc .tc0).st = .waiting ∧ writing.closing = false ∧ (s.cx .tc0).complete = false ∧
        (s.cx .tc0).slice = [] ∧ (s.tc .tc0).blockQ.length + 1 < 32) ∧
      WriteStill s .tc0 writing 786415 ∧ WriteEntries (s.tc .tc0).blockQ ∧
      (Takes { waitingWith [] with cx0 := { complete := true } } ∧
        ¬Resumes ((waitingWith []).tc .tc0) ((waitingWith []).tc .tc0).blockQ) :=
  ⟨⟨takes_of (by decide), by decide⟩,
    ⟨(fun h => nomatch h), rfl, rfl, rfl, rfl, rfl, rfl, rfl, tape, .t1, rfl, rfl, by decide⟩, (fun _ h => nomatch h),
    takes_of (by decide), by unfold Resumes; decide⟩

/-- A write job whose locate is under way. -/
def locating : WriteJob := { mode := .append, limit := 4 }

theorem witness_WriteWaits (p : LocPhase) : WriteWaits (locate (.write locating) (seek true p)) .tc0 locating :=
  ⟨rfl, rfl, rfl, rfl, rfl, rfl, rfl, (by decide : 1 ≤ ({} : Gov).active.restart)⟩

/-- A MARK frame of a file, and a FILLER. -/
def markHdr (frame addr file : Nat) : Header := mkHeader .mark 0 frame addr file 0 0 []
def markRead (frame addr file : Nat) : ReadFrame := { hdr := markHdr frame addr file, payload := [], payGood := true }
def fillerHdr (frame addr : Nat) : Header := mkHeader .filler 0 frame addr 0 0 0 []
def fillerRead (frame addr : Nat) : ReadFrame := { hdr := fillerHdr frame addr, payload := [], payGood := true }

/-- A try: the 63rd and 64th frame without a header, of the first and third try; a header at the estimate, and above
it. -/
theorem witness_LocateSearchesForItsBlock_try :
    let s := locate (.read reading) { seek false (.checking 42 63) with tries := 2 }
    (s.tc .tc0).locate = some { seek false (.checking 42 63) with tries := 2 } ∧ (s.tc .tc0).job = some (.read reading) ∧
      (s.tc .tc0).pos = some 100 ∧ readFrame .unreadable = none ∧ (62 + 1 < 64) ∧ (64 ≤ 63 + 1) ∧
      (seek false (.fast 42)).tries < 2 ∧ (readFrame (asRead (eodHdr 50 5) [])) = some (eodRead 50 5) ∧
      (eodRead 50 5).hdr.frame ≤ (seek false (.checking 42 0)).e ∧
      readFrame (asRead (eodHdr 51 5) []) = some (eodRead 51 5) ∧ (seek false (.checking 42 0)).e < (eodRead 51 5).hdr.frame ∧
      (seek false (.resync 42)).phase = .resync 42 := by decide +kernel

/-- The forward search: the 8191st and 8192nd frame; a block of another address; EOD frames at the bounds of each
kind. -/
theorem witness_LocateSearchesForItsBlock_forward :
    let s := locate (.write locating) (seek true (.forward 8191))
    (s.tc .tc0).locate = some (seek true (.forward 8191)) ∧ (8190 + 1 < 8192) ∧ (8192 ≤ 8191 + 1) ∧
      (readFrame (asRead (dataHdr 51 4) oneByte) = some (dataRead 51 4) ∧ (dataRead 51 4).hdr.kind ≠ 5 ∧
        (dataRead 51 4).hdr.addr ≠ (seek true (.forward 0)).a) ∧
      (readFrame (asRead (eodHdr 51 5) []) = some (eodRead 51 5) ∧ (eodRead 51 5).hdr.kind = 5 ∧
        (eodRead 51 5).hdr.addr ≤ (seek false (.forward 0)).a) ∧
      (readFrame (asRead (eodHdr 51 4) []) = some (eodRead 51 4) ∧
        (eodRead 51 4).hdr.addr < (seek true (.forward 0)).a) := by decide +kernel

/-- A writing locate at the last frame place it may take, of an APPEND and of a FROM_FILE. -/
theorem witness_LocateSearchesForItsBlock_writing :
    let r : CartRecord := { tape with eod := .known 5 786415 0 }
    let s := locate (.write locating) (seek true (.forward 0)) r
    (s.tc .tc0).locate = some (seek true (.forward 0)) ∧ s.mtb.get (.bay .tc0) = some r ∧ r.cls = some .t1 ∧
      r.eod = .known (seek true (.forward 0)).a 786415 0 ∧ locating.mode = .append ∧
      ({ locating with mode := .fromFile 0 } : WriteJob).mode = .fromFile 0 ∧
      readFrame (asRead (eodHdr 786415 5) []) = some (eodRead 786415 5) ∧ (eodRead 786415 5).hdr.kind = 5 ∧
      (eodRead 786415 5).hdr.addr = (seek true (.forward 0)).a ∧
      (eodRead 786415 5).hdr.frame < Config.capacity .t1 - 16 := by decide +kernel

/-- A reading locate at its block, and behind the mark it has counted to. -/
theorem witness_LocateSearchesForItsBlock_reading :
    let s (p : LocPhase) := locate (.read reading) (seek false p)
    ((s (.forward 0)).tc .tc0).locate = some (seek false (.forward 0)) ∧
      ((s (.forward 0)).tc .tc0).job = some (.read reading) ∧
      classify (seek false (.forward 0)).a (asRead (dataHdr 51 5) oneByte) = .accepted (dataRead 51 5) false ∧
      classify (seek false (.counting true)).x (asRead (markHdr 51 5 0) []) = .accepted (markRead 51 5 0) true ∧
      ((s (.counting true)).tc .tc0).locate = some (seek false (.counting true)) ∧ reading.spec = .restore 0 .toEod ∧
      reading.bound ≠ some 6 ∧ reading.start = none ∧ reading.atMark = false ∧ reading.pendingGaps = [] ∧
      ((s (.forward 0)).tc .tc0).blockQ = [] ∧ ((s (.forward 0)).tc .tc0).watch = .off := by decide +kernel

/-- A mark count: the mark sought, the one before it, an EOD frame, a FILLER, the 63rd and 64th skip, the end bound. -/
theorem witness_LocateSearchesForItsBlock_marks :
    let l : Locate := { seek true (.counting false) with goal := .marks 2 }
    let s := locate (.write locating) l
    (s.tc .tc0).locate = some l ∧ l.bound ≠ some 6 ∧ ({ l with bound := some 6 } : Locate).bound = some 6 ∧
      (classify l.x (asRead (markHdr 786414 5 1) []) = .accepted (markRead 786414 5 1) true ∧
        (markRead 786414 5 1).hdr.file + 1 = 2 ∧ (markRead 786414 5 1).hdr.frame + 1 < Config.capacity .t1 - 16) ∧
      (classify l.x (asRead (markHdr 51 5 0) []) = .accepted (markRead 51 5 0) true ∧ (markRead 51 5 0).hdr.file + 1 ≠ 2) ∧
      classify l.x (asRead (eodHdr 51 5) []) = .endOfData (eodRead 51 5) ∧
      (readFrame (asRead (fillerHdr 51 5) []) = some (fillerRead 51 5) ∧ (fillerRead 51 5).hdr.kind = 4) ∧
      l.skip + 1 < 64 ∧ 64 ≤ ({ l with skip := 63 } : Locate).skip + 1 ∧
      ({ l with phase := .fastFirst } : Locate).goal = .marks 2 := by decide +kernel

theorem witness_EndOfDataSearchFindsThePlace_begin :
    let l (p : LocPhase) : Locate := { seek true p with goal := .endOfData }
    let s (p : LocPhase) := locate (.write locating) (l p)
    ((s .fastFirst).tc .tc0).locate = some (l .fastFirst) ∧ 1 < Config.capacity .t1 - 16 ∧
      ((s (.forward 0)).tc .tc0).locate = some (l (.forward 0)) ∧
      (s (.forward 0)).mtb.get (.bay .tc0) = some tape ∧
      classify (l (.forward 0)).a (asRead (markHdr 786414 5 0) []) = .accepted (markRead 786414 5 0) true ∧
      (markRead 786414 5 0).hdr.frame + 1 < Config.capacity .t1 - 16 := by decide +kernel

/-- A run of 30 and of 31 frames without a good header; the 63rd and 64th skip, a block of another address; a place one
before the reserve zone, and in it. -/
theorem witness_EndOfDataSearchFindsThePlace :
    let sr : Search := { run := 31, startFrame := 1, startFiles := 0 }
    let s := locate (.write locating) (seek true (.searching sr))
    (s.tc .tc0).locate = some (seek true (.searching sr)) ∧ (s.tc .tc0).pos = some 100 ∧
      s.mtb.get (.bay .tc0) = some tape ∧
      (30 + 1 < 32) ∧ 32 ≤ sr.run + 1 ∧ sr.lastGood = none ∧ sr.startFrame < Config.capacity .t1 - 16 ∧
      (62 + 1 < 64) ∧ (64 ≤ 63 + 1) ∧ (786414 + 1 < Config.capacity .t1 - 16) ∧ (Config.capacity .t1 - 16 ≤ 786415 + 1) ∧
      ({ sr with lastGood := some 786414 } : Search).lastGood = some 786414 ∧
      (readFrame (asRead (eodHdr 786415 5) []) = some (eodRead 786415 5) ∧ (eodRead 786415 5).hdr.malformed = false ∧
        (eodRead 786415 5).hdr.addr = (seek true (.searching sr)).x) ∧
      classify 5 (asRead (dataHdr 51 5) oneByte) = .accepted (dataRead 51 5) false ∧
      (readFrame (asRead (dataHdr 51 6) oneByte) = some (dataRead 51 6) ∧
        classify 5 (asRead (dataHdr 51 6) oneByte) = .counted ∧ (seek true (.searching sr)).skip + 1 < 64) ∧
      readFrame (asRead (fillerHdr 51 5) []) = some (fillerRead 51 5) := by decide +kernel

/-- R66, R82: the run takes a frame without a good header, and the skips stay at 63. -/
theorem test_search_run_leaves_the_skips :
    let sr : Search := { run := 3, startFrame := 1, startFiles := 0 }
    let l : Locate := { seek true (.searching sr) with skip := 63 }
    (((locate (.write locating) l).searchFrame .tc0 l sr .unreadable).tc .tc0).locate =
      some { l with phase := .searching { sr with run := 4 } } := by decide +kernel

theorem witness_WrittenFrameGoesInFlight :
    ((job .writing (.write { writing with inProgress := some frame })).tc .tc0).job =
        some (.write { writing with inProgress := some frame }) ∧ frame.entry = some entry ∧ frame.hdr.kind ≠ 4 ∧
      frame.hdr.kind ≠ 5 ∧ (job .writing (.write writing)).mtb.get (.bay .tc0) = some tape := by decide +kernel

/-- An EOD frame, the first frame of its job. -/
theorem witness_WrittenFrameGoesInFlight_first :
    let w : WriteJob := { mode := .fromFile 0, limit := 4, start := some 0, inProgress := some eodFrame }
    ((job .draining (.write w)).tc .tc0).job = some (.write w) ∧ w.wrote = false ∧ eodFrame.hdr.kind = 5 ∧
      (job .draining (.write w)).mtb.get (.bay .tc0) = some tape := by decide +kernel

/-- A write job with a frame in progress, and frames in flight. -/
def writingFrame (st : TcState) (f : WFrame) (flight : List WFrame) (w : WriteJob := writing) : State :=
  bay { st := st, pos := some f.hdr.frame, job := some (.write { w with inProgress := some f }), inflight := flight }
def filler (frame : Nat) : WFrame := { hdr := fillerHdr frame 1, payload := [], entry := none, fromRewrite := false }
def dataFrame (frame : Nat) : WFrame := { hdr := dataHdr frame 0, payload := oneByte, entry := some entry, fromRewrite := false }

/-- The 23rd and 24th FILLER of 24 before the reserve zone, with a frame in flight four places back and with FILLERs
alone; a FILLER before the reserve zone; an EOD frame of the drain. -/
theorem witness_WrittenFrameGoesInFlight_fillers :
    let w := { writing with fillers := 23, fillerLimit := 24 }
    let s := writingFrame .writing (filler 786414) [dataFrame 786412] w
    (s.tc .tc0).job = some (.write { w with inProgress := some (filler 786414) }) ∧ w.wrote = true ∧ w.abort = .none ∧
      w.verdict = none ∧ (s.tc .tc0).st = .writing ∧ s.mtb.get (.bay .tc0) = some tape ∧ (s.cx .tc0).closed = none ∧
      (∀ g ∈ (s.tc .tc0).inflight ++ [filler 786414], g.hdr.kind ≠ 5 ∧ 786414 + 1 < g.hdr.frame + 4) ∧
      786414 + 1 < Config.capacity .t1 - 16 ∧ Config.capacity .t1 - 2048 ≤ 786414 + 1 ∧ (dataFrame 786412).entry ≠ none ∧
      ({ w with fillers := 22 } : WriteJob).fillers + 1 < w.fillerLimit ∧ w.fillerLimit ≤ w.fillers + 1 ∧
      ((filler 786412).entry = none ∧ (filler 786412).hdr.kind = 4) ∧
      (∀ g ∈ [dataFrame 786413] ++ [filler 786415], g.hdr.kind ≠ 5 ∧ 786415 + 1 < g.hdr.frame + 4) ∧
      Config.capacity .t1 - 16 ≤ 786415 + 1 ∧
      (((writingFrame .draining eodFrame []).tc .tc0).st = .draining ∧ eodFrame.hdr.kind = 5 ∧ eodFrame.entry = none ∧
        eodFrame.fromRewrite = false) := by decide +kernel

/-- A frame written at the last place but one before the reserve zone, with an entry to rewrite, with a block, a mark and
the CLOSE entry at the head, and in the drain; and a frame whose entry has moved to the rewrite list. -/
theorem witness_WrittenFrameGoesInFlight_choice :
    let s (st : TcState) (f : WFrame) (q : List QEntry) (rw : List WEntry) : State :=
      bay { st := st, pos := some 786414, job := some (.write { writing with inProgress := some f })
            inflight := [dataFrame 786412], blockQ := q, rewrite := rw }
    let f := dataFrame 786414
    let moved : WFrame := { f with entry := none }
    ((s .writing f [] [entry]).tc .tc0).rewrite = entry :: [] ∧
      ((s .writing f [.block block] []).tc .tc0).blockQ = .block block :: [] ∧
      ((s .writing f [.mark, .close] []).tc .tc0).blockQ = .mark :: [.close] ∧
      ((s .writing f [.close] []).tc .tc0).blockQ = .close :: [] ∧ ((s .draining f [] []).tc .tc0).st = .draining ∧
      ((s .writing f [] []).tc .tc0).intake = [] ∧ ((s .writing f [] []).cx .tc0).closed = none ∧
      ((s .writing f [] []).cx .tc0).held = none ∧ 786414 + 1 < Config.capacity .t1 - 16 ∧
      (∀ g ∈ [dataFrame 786412] ++ [f], g.hdr.kind ≠ 5 ∧ 786414 + 1 < g.hdr.frame + 4) ∧
      (moved.entry = none ∧ moved.hdr.kind ≠ 4 ∧ moved.hdr.kind ≠ 5) := by decide +kernel

theorem witness_ReadBackConfirmsOrRewrites :
    let s := bay { st := .writing, pos := some 786414, job := some (.write { writing with inProgress := some frame }),
                   inflight := [frame] }
    (s.tc .tc0).inflight = frame :: [] ∧ (s.tc .tc0).pos = some 786414 ∧ s.mtb.get (.bay .tc0) = some tape ∧
      judge frame.hdr (asRead frame.hdr frame.payload) = true ∧ judge frame.hdr .unreadable = false ∧
      entry.rewrites + 1 ≤ writing.limit ∧ 786414 + 1 < Config.capacity .t1 - 16 ∧
      ({ writing with limit := 0 } : WriteJob).limit < entry.rewrites + 1 ∧ writing.verdict = none ∧ 11 ≠ frame.hdr.frame := by
  decide +kernel

/-- In-flight lists as a write job keeps them: an entry's frame, FILLERs and an EOD frame; and one that is not such. -/
theorem witness_ReadBackConfirmsOrRewrites_flight :
    (writingFrame .writing frame [frame, filler 11, eodFrame]).tc0.FlightTold ∧
      ¬(writingFrame .writing frame [frame, { frame with entry := none }]).tc0.FlightTold := by
  unfold Tc.FlightTold; decide +kernel

/-- The rewrite would fall in the reserve zone; a FILLER is the oldest frame in flight. -/
theorem witness_ReadBackConfirmsOrRewrites_reserve :
    let s := writingFrame .writing (filler 786415) [dataFrame 786413]
    (s.tc .tc0).inflight = dataFrame 786413 :: [] ∧ (s.tc .tc0).pos = some 786415 ∧
      entry.rewrites + 1 ≤ writing.limit ∧ Config.capacity .t1 - 16 ≤ 786415 + 1 ∧
      (let v := writingFrame .writing (dataFrame 13) [filler 12]
       (v.tc .tc0).inflight = filler 12 :: [] ∧ (filler 12).entry = none ∧ (filler 12).hdr.kind = 4 ∧
         (v.tc .tc0).intake = [] ∧ (v.cx .tc0).closed = none ∧ (v.cx .tc0).held = none) := by decide +kernel

theorem witness_DrainEndsAtTheEodFrame :
    let w := { writing with eodFrames := 2, warned := true }
    let s := bay { st := .draining, pos := some 786431, job := some (.write w), inflight := [eodFrame] }
    (s.tc .tc0).inflight = [eodFrame] ∧ eodFrame.entry = none ∧ eodFrame.hdr.kind = 5 ∧ (s.tc .tc0).pos = some 786431 ∧
      s.mtb.get (.bay .tc0) = some tape ∧ judge eodFrame.hdr (asRead eodFrame.hdr []) = true ∧
      judge eodFrame.hdr .unreadable = false ∧ w.eodFrames < 3 ∧ 3 ≤ ({ w with eodFrames := 3 } : WriteJob).eodFrames ∧
      w.inProgress = none ∧ w.abort = .none ∧ 786431 < Config.capacity .t1 := by decide +kernel

/-- No frame place is left behind the EOD frame. -/
theorem witness_DrainEndsAtTheEodFrame_no_place :
    let s := bay { st := .draining, pos := some 786432, job := some (.write writing), inflight := [eodFrame] }
    (s.tc .tc0).pos = some 786432 ∧ Config.capacity .t1 ≤ 786432 ∧ s.mtb.get (.bay .tc0) = some tape ∧
      tape.cls = some .t1 := by decide +kernel

theorem witness_HitchEndsInWaitingOrStreaming :
    let s := waitingWith (List.replicate 24 (.block block)) .hitch
    let r := bay { st := .hitch, job := some (.read reading), blockQ := List.replicate 8 (.readBlock ⟨0, 0, 1, 0⟩ block []) }
    ((s.tc .tc0).st = .hitch ∧ (s.tc .tc0).blockQ ≠ [] ∧ writing.abort = .none ∧ writing.verdict = none) ∧
      ({ writing with abort := .immediate } : WriteJob).abort ≠ .none ∧
      (job .hitch (.write { writing with start := none })).tc0.st = .hitch ∧
      (r.tc .tc0).blockQ.length ≤ (r.tc .tc0).gov.active.resume ∧ reading.isCompare = false ∧ reading.ended = none ∧
      (bay { st := .hitch, job := some (.read reading),
             blockQ := List.replicate 9 (.readBlock ⟨0, 0, 1, 0⟩ block []) }).tc0.blockQ.length = 9 := by decide +kernel

/-- The 63rd and the 64th skip; a queue of 31 entries. -/
theorem witness_ReadingAcceptsInAddressOrder :
    ((job .reading (.read reading)).tc .tc0).blockQ = [] ∧ ((job .reading (.read reading)).tc .tc0).watch = .off ∧
      reading.spec = .restore 0 .toEod ∧ reading.atMark = false ∧ reading.pendingGaps = [] ∧ (62 + 1 < 64) ∧ (64 ≤ 63 + 1) ∧
      (job .reading (.read reading)).opOf .tc0 = false ∧ reading.faultCount = 0 ∧ readFrame .unreadable = none ∧
      classify 0 (asRead (dataHdr 10 0) oneByte) = .accepted (dataRead 10 0) false ∧
      reading.bound ≠ some ((dataRead 10 0).hdr.addr + 1) ∧
      (List.replicate 31 (QEntry.readBlock ⟨0, 0, 1, 0⟩ block [])).length < 32 ∧
      classify 0 (asRead (eodHdr 10 0) []) = .endOfData (eodRead 10 0) := by decide +kernel

/-- A restore marked by ABORT AT_MARK meets the EOD frame: to the end of data its range was delivered whole, and of a
count it was not. -/
theorem witness_ReadingAcceptsInAddressOrder_at_mark :
    let r (stop : RestoreEnd) : ReadJob := { spec := .restore 0 stop, x := 0, atMark := true, resume := some (0, 0) }
    ((job .reading (.read (r .toEod))).tc .tc0).st = .reading ∧ (r .toEod).ended = none ∧
      ((job .reading (.read (r (.count 9)))).tc .tc0).job = some (.read (r (.count 9))) ∧
      (r (.count 9)).atMark = true ∧ classify 0 (asRead (eodHdr 10 0) []) = .endOfData (eodRead 10 0) ∧
      (job .reading (.read (r .toEod))).opOf .tc0 = false ∧
      ({ r .toEod with ended := some .ok } : ReadJob).resumePoint .aborted = none ∧
      ({ r (.count 9) with ended := some .endOfData } : ReadJob).resumePoint .aborted = some (0, 0) := by decide +kernel

/-- The ends of a reading: the last of a count, and one before it; a mark that TO_MARK or an ABORT AT_MARK ends at;
the end bound. A mark where none ends it. -/
theorem witness_ReadingAcceptsInAddressOrder_ends :
    let count : ReadJob := { spec := .restore 0 (.count 3), x := 0, accepted := 2 }
    let check : ReadJob := { spec := .verify 0 (.count 1) .check .keepFirst, x := 0 }
    classify 0 (asRead (markHdr 10 0 0) []) = .accepted (markRead 10 0 0) true ∧
      ((3 : Word).toNat ≤ count.accepted + 1 ∧ ¬ (3 : Word).toNat ≤ ({ count with accepted := 1 } : ReadJob).accepted + 1 ∧
        ({ count with bound := some 1 } : ReadJob).bound = some ((dataRead 10 0).hdr.addr + 1)) ∧
      ({ reading with spec := .restore 0 .toMark } : ReadJob).spec = .restore 0 .toMark ∧
      ({ reading with atMark := true } : ReadJob).atMark = true ∧
      ({ reading with bound := some 1 } : ReadJob).bound = some ((dataRead 10 0).hdr.addr + 1) ∧
      (check.spec = .verify 0 (.count 1) .check .keepFirst ∧ 0 + (1 : Word).toNat ≤ (dataRead 10 0).hdr.addr + 1) ∧
      ({ check with spec := .verify 0 .toEod .check .keepFirst, bound := some 1 } : ReadJob).bound = some 1 ∧
      ((job .reading (.read check)).tc .tc0).intake = [] ∧ reading.bound ≠ some ((markRead 10 0 0).hdr.addr + 1) := by
  decide +kernel

/-- A verify's first and second read fault, one on the last address of its count and one before its end bound, with a
full fault list and without; what it saw of the block in COMPARE mode; and the move back. -/
theorem witness_ReadingAcceptsInAddressOrder_fault :
    let v : ReadJob := { spec := .verify 0 (.count 9) .check .keepFirst, x := 7, skip := 63 }
    let s (r : ReadJob) := job .reading (.read r)
    ((s v).tc .tc0).job = some (.read v) ∧ ((s v).tc .tc0).st = .reading ∧ ((s v).tc .tc0).pos = some 100 ∧
      64 ≤ v.skip + 1 ∧ v.bound ≠ some (v.x + 1) ∧
      ({ v with bound := some 8 } : ReadJob).bound = some (v.x + 1) ∧ v.resynced = false ∧ v.unaligned = false ∧ v.pendingGaps = [] ∧
      (s v).opOf .tc0 = false ∧ (∀ n, VerifyRange.count 9 = .count n → v.x + 1 < 0 + n.toNat) ∧
      ({ v with resynced := true } : ReadJob).resynced = true ∧ v.faults.length < 32 ∧
      32 ≤ (List.replicate 32 ({ addr := 1, kind := .unreadable, offset := 0 } : VFault)).length ∧
      ({ v with x := 8 } : ReadJob).x + 1 = 0 + (9 : Word).toNat ∧
      ({ v with lastSeen := some 1 } : ReadJob).lastSeen = some (0 + 1) ∧ (seek false (.resync 3)).phase = .resync 3 :=
  ⟨by decide, by decide, by decide, by decide, by decide, by decide, by decide, by decide, by decide, by decide,
    (fun n h => by cases h; decide), by decide, by decide, by decide, by decide, by decide, by decide⟩

/-- The example of section 8.5: the read fault leaves x at 9,001, and the end of the fast move makes it 9,002. -/
theorem test_read_fault_keeps_x :
    let r : ReadJob := { spec := .verify 9000 (.count 4) .check .keepFirst, x := 9001, skip := 64 }
    r.unreadable.x = 9001 ∧ r.unreadable.resyncLocate.x = 9002 ∧ r.unreadable.past.x = 9002 ∧
      r.unreadable.past.skip = 0 := by decide

theorem witness_CompressionAppendsTheSlice :
    let s (k : Nat) (c : Tc) : State := { bay c with
      dp := some { t := .tc0, decode := false, abandoned := false }
      cx0 := { dir := .write, slice := [0x41], complete := true, cur := { payload := [], raw := 0, slices := k } } }
    let c : Tc := { st := .waiting, pos := some 786415, job := some (.write writing) }
    ((s 30 c).dp = some { t := .tc0, decode := false, abandoned := false } ∧ ((s 30 c).tc .tc0).intake = [] ∧
        ((s 30 c).cx .tc0).cur.slices + 1 < 32 ∧ ¬Resumes ((s 30 c).tc .tc0) ((s 30 c).tc .tc0).blockQ) ∧
      (32 ≤ ((s 31 c).cx .tc0).cur.slices + 1 ∧ ((s 31 c).tc .tc0).blockQ.length + 1 < 32 ∧
        ¬Resumes ((s 31 c).tc .tc0) [.block block] ∧
        Resumes ((s 31 c).tc .tc0) (List.replicate 23 (.block block) ++ [.block block])) ∧
      ((s 3 { c with intake := [.item .mark] }).tc .tc0).intake = [.item .mark] ∧
      Resumes ((s 3 c).tc .tc0) [.block block, .mark] ∧ idle.ready .tc0 = false ∧ idle.ready .tc1 = false := by
  unfold Resumes; decide +kernel

/-- Two write jobs with a complete slice each, and a restore with a block to decode, the datapath idle, at work and at
an abandoned operation; readiness in each. -/
theorem witness_CompressionAppendsTheSlice_next :
    let c : Tc := { st := .waiting, pos := some 786415, job := some (.write writing) }
    let full : Ctx := { dir := .write, slice := [0x41], complete := true }
    let s (dp : Option DpOp) : State := { bay c with tc1 := c, dp := dp, cx0 := full, cx1 := full }
    ((s none).ready .tc0 = true ∧ (s none).ready .tc1 = true ∧ (s none).dp = none) ∧
      ({ s none with cx0 := {} } : State).ready .tc0 = false ∧
      ((s (some ⟨.tc0, false, true⟩)).dp = some { t := .tc0, decode := false, abandoned := true } ∧
        (s (some ⟨.tc0, false, true⟩)).dp ≠ none) ∧
      ((s none).tc .tc0).job = some (.write writing) ∧ (idle.tc .tc0).job = none ∧
      (s (some ⟨.tc0, false, false⟩)).ready .tc0 = false ∧ (s (some ⟨.tc0, false, false⟩)).ready .tc1 = true ∧
      (let r : State :=
         { bay { st := .reading, job := some (.read { reading with start := some 0 })
                 blockQ := [.readBlock ⟨0, 0, 1, 0⟩ block []] } with cx0 := { dir := .read } }
       r.ready .tc0 = true ∧ (r.tc .tc0).blockQ = .readBlock ⟨0, 0, 1, 0⟩ block [] :: []) := by decide +kernel

/-- A restore whose queue holds one block, its decode in progress: good, and with a check altered. -/
def decoding (b : Block) : State :=
  { bay { st := .reading, job := some (.read reading), blockQ := [.readBlock ⟨0, 0, 1, 0⟩ b []] } with
    dp := some { t := .tc0, decode := true, abandoned := false }, cx0 := { dir := .read, ref := true } }

theorem witness_DecodeChecksOrFaultsTheBlock :
    (decoding block).dp = some { t := .tc0, decode := true, abandoned := false } ∧
      ((decoding block).tc .tc0).blockQ = [.readBlock ⟨0, 0, 1, 0⟩ block []] ∧
      block.slices = ((decoding block).cx .tc0).next + 1 ∧ (decodeNext ((decoding block).cx .tc0) block).result = .good ∧
      reading.isRestore = true ∧ ((decoding block).tc .tc0).delivery = [] ∧ reading.pendingGaps = [] ∧
      (decodeNext ((decoding block).cx .tc0) { block with payload := [2, 0, 1, 0, 1, 0, 0, 0, 0, 0x41] }).result =
        .checkFault 0 := by decide +kernel

/-- A reading in WAITING whose last block leaves, and one with nine more behind it, above the default resume
threshold. -/
theorem witness_DecodeChecksOrFaultsTheBlock_waiting :
    let s (n : Nat) : State :=
      { decoding block with
        tc0 := { st := .waiting, pos := some 100, job := some (.read reading)
                 blockQ := .readBlock ⟨0, 0, 1, 0⟩ block [] :: List.replicate n (.readBlock ⟨1, 0, 2, 0⟩ block []) } }
    (s 0).dp = some { t := .tc0, decode := true, abandoned := false } ∧ ((s 0).tc .tc0).st = .waiting ∧
      reading.isCompare = false ∧ reading.ended = none ∧ reading.short = none ∧
      (decodeNext ((s 0).cx .tc0) block).result = .good ∧ block.slices = ((s 0).cx .tc0).next + 1 ∧
      (List.replicate 8 (QEntry.readBlock ⟨1, 0, 2, 0⟩ block [])).length ≤ ((s 8).tc .tc0).gov.active.resume ∧
      ¬(List.replicate 9 (QEntry.readBlock ⟨1, 0, 2, 0⟩ block [])).length ≤ ((s 9).tc .tc0).gov.active.resume := by
  decide +kernel

/-- A block of two slices; a fault behind a checked byte of the delivery queue; an abandoned decode. -/
theorem witness_DecodeChecksOrFaultsTheBlock_restore :
    let two : Block := { payload := oneByte ++ oneByte, raw := 2, slices := 2 }
    let s := decoding block
    (decodeNext ((decoding two).cx .tc0) two).result = .good ∧ ((decoding two).cx .tc0).next + 1 < two.slices ∧
      ((decoding two).cx .tc0).ref = true ∧ reading.isCompare = false ∧
      (({ s with tc0 := { s.tc0 with delivery := [.chunk [byteA] false false] } } : State).tc .tc0).delivery =
        [.chunk [byteA] false false] ∧ byteA.checked = true ∧
      ({ idle with dp := some { t := .tc0, decode := true, abandoned := true } } : State).ready .tc0 = false ∧
      ({ idle with dp := some { t := .tc0, decode := true, abandoned := true } } : State).ready .tc1 = false := by
  decide +kernel

/-- A verify in each mode, with a slice that decodes to nothing and one whose check differs. -/
theorem witness_DecodeChecksOrFaultsTheBlock_verify :
    let v (m : VerifyMode) : ReadJob := { spec := .verify 0 .toEod m .keepFirst, x := 1 }
    let s (m : VerifyMode) : State := { decoding block with tc0 := { (decoding block).tc0 with job := some (.read (v m)) } }
    ((s .check).tc .tc0).job = some (.read (v .check)) ∧ ((s .compare).tc .tc0).job = some (.read (v .compare)) ∧
      ((s .check).tc .tc0).st = .reading ∧ ((s .check).tc .tc0).delivery = [] ∧ ((s .check).tc .tc0).intake = [] ∧
      (v .compare).unaligned = false ∧ (v .compare).faults.length < 32 ∧
      (decodeNext ((s .compare).cx .tc0) { block with payload := [9, 0, 1, 0, 1, 0, 0, 0, 0, 0x41] }).result =
        .decodeError 0 ∧
      ((s .compare).cx .tc0).decoded < block.raw := by decide +kernel

/-- The same behind the end of the reading: a faulty slice, the last slice of a CHECK-mode verify, and that of a
restore. -/
theorem witness_DecodeChecksOrFaultsTheBlock_ended :
    let bad : Block := { block with payload := [2, 0, 1, 0, 1, 0, 0, 0, 0, 0x41] }
    let s (r : ReadJob) (b : Block) (d : List DItem) : State :=
      { decoding b with
        tc0 := { st := .waiting, pos := some 100, job := some (.read r), blockQ := [.readBlock ⟨0, 0, 1, 0⟩ b []]
                 delivery := d } }
    let r : ReadJob := { reading with ended := some .readFault }
    let v : ReadJob := { spec := .verify 0 .toEod .check .keepFirst, x := 1, ended := some .ok, faultCount := 1 }
    (((s r bad []).tc .tc0).st = .waiting ∧ r.ended = some .readFault ∧ r.isRestore = true ∧ r.short = none ∧
        r.pendingGaps = [] ∧ ((s r bad []).tc .tc0).delivery = [] ∧
        (decodeNext ((s r bad []).cx .tc0) bad).result = .checkFault 0) ∧
      (((s v block []).tc .tc0).job = some (.read v) ∧ v.isCompare = false ∧ v.isRestore = false ∧
        JobResult.ok ≠ .restoreFault ∧ (decodeNext ((s v block []).cx .tc0) block).result = .good ∧
        block.slices = ((s v block []).cx .tc0).next + 1 ∧ ((s v block []).tc .tc0).intake = [] ∧ 0 < v.faultCount) ∧
      (((s r block [.chunk [byteA] false false]).tc .tc0).delivery = [.chunk [byteA] false false] ∧ r.isCompare = false ∧
        JobResult.readFault ≠ .restoreFault) := by decide +kernel

/-- Read contexts at the bound of the room for their next slice, and in CHECK mode; delivery queues of a restore, with a
filling chunk and without. -/
theorem witness_DecodeChecksOrFaultsTheBlock_room :
    let one : DItem := .chunk [byteA] true false
    let s (spec : ReadSpec) (d : List DItem) : State :=
      { bay { st := .reading, job := some (.read { spec := spec, x := 1, start := some 0, applied := 0 }),
              blockQ := [.readBlock ⟨0, 0, 1, 0⟩ block []], delivery := d } with cx0 := { dir := .read } }
    ((s (.restore 0 .toEod) (List.replicate 15 one)).ready .tc0 = true ∧
        (s (.restore 0 .toEod) (List.replicate 16 one)).ready .tc0 = false ∧
        (s (.verify 0 .toEod .check .keepFirst) (List.replicate 16 one)).ready .tc0 = true) ∧
      0 + nextRaw (block.payload.drop 0) - max 0 (leftOut reading ⟨0, 0, 1, 0⟩ block) = 1 ∧
      leftOut { reading with start := some 0, applied := 1 } ⟨0, 0, 1, 0⟩ block = 1 ∧
      deliveryRoom [one, .mark, .chunk [byteA] false false] = 4095 + 4096 * 14 := by decide +kernel

theorem witness_RestoreQueue (bs : List DByte) : RestoreQueue [.mark, .chunk bs true false, .chunk bs false false] := by
  intro e h
  simp at h
  rcases h with rfl | rfl | rfl
  · exact .inr rfl
  · exact .inl ⟨_, _, rfl⟩
  · exact .inl ⟨_, _, rfl⟩

/-- A delivery queue that ends with a filling chunk, and one that does not. -/
theorem witness_RestoreQueue_filling :
    ([.mark, .chunk [byteA] false false] : List DItem) = [.mark] ++ [.chunk [byteA] false false] ∧
      [byteA].length ≤ 4096 ∧
      ∀ (front : List DItem) (bs : List DByte), [.mark] ≠ front ++ [.chunk bs false false] := by
  refine ⟨rfl, by decide, fun front bs h => ?_⟩
  have := congrArg List.getLast? h
  simp at this

end Sys2Proof.Tests
end

section
/-! PROOFS. Section 2.1, the changer's requests: the CANCELLED ends of orders (R28), and CANCEL (R45). -/

open Sys2Proof Sys2Proof.Machine Sys2Proof.Claims

namespace Sys2Proof.Proofs

/-- An order that has not started ends without location, label, note state and counts, whatever the media table holds
(R28). -/
theorem moveEndOf_not_started (s : State) (o : Order) (res : MoveResult) :
    s.moveEndOf o res none false =
      { order := o, result := res, loc := none, label := none, noteState := none, counts := none } := by
  simp [State.moveEndOf]

/-- Cancelling orders queues their CANCELLED ends, in queue order, and touches nothing else (R28, R45). -/
theorem cancelOrders_eq (s : State) (os : List Order) :
    s.cancelOrders os = s.modLnk fun l => queued l (cancelled os) := by
  induction os generalizing s with
  | nil => rfl
  | cons o os ih =>
    have first_end : s.cancelOrders (o :: os) =
        (s.notify (.moveEnd (s.moveEndOf o .cancelled none false))).cancelOrders os := rfl
    rw [first_end, ih, moveEndOf_not_started]
    rfl

/-- A reply on the changer's channel is one reply more, and nothing else (R174). -/
theorem chgReply_eq (s : State) (tag code : Byte) (b : ReplyBody) :
    s.chgReply tag code b = replied s .changer tag code b := rfl

/-- The orders that CANCEL leaves in the queue: the head if it has started (R45). -/
def startedOrders (c : Chg) : List Order := if c.step.isSome then c.queue.take 1 else []

/-- The started order and the orders that have not started make up the queue, in its order (R45). -/
theorem started_append_waitingOrders (c : Chg) :
    startedOrders c ++ c.waitingOrders = c.queue := by
  unfold startedOrders Chg.waitingOrders
  split
  · rw [← List.drop_one, List.take_append_drop]
  · rfl

/-- A number of one byte (00_scope.md, Byte order). -/
theorem beBytes_one (n : Nat) : beBytes 1 n = [BitVec.ofNat 8 n] := by
  simp [beBytes]

/-- What CANCEL does outside FAULTED: the answer goes before the ends that it counts (R45). -/
theorem takeCancel_of_not_faulted {s : State} (tag : Byte) (h : s.chg.st ≠ .faulted) :
    s.takeCancel tag =
      { s with
        lnk := queued (withReply s.lnk .changer tag 0x12 (.done [BitVec.ofNat 8 s.chg.waitingOrders.length]))
          (cancelled s.chg.waitingOrders)
        chg := { s.chg with
          queue := startedOrders s.chg, mailLock := (startedOrders s.chg).any Order.namesMail } } := by
  unfold State.takeCancel
  dsimp only
  rw [if_neg h, cancelOrders_eq, chgReply_eq, beBytes_one]
  rfl

/-- CANCEL in FAULTED is refused STATE (R45). -/
theorem takeCancel_of_faulted {s : State} (tag : Byte) (h : s.chg.st = .faulted) :
    s.takeCancel tag = replied s .changer tag 0x12 (.refused .state) := by
  unfold State.takeCancel
  rw [if_pos h, chgReply_eq]

/-- Where LNK takes requests, a CANCEL completes with the effect that CHG gives it (R45, R172). -/
theorem runs_cancel {s : State} (tag : Byte) (h : Takes s) : Runs (.cancel tag) s (s.takeCancel tag) := by
  obtain ⟨not_resetting, has_place⟩ := h
  have arm : exec (.cancel tag) s = execCancel tag s := rfl
  unfold Runs
  rw [arm, execCancel, State.gate_open _ not_resetting has_place, State.answer]

/-- Settles O15: the queue is the started order followed by the others, and these are what CANCEL ends. -/
theorem cancelRemovesWhatHasNotStarted : Obligations.CancelRemovesWhatHasNotStarted := by
  unfold Obligations.CancelRemovesWhatHasNotStarted
  intro s tag takes
  refine ⟨fun not_faulted => ?_, fun faulted => ?_⟩
  · refine ⟨startedOrders s.chg, s.chg.waitingOrders, started_append_waitingOrders s.chg, rfl, ?_⟩
    rw [← takeCancel_of_not_faulted tag not_faulted]
    exact runs_cancel tag takes
  · rw [← takeCancel_of_faulted tag faulted]
    exact runs_cancel tag takes

end Sys2Proof.Proofs
end

section
/-! PROOFS. Chapter 7, the governor's requests: SET_GOVERNOR (R130) and GET_GOVERNOR (R133). -/

open Sys2Proof Sys2Proof.Machine Sys2Proof.Claims

namespace Sys2Proof.Proofs

/-- Where LNK takes requests, a request that only the gate guards completes with the effect that its block gives it
(R172, R184). -/
theorem runs_of_gate {c : Instr} {s : State} {take : State → State} (arm : exec c s = (s.gate take).answer)
    (takes : Takes s) : Runs c s (take s) := by
  obtain ⟨not_resetting, has_place⟩ := takes
  unfold Runs
  rw [arm, State.gate_open _ not_resetting has_place, State.answer]

/-- A DONE on a transport's channel is one reply more, and nothing else (R174). -/
theorem done_eq (s : State) (t : Tr) (tag code : Byte) (result : List Byte) :
    s.done t tag code result = replied s (.transport t) tag code (.done result) := rfl

/-- A refusal on a transport's channel is one reply more, and nothing else (R174). -/
theorem refuse_eq (s : State) (t : Tr) (tag code : Byte) (why : Reason) :
    s.refuse t tag code why = replied s (.transport t) tag code (.refused why) := rfl

/-- A reply stands in the link, so it commutes with a change of a transport controller. -/
theorem replied_setTc (s : State) (t : Tr) (c : Tc) (ch : Chan) (tag code : Byte) (b : ReplyBody) :
    replied (s.setTc t c) ch tag code b = (replied s ch tag code b).setTc t c := by
  cases t <;> rfl

/-- The bytes of a copy are its fourteen values in request order (R173, R174). -/
theorem settingsBytes_eq (p : GovSet) : p.bytes = governorLayout p := rfl

/-- The ranges of R129, value by value; a range that begins at 0 clamps from above only (R130). -/
theorem clampSettings_eq (g : GovBytes) :
    clampSettings g =
      { s := max 1 (min 31 g.s.toNat), d := min 8 g.d.toNat, ea := min 7 g.ea.toNat, ma := min 15 g.ma.toNat,
        ed := min 7 g.ed.toNat, md := min 15 g.md.toNat, lmin := max 1 (min 12 g.lmin.toNat),
        lmax := max 1 (min 12 g.lmax.toNat), lstart := max 1 (min 12 g.lstart.toNat), filler := min 63 g.filler.toNat,
        restart := max 1 (min 32 g.restart.toNat), resume := min 31 g.resume.toNat, n := max 1 (min 64 g.n.toNat),
        clearOnApply := decide (g.clearOnApply ≠ 0) } := by
  simp only [clampSettings, clampNat, Nat.zero_max]

/-- Settings whose Lmin does not exceed Lmax replace the whole pending copy (R130). -/
theorem takeSetGovernor_of_le {s : State} {g : GovBytes} (t : Tr) (tag : Byte)
    (ordered : (clampSettings g).lmin ≤ (clampSettings g).lmax) :
    s.takeSetGovernor t tag g =
      (replied s (.transport t) tag 0x2A (.done (governorLayout (clampSettings g)))).setTc t
        { s.tc t with gov := { (s.tc t).gov with pending := clampSettings g } } := by
  unfold State.takeSetGovernor
  dsimp only
  rw [if_neg (Nat.not_lt.mpr ordered), done_eq, State.modTc, replied_setTc, settingsBytes_eq]

/-- Settings whose Lmin exceeds Lmax are refused RANGE (R130). -/
theorem takeSetGovernor_of_lt {s : State} {g : GovBytes} (t : Tr) (tag : Byte)
    (crossed : (clampSettings g).lmax < (clampSettings g).lmin) :
    s.takeSetGovernor t tag g = replied s (.transport t) tag 0x2A (.refused .range) := by
  unfold State.takeSetGovernor
  dsimp only
  rw [if_pos crossed, refuse_eq]

/-- What GET_GOVERNOR reports, byte by byte (R133, R174). -/
theorem governorResult_eq (g : Gov) :
    g.result =
      governorLayout g.pending ++ governorLayout g.active ++ [if g.armed then 1 else 0] ++ beBytes 2 g.a.toNat ++
        [BitVec.ofNat 8 g.l.toNat, BitVec.ofNat 8 g.evalCount] := by
  simp only [Gov.result, settingsBytes_eq, flagByte, beBytes_one, List.append_assoc, List.cons_append, List.nil_append]

/-- GET_GOVERNOR answers its report and changes nothing else (R133). -/
theorem takeGetGovernor_eq (s : State) (t : Tr) (tag : Byte) :
    s.takeGetGovernor t tag = replied s (.transport t) tag 0x2C (.done (s.tc t).gov.result) := by
  rw [State.takeGetGovernor, done_eq]

/-- Where LNK takes requests, a SET_GOVERNOR completes with the effect that the transport gives it (R130). -/
theorem runs_setGovernor {s : State} (t : Tr) (tag : Byte) (g : GovBytes) (takes : Takes s) :
    Runs (.setGovernor t tag g) s (s.takeSetGovernor t tag g) :=
  runs_of_gate (take := fun s => s.takeSetGovernor t tag g) rfl takes

/-- Where LNK takes requests, a GET_GOVERNOR completes with the effect that the transport gives it (R133). -/
theorem runs_getGovernor {s : State} (t : Tr) (tag : Byte) (takes : Takes s) :
    Runs (.getGovernor t tag) s (s.takeGetGovernor t tag) :=
  runs_of_gate (take := fun s => s.takeGetGovernor t tag) rfl takes

/-- Settles O36: the clamped settings decide between the two outcomes of SET_GOVERNOR, and GET_GOVERNOR has one. -/
theorem setAndGetGovernor : Obligations.SetAndGetGovernor := by
  unfold Obligations.SetAndGetGovernor
  refine ⟨fun s t tag g p takes clamped => ?_, fun s t tag g takes held => ?_⟩
  · rw [← clampSettings_eq] at clamped
    subst clamped
    refine ⟨fun ordered => ?_, fun crossed => ?_⟩
    · rw [← takeSetGovernor_of_le t tag ordered]
      exact runs_setGovernor t tag g takes
    · rw [← takeSetGovernor_of_lt t tag crossed]
      exact runs_setGovernor t tag g takes
  · subst held
    rw [← governorResult_eq, ← takeGetGovernor_eq]
    exact runs_getGovernor t tag takes

end Sys2Proof.Proofs
end

section
/-! PROOFS. The laws that every step keeps and that speak of one part of the state at a time: the governors, the link's
bounds, the file maps and DUPLICATE flags, the fault lists, the move queue and its lock. `Keeps k s s'` says that going
from s to s' keeps each of them and queues at most k replies; every operation of the machine has one lemma about it. -/

open Sys2Proof Sys2Proof.Machine Sys2Proof.Claims

namespace Sys2Proof.Proofs

-- One declaration at a time: elaborated in parallel, the joined text needs more threads than the memory limit holds.
set_option Elab.async false

/-! ## What is kept, part by part -/

/-- The link's bounds are kept, with at most k replies more. -/
structure LnkKeeps (k : Nat) (l l' : Lnk) : Prop where
  inbound : l.inbound.length ≤ 2 → l'.inbound.length ≤ 2
  replies : l'.replies.length ≤ l.replies.length + k
  notices : l.notices.length ≤ 32 → l'.notices.length ≤ 32
  errors : l.errors ≤ Config.max32 → l'.errors ≤ Config.max32
  unsol0 : l.unsol0 ≤ Config.max32 → l'.unsol0 ≤ Config.max32
  unsol1 : l.unsol1 ≤ Config.max32 → l'.unsol1 ≤ Config.max32

/-- The bound of the file maps and the settled flags are kept (R6, R11). -/
structure MtbKeeps (m m' : Mtb) : Prop where
  maps : (∀ l r, m.get l = some r → r.map.length ≤ 64) → ∀ l r, m'.get l = some r → r.map.length ≤ 64
  flags : m.settle = m → m'.settle = m'

/-- The bound of the move queue and the law of the mail lock are kept (R28, R44). -/
structure ChgKeeps (c c' : Chg) : Prop where
  orders : c.queue.length ≤ 8 → c'.queue.length ≤ 8
  lock : c.mailLock = c.queue.any Order.namesMail → c'.mailLock = c'.queue.any Order.namesMail

/-- The law of the governor and that of the fault list are kept (R137, R159). -/
structure TcKeeps (c c' : Tc) : Prop where
  gov : c.gov.Sound → c'.gov.Sound
  faults : Job.FaultsBounded c.job → Job.FaultsBounded c'.job

/-- Every law is kept, with at most k replies more. -/
structure Keeps (k : Nat) (s s' : State) : Prop where
  lnk : LnkKeeps k s.lnk s'.lnk
  mtb : MtbKeeps s.mtb s'.mtb
  chg : ChgKeeps s.chg s'.chg
  tc : ∀ t, TcKeeps (s.tc t) (s'.tc t)

theorem LnkKeeps.refl (l : Lnk) : LnkKeeps 0 l l := ⟨id, Nat.le_refl _, id, id, id, id⟩

theorem LnkKeeps.trans {j k : Nat} {l m n : Lnk} (h : LnkKeeps j l m) (h' : LnkKeeps k m n) : LnkKeeps (j + k) l n :=
  ⟨h'.inbound ∘ h.inbound, by have := h.replies; have := h'.replies; omega, h'.notices ∘ h.notices,
    h'.errors ∘ h.errors, h'.unsol0 ∘ h.unsol0, h'.unsol1 ∘ h.unsol1⟩

theorem MtbKeeps.refl (m : Mtb) : MtbKeeps m m := ⟨id, id⟩

theorem MtbKeeps.trans {m n p : Mtb} (h : MtbKeeps m n) (h' : MtbKeeps n p) : MtbKeeps m p :=
  ⟨h'.maps ∘ h.maps, h'.flags ∘ h.flags⟩

theorem ChgKeeps.refl (c : Chg) : ChgKeeps c c := ⟨id, id⟩

theorem ChgKeeps.trans {c d e : Chg} (h : ChgKeeps c d) (h' : ChgKeeps d e) : ChgKeeps c e :=
  ⟨h'.orders ∘ h.orders, h'.lock ∘ h.lock⟩

theorem TcKeeps.refl (c : Tc) : TcKeeps c c := ⟨id, id⟩

theorem TcKeeps.trans {c d e : Tc} (h : TcKeeps c d) (h' : TcKeeps d e) : TcKeeps c e :=
  ⟨h'.gov ∘ h.gov, h'.faults ∘ h.faults⟩

theorem Keeps.refl (s : State) : Keeps 0 s s := ⟨.refl _, .refl _, .refl _, fun _ => .refl _⟩

theorem Keeps.trans {j k : Nat} {s u v : State} (h : Keeps j s u) (h' : Keeps k u v) : Keeps (j + k) s v :=
  ⟨h.lnk.trans h'.lnk, h.mtb.trans h'.mtb, h.chg.trans h'.chg, fun t => (h.tc t).trans (h'.tc t)⟩

/-! ## The governor (R129 to R137, R143) -/

/-- What the clamping of a pending Lstart leaves in range (R132). -/
theorem clamped_inRange {g : GovSet} (h : g.InRange) :
    ({ g with lstart := clampNat g.lmin g.lmax g.lstart } : GovSet).InRange := by
  unfold GovSet.InRange at h ⊢
  have := clampNat_bounds g.lmin g.lmax g.lstart (by omega)
  dsimp only
  omega

/-- A move leaves a sound governor (R132). -/
theorem gov_move_sound {g : Gov} (h : g.Sound) : g.move.Sound := by
  obtain ⟨hp, -, -, -, -, -, -⟩ := h
  have hc := clamped_inRange hp
  have ordered : g.pending.lmin ≤ g.pending.lmax := by unfold GovSet.InRange at hp; omega
  obtain ⟨lo, hi⟩ := clampNat_bounds g.pending.lmin g.pending.lmax g.pending.lstart ordered
  refine ⟨hp, hc, lo, hi, ?_, ?_, rfl⟩
  · dsimp only [Gov.move]
    split
    · exact Int.mul_le_mul_of_nonneg_left (Int.ofNat_le.mpr lo) (by decide)
    · exact (GovSet.clampA_bounds _ _ ordered).1
  · dsimp only [Gov.move]
    split
    · exact Int.mul_le_mul_of_nonneg_left (Int.ofNat_le.mpr hi) (by decide)
    · exact (GovSet.clampA_bounds _ _ ordered).2

theorem gov_moveArmed_sound {g : Gov} (h : g.Sound) : g.moveArmed.Sound := by
  unfold Gov.moveArmed
  split
  · exact gov_move_sound h
  · exact h

theorem gov_start_sound {g : Gov} (h : g.Sound) : g.start.Sound := by
  obtain ⟨hp, ha, lo, hi, -, -, -⟩ := h
  exact ⟨hp, ha, lo, hi, by dsimp only [Gov.start]; omega, by dsimp only [Gov.start]; omega, (levelOf_mul _).symm⟩

/-- An evaluation leaves a sound governor: A is clamped (R137). -/
theorem gov_update_sound {g : Gov} (h : g.Sound) (e : Int) : (g.update e).Sound := by
  unfold Gov.update
  split
  · exact h
  · obtain ⟨hp, ha, lo, hi, -, -, -⟩ := h
    have bounds := GovSet.clampA_bounds g.active (g.a + g.active.delta e) (by omega)
    exact ⟨hp, ha, lo, hi, bounds.1, bounds.2, rfl⟩

theorem gov_countFrame_sound {g : Gov} (h : g.Sound) (writing : Bool) (q : Nat) : (g.countFrame writing q).Sound := by
  unfold Gov.countFrame
  split
  · have anew : ({ g with evalCount := 0 } : Gov).Sound := h
    exact gov_update_sound (gov_moveArmed_sound anew) _
  · exact h

theorem gov_afterReset_sound {g : Gov} (h : g.Sound) : g.afterReset.Sound := gov_start_sound (gov_moveArmed_sound h)

/-- Clamped settings are in range once Lmin does not exceed Lmax (R130). -/
theorem clampSettings_inRange (b : GovBytes) (h : ¬ (clampSettings b).lmax < (clampSettings b).lmin) :
    (clampSettings b).InRange := by
  unfold GovSet.InRange
  simp only [clampSettings, clampNat] at h ⊢
  omega

/-- A governor at its defaults is sound (R129). -/
theorem gov_default_sound : ({} : Gov).Sound := by
  unfold Gov.Sound GovSet.InRange
  decide

/-! ## Transport controllers -/

theorem Tc.goto_keeps (c : Tc) (st : TcState) : TcKeeps c (c.goto st) := by
  unfold Tc.goto
  split
  · exact ⟨gov_moveArmed_sound, id⟩
  · exact ⟨id, id⟩

theorem Tc.stream_keeps (c : Tc) (st : TcState) : TcKeeps c (c.stream st) := ⟨gov_start_sound, id⟩

theorem Tc.countFrame_keeps (c : Tc) (w : Bool) (q : Nat) : TcKeeps c { c with gov := c.gov.countFrame w q } :=
  ⟨fun h => gov_countFrame_sound h w q, id⟩

theorem Tc.passed_keeps (c : Tc) (raw : RawFrame) : TcKeeps c (c.passed raw) := by
  unfold Tc.passed
  split <;> exact ⟨id, id⟩

theorem Tc.toDrain_keeps (c : Tc) : TcKeeps c c.toDrain := by
  unfold Tc.toDrain
  split
  · exact Tc.goto_keeps _ _
  · exact .refl _

theorem Tc.finishQueued_keeps (c : Tc) : TcKeeps c c.finishQueued := by
  unfold Tc.finishQueued
  split
  · split
    · exact Tc.toDrain_keeps _
    · exact .refl _
  · exact .refl _

/-- A change of a transport after one that is kept, which touches neither its governor nor its job. -/
theorem TcKeeps.then {c d e : Tc} (h : TcKeeps c d) (h' : TcKeeps d e := by exact ⟨id, id⟩) : TcKeeps c e := h.trans h'

/-! ## The media table (R2, R3, R6, R11) -/

theorem Mtb.get_eq_entries (m : Mtb) (l : Loc) : m.get l = m.entries[l.idx] := rfl

/-- Every index of the table is that of a location (R1). -/
theorem exists_loc_of_idx (i : Fin 20) : ∃ l : Loc, l.idx = i := by
  by_cases h : i.val < 16
  · exact ⟨.slot ⟨i, h⟩, rfl⟩
  · obtain h | h | h | h : i.val = 16 ∨ i.val = 17 ∨ i.val = 18 ∨ i.val = 19 := by omega
    · exact ⟨.mail, Fin.ext h.symm⟩
    · exact ⟨.bay .tc0, Fin.ext h.symm⟩
    · exact ⟨.bay .tc1, Fin.ext h.symm⟩
    · exact ⟨.hand, Fin.ext h.symm⟩

/-- Two tables with the same entries and the same values held for the bays are one table. -/
theorem mtb_ext {m m' : Mtb} (h : ∀ l, m.get l = m'.get l) (h0 : m.bay0 = m'.bay0) (h1 : m.bay1 = m'.bay1) : m = m' := by
  obtain ⟨e, b0, b1⟩ := m
  obtain ⟨e', b0', b1'⟩ := m'
  obtain rfl : b0 = b0' := h0
  obtain rfl : b1 = b1' := h1
  have same : e = e' := by
    ext i hi : 1
    obtain ⟨l, hl⟩ := exists_loc_of_idx ⟨i, hi⟩
    have := h l
    simp only [Mtb.get_eq_entries, hl] at this
    exact this
  rw [same]

/-- The flags are settled exactly when every location's record carries the flag that its label calls for (R6). -/
theorem settled_iff (m : Mtb) :
    m.settle = m ↔ ∀ l r, m.get l = some r → r.duplicate = m.clash l.idx := by
  rw [Mtb.settle_eq_self_iff]
  constructor
  · exact fun h l r hr => h l.idx r hr
  · intro h i r hr
    obtain ⟨l, rfl⟩ := exists_loc_of_idx i
    exact h l r hr

/-- A record clashes with another exactly when a record of another location holds an equal label (R6). -/
theorem clash_iff (m : Mtb) (l : Loc) :
    m.clash l.idx = true ↔ ∃ k, k ≠ l ∧ sameLabel (m.get k) (m.get l) = true := by
  unfold Mtb.clash
  simp only [List.any_eq_true, List.mem_finRange, true_and, Bool.and_eq_true, decide_eq_true_eq]
  constructor
  · rintro ⟨j, hj, same⟩
    obtain ⟨k, rfl⟩ := exists_loc_of_idx j
    exact ⟨k, fun e => hj (by rw [e]), same⟩
  · rintro ⟨k, hk, same⟩
    exact ⟨k.idx, fun e => hk (Loc.idx_inj e), same⟩

/-- Tables whose locations hold the same labels have the same clashes (R6). -/
theorem clash_congr {m m' : Mtb} (h : ∀ l, ((m.get l).bind (·.label)) = (m'.get l).bind (·.label)) (l : Loc) :
    m.clash l.idx = m'.clash l.idx := by
  have same : ∀ k, sameLabel (m.get k) (m.get l) = sameLabel (m'.get k) (m'.get l) := by
    intro k
    unfold sameLabel
    rw [h k, h l]
  rw [Bool.eq_iff_iff, clash_iff, clash_iff]
  simp only [same]

/-- A table whose records keep label and flag keeps its flags settled (R6). -/
theorem settled_of_same_labels {m m' : Mtb} (h : ∀ l, ((m.get l).bind (·.label)) = (m'.get l).bind (·.label))
    (flag : ∀ l r', m'.get l = some r' → r'.duplicate = false ∧ m.get l = none ∧ r'.label = none ∨
      ∃ r, m.get l = some r ∧ r'.duplicate = r.duplicate) (hm : m.settle = m) : m'.settle = m' := by
  rw [settled_iff] at hm ⊢
  intro l r' hr'
  rw [← clash_congr h]
  obtain ⟨hd, hn, -⟩ | ⟨r, hr, hd⟩ := flag l r' hr'
  · rw [hd, eq_comm, Bool.eq_false_iff, ne_eq, clash_iff]
    rintro ⟨k, -, same⟩
    rw [hn] at same
    cases hk : (m.get k).bind (·.label) <;> simp [sameLabel, hk] at same
  · rw [hd, hm l r hr]

/-- A change of one record that leaves its label and its flag keeps the laws of the table. -/
theorem Mtb.modify_keeps (m : Mtb) (l : Loc) {f : CartRecord → CartRecord}
    (hl : ∀ r, (f r).label = r.label ∧ (f r).duplicate = r.duplicate)
    (hmap : ∀ r, r.map.length ≤ 64 → (f r).map.length ≤ 64) : MtbKeeps m (m.modify l f) := by
  have get_eq : ∀ k, (m.modify l f).get k = if k = l then (m.get k).map f else m.get k := by
    intro k
    split
    · next h => rw [h, Mtb.get_modify]
    · next h => rw [Mtb.get_modify_of_ne _ _ h]
  constructor
  · intro h k r hr
    rw [get_eq] at hr
    split at hr
    · obtain ⟨q, hq, rfl⟩ := Option.map_eq_some_iff.mp hr
      exact hmap q (h k q hq)
    · exact h k r hr
  · refine settled_of_same_labels (fun k => ?_) (fun k r hr => ?_)
    · rw [get_eq]
      split
      · cases m.get k <;> simp [hl]
      · rfl
    · rw [get_eq] at hr
      split at hr
      · obtain ⟨q, hq, rfl⟩ := Option.map_eq_some_iff.mp hr
        exact .inr ⟨q, hq, (hl q).2⟩
      · exact .inr ⟨r, hr, rfl⟩

/-- A settling keeps the bound of the maps, and its flags are settled (R6). -/
theorem MtbKeeps.settle {m m' : Mtb}
    (h : (∀ l r, m.get l = some r → r.map.length ≤ 64) → ∀ l r, m'.get l = some r → r.map.length ≤ 64) :
    MtbKeeps m m'.settle := by
  refine ⟨fun hm l r hr => ?_, fun _ => Mtb.settle_settle m'⟩
  rw [Mtb.get_settle] at hr
  obtain ⟨q, hq, rfl⟩ := Option.map_eq_some_iff.mp hr
  exact h hm l q hq

/-- Putting a record with a bounded map, or none, keeps the maps bounded (R11). -/
theorem maps_put {m : Mtb} {l : Loc} {x : Option CartRecord} (hx : ∀ r, x = some r → r.map.length ≤ 64)
    (hm : ∀ l r, m.get l = some r → r.map.length ≤ 64) : ∀ k r, (m.put l x).get k = some r → r.map.length ≤ 64 := by
  intro k r hr
  by_cases h : k = l
  · rw [h, Mtb.get_put] at hr
    exact hx r hr
  · rw [Mtb.get_put_of_ne _ _ h] at hr
    exact hm k r hr

theorem Mtb.remove_keeps (m : Mtb) (l : Loc) : MtbKeeps m (m.remove l) :=
  .settle fun hm => maps_put (by simp) hm

/-- A record changed in any way that bounds its map, with the flags settled after. -/
theorem Mtb.modify_settle_keeps (m : Mtb) (l : Loc) {f : CartRecord → CartRecord}
    (hmap : ∀ r, r.map.length ≤ 64 → (f r).map.length ≤ 64) : MtbKeeps m (m.modify l f).settle := by
  refine .settle fun hm => maps_put (fun r hr => ?_) hm
  obtain ⟨q, hq, rfl⟩ := Option.map_eq_some_iff.mp hr
  exact hmap q (hm l q hq)

@[simp] theorem CartRecord.withBay_map (r : CartRecord) (v : Option BayValues) : (r.withBay v).map = r.map := by
  cases v <;> rfl

@[simp] theorem CartRecord.withBay_label (r : CartRecord) (v : Option BayValues) : (r.withBay v).label = r.label := by
  cases v <;> rfl

@[simp] theorem CartRecord.withBay_duplicate (r : CartRecord) (v : Option BayValues) :
    (r.withBay v).duplicate = r.duplicate := by
  cases v <;> rfl

@[simp] theorem Mtb.entering_map (m : Mtb) (jobs : Tr → Bool) (r : CartRecord) (l : Loc) :
    (m.entering jobs r l).map = r.map := by
  unfold Mtb.entering
  split
  · dsimp only; split <;> simp
  · rfl

theorem Mtb.pass_keeps (m : Mtb) (jobs : Tr → Bool) (src dst : Loc) : MtbKeeps m (m.pass jobs src dst) := by
  unfold Mtb.pass
  split
  · exact .refl _
  · next r hr =>
    exact .settle fun hm => maps_put (by simpa using hm src r hr) (maps_put (by simp) hm)

/-- A record created in an empty entry keeps the laws: it has neither label nor map (R2). -/
theorem Mtb.create_keeps {m : Mtb} {l : Loc} {r : CartRecord} (empty : m.get l = none) (hl : r.label = none)
    (hd : r.duplicate = false) (hmap : r.map = []) : MtbKeeps m (m.put l (some r)) := by
  have get_eq : ∀ k, (m.put l (some r)).get k = if k = l then some r else m.get k := by
    intro k
    split
    · next h => rw [h, Mtb.get_put]
    · next h => rw [Mtb.get_put_of_ne _ _ h]
  refine ⟨maps_put (by simp [hmap]), settled_of_same_labels (fun k => ?_) (fun k q hq => ?_)⟩
  · rw [get_eq]
    split
    · next h => simp [h, empty, hl]
    · rfl
  · rw [get_eq] at hq
    split at hq
    · next h =>
      obtain rfl : r = q := Option.some.inj hq
      exact .inl ⟨hd, h ▸ empty, hl⟩
    · exact .inr ⟨q, hq, rfl⟩

/-- What is held for a bay has no part in the laws of the table. -/
theorem Mtb.setBayValues_keeps (m : Mtb) (t : Tr) (v : Option BayValues) : MtbKeeps m (m.setBayValues t v) := by
  refine ⟨fun h l r hr => h l r (by simpa using hr), settled_of_same_labels (fun l => ?_) fun l r hr => ?_⟩
  · rw [Mtb.get_setBayValues]
  · exact .inr ⟨r, by simpa using hr, rfl⟩

theorem Mtb.get_doubtAll (m : Mtb) (l : Loc) :
    m.doubtAll.get l = if l.idx.val ≤ 16 then (m.get l).map CartRecord.doubt else m.get l := by
  simp [Mtb.get, Mtb.doubtAll]

theorem Mtb.doubtAll_keeps (m : Mtb) : MtbKeeps m m.doubtAll := by
  refine ⟨fun h l r hr => ?_, settled_of_same_labels (fun l => ?_) fun l r hr => ?_⟩
  · rw [Mtb.get_doubtAll] at hr
    split at hr
    · obtain ⟨q, hq, rfl⟩ := Option.map_eq_some_iff.mp hr
      exact h l q hq
    · exact h l r hr
  · rw [Mtb.get_doubtAll]
    split
    · cases m.get l <;> rfl
    · rfl
  · rw [Mtb.get_doubtAll] at hr
    split at hr
    · obtain ⟨q, hq, rfl⟩ := Option.map_eq_some_iff.mp hr
      exact .inr ⟨q, hq, rfl⟩
    · exact .inr ⟨r, hr, rfl⟩

end Sys2Proof.Proofs
end

section
/-! PROOFS. What every step keeps: the shared operations, jobs, and a transport apart from its streaming jobs. -/

open Sys2Proof Sys2Proof.Machine Sys2Proof.Claims

namespace Sys2Proof.Proofs

-- One declaration at a time: elaborated in parallel, the joined text needs more threads than the memory limit holds.
set_option Elab.async false

/-! ## The shared operations -/

section
variable {k : Nat} {s v : State}

theorem Keeps.modLnk (h : Keeps k s v) {f : Lnk → Lnk} (hf : LnkKeeps 0 v.lnk (f v.lnk)) : Keeps k s (v.modLnk f) :=
  ⟨h.lnk.trans hf, h.mtb, h.chg, fun t => by rw [State.modLnk_tc]; exact h.tc t⟩

theorem Keeps.modMtb (h : Keeps k s v) {f : Mtb → Mtb} (hf : MtbKeeps v.mtb (f v.mtb)) : Keeps k s (v.modMtb f) :=
  ⟨h.lnk, h.mtb.trans hf, h.chg, fun t => by rw [State.modMtb_tc]; exact h.tc t⟩

theorem Keeps.modChg (h : Keeps k s v) {f : Chg → Chg} (hf : ChgKeeps v.chg (f v.chg) := by exact ⟨id, id⟩) :
    Keeps k s (v.modChg f) :=
  ⟨h.lnk, h.mtb, h.chg.trans hf, fun t => by rw [State.modChg_tc]; exact h.tc t⟩

theorem Keeps.modTc (h : Keeps k s v) (t : Tr) {f : Tc → Tc} (hf : TcKeeps (v.tc t) (f (v.tc t)) := by exact ⟨id, id⟩) :
    Keeps k s (v.modTc t f) := by
  refine ⟨by rw [State.modTc_lnk]; exact h.lnk, by rw [State.modTc_mtb]; exact h.mtb,
    by rw [State.modTc_chg]; exact h.chg, fun u => ?_⟩
  cases t <;> cases u
  · exact (h.tc .tc0).trans hf
  · exact h.tc .tc1
  · exact h.tc .tc0
  · exact (h.tc .tc1).trans hf

theorem Keeps.goto (h : Keeps k s v) (t : Tr) (st : TcState) : Keeps k s (v.modTc t fun c => c.goto st) :=
  h.modTc t (Tc.goto_keeps _ st)

theorem Keeps.stream (h : Keeps k s v) (t : Tr) (st : TcState) : Keeps k s (v.modTc t fun c => c.stream st) :=
  h.modTc t (Tc.stream_keeps _ st)

theorem Keeps.setTc (h : Keeps k s v) (t : Tr) {c : Tc} (hf : TcKeeps (v.tc t) c := by exact ⟨id, id⟩) :
    Keeps k s (v.setTc t c) := h.modTc t (f := fun _ => c) hf

/-- A change of the contexts, the datapath, the free values or the waiting commands reaches none of the laws. -/
theorem Keeps.congr (h : Keeps k s v) {u : State} (hl : u.lnk = v.lnk) (hm : u.mtb = v.mtb) (hc : u.chg = v.chg)
    (ht : ∀ t, u.tc t = v.tc t) : Keeps k s u :=
  ⟨hl ▸ h.lnk, hm ▸ h.mtb, hc ▸ h.chg, fun t => ht t ▸ h.tc t⟩

theorem Keeps.setCx (h : Keeps k s v) (t : Tr) (x : Ctx) : Keeps k s (v.setCx t x) :=
  h.congr (by simp) (by simp) (by simp) (by simp)

theorem Keeps.setDp (h : Keeps k s v) (d : Option DpOp) : Keeps k s { v with dp := d } :=
  h.congr rfl rfl rfl fun t => by cases t <;> rfl

theorem Keeps.clearCtx (h : Keeps k s v) (t : Tr) (d : Dir) : Keeps k s (v.clearCtx t d) := (h.setCx t _).setDp _

theorem Keeps.draw (h : Keeps k s v) : Keeps k s v.draw.2 := h.congr rfl rfl rfl fun t => by cases t <;> rfl

/-- Room for one more entry. -/
theorem length_snoc_le {α : Type} {l : List α} {a : α} {n : Nat} (room : l.length < n) : (l ++ [a]).length ≤ n := by
  rw [List.length_append]
  exact room

theorem Lnk.pushNotice_keeps (l : Lnk) (n : Notice) : LnkKeeps 0 l (l.pushNotice n) := by
  rcases l.pushNotice_cases n with ⟨room, e⟩ | ⟨-, e⟩ <;> rw [e]
  · exact ⟨id, Nat.le_refl _, fun _ => length_snoc_le room, id, id, id⟩
  · exact ⟨id, Nat.le_refl _, id, id, id, id⟩

theorem Keeps.notify (h : Keeps k s v) (n : Notice) : Keeps k s (v.notify n) := h.modLnk (Lnk.pushNotice_keeps _ n)

theorem Keeps.reply (h : Keeps k s v) (ch : Chan) (tag code : Byte) (b : ReplyBody) :
    Keeps (k + 1) s (v.reply ch tag code b) :=
  ⟨h.lnk.trans ⟨id, by simp [Lnk.pushReply], id, id, id, id⟩, h.mtb, h.chg, fun t => by
    rw [State.reply_tc]; exact h.tc t⟩

theorem satAdd_le (cap n m : Nat) : satAdd cap n m ≤ cap := Nat.min_le_left _ _

theorem Lnk.linkError_keeps (l : Lnk) : LnkKeeps 0 l l.linkError :=
  ⟨id, Nat.le_refl _, id, fun _ => satAdd_le _ _ _, id, id⟩

theorem Lnk.unsolicited_keeps (l : Lnk) (t : Tr) : LnkKeeps 0 l (l.unsolicited t) := by
  cases t
  · exact ⟨id, Nat.le_refl _, id, id, fun _ => satAdd_le _ _ _, id⟩
  · exact ⟨id, Nat.le_refl _, id, id, id, fun _ => satAdd_le _ _ _⟩

theorem Lnk.placeCredit_keeps {l l' : Lnk} {t : Tr} {n : Nat} (h : l.placeCredit t n = some l') : LnkKeeps 0 l l' := by
  unfold Lnk.placeCredit Config.noticeMax at h
  split at h
  · obtain rfl := Option.some.inj h
    exact ⟨id, Nat.le_refl _, by simp, id, id, id⟩
  · split at h
    · next room =>
      obtain rfl := Option.some.inj h
      exact ⟨id, Nat.le_refl _, fun _ => length_snoc_le room, id, id, id⟩
    · cases h

theorem Keeps.formCredit (h : Keeps k s v) (t : Tr) : Keeps k s (v.formCredit t) := by
  unfold State.formCredit
  dsimp only
  split
  · exact h
  · split
    · exact h
    · next l hl =>
      have placed : Keeps k s { v with lnk := l } := h.modLnk (f := fun _ => l) (Lnk.placeCredit_keeps hl)
      refine placed.setTc t ?_
      cases t <;> exact ⟨id, id⟩

theorem Keeps.earn (h : Keeps k s v) (t : Tr) (n : Nat) : Keeps k s (v.earn t n) := (h.modTc t).formCredit t

theorem Keeps.noticeLeft (h : Keeps k s v) : Keeps k s v.noticeLeft := (h.formCredit .tc0).formCredit .tc1

theorem Keeps.withdrawCredit (h : Keeps k s v) (t : Tr) : Keeps k s (v.withdrawCredit t) := by
  unfold State.withdrawCredit
  split
  · exact (h.modLnk ⟨id, Nat.le_refl _, (Nat.le_trans (List.length_filter_le _ _) ·), id, id, id⟩).noticeLeft
  · exact h

theorem Keeps.voidCredits (h : Keeps k s v) (t : Tr) : Keeps k s (v.voidCredits t) := (h.modTc t).withdrawCredit t

theorem Keeps.modBay (h : Keeps k s v) (t : Tr) {f : CartRecord → CartRecord}
    (hl : ∀ r, (f r).label = r.label ∧ (f r).duplicate = r.duplicate := by exact fun _ => ⟨rfl, rfl⟩)
    (hmap : ∀ r, r.map.length ≤ 64 → (f r).map.length ≤ 64 := by exact fun _ => id) : Keeps k s (v.modBay t f) :=
  h.modMtb (Mtb.modify_keeps _ _ hl hmap)

theorem Keeps.modWrite (h : Keeps k s v) (t : Tr) (f : WriteJob → WriteJob) : Keeps k s (v.modWrite t f) := by
  refine h.modTc t ?_
  split
  · exact ⟨id, fun _ => trivial⟩
  · exact .refl _

theorem Keeps.modRead (h : Keeps k s v) (t : Tr) {f : ReadJob → ReadJob}
    (hf : ∀ r, Job.FaultsBounded (some (.read r)) → Job.FaultsBounded (some (.read (f r))) := by exact fun _ => id) :
    Keeps k s (v.modRead t f) := by
  refine h.modTc t ?_
  split
  · next r hr => exact ⟨id, fun b => hf r (hr ▸ b)⟩
  · exact .refl _

/-- The laws through a choice: both ways keep them. -/
theorem Keeps.ite {u : State} (c : Prop) [Decidable c] (hu : c → Keeps k s u) (hv : ¬ c → Keeps k s v) :
    Keeps k s (if c then u else v) := by
  split
  · next h => exact hu h
  · next h => exact hv h

end

/-! ## Jobs -/

section
variable {k : Nat} {s v : State}

theorem Keeps.startJob (h : Keeps k s v) (t : Tr) {j : Job} {st : TcState} {d : Dir}
    (hj : Job.FaultsBounded (some j) := by exact trivial) : Keeps k s (v.startJob t j st d) :=
  ((h.clearCtx t d).modTc t ((Tc.goto_keeps _ st).then ⟨id, fun _ => hj⟩)).modBay t

theorem Keeps.readTold (h : Keeps k s v) (r : ReadJob) : Keeps k s (v.readTold r).2 := by
  unfold State.readTold
  split
  · exact h
  · exact h.draw.draw

theorem Keeps.loadCountTold (h : Keeps k s v) (t : Tr) : Keeps k s (v.loadCountTold t).2 := by
  unfold State.loadCountTold
  split
  · exact h
  · exact h.draw

theorem Keeps.jobReport (h : Keeps k s v) (t : Tr) (j : Job) (res : JobResult) :
    Keeps k s (v.jobReport t j res).2 := by
  cases j with
  | load l =>
    dsimp only [State.jobReport]
    split
    · exact h.loadCountTold t
    · exact (h.loadCountTold t).draw
  | read r =>
    dsimp only [State.jobReport]
    split <;> exact h.readTold r
  | _ => exact h

theorem Keeps.jobEnd (h : Keeps k s v) (t : Tr) (j : Job) (res : JobResult) (report : List Byte) :
    Keeps k s (v.jobEnd t j res report) := (h.notify _).modBay t

/-- A transport left without a job keeps the law of the fault list. -/
theorem noJob_keeps {c c' : Tc} (hg : c'.gov = c.gov) (hj : c'.job = none) : TcKeeps c c' :=
  ⟨fun h => hg ▸ h, fun _ => by rw [hj]; trivial⟩

theorem Keeps.endJob (h : Keeps k s v) (t : Tr) (res : JobResult) : Keeps k s (v.endJob t res) := by
  unfold State.endJob
  split
  · exact h
  · exact ((((h.clearCtx t _).voidCredits t).modTc t (noJob_keeps rfl rfl)).jobReport t _ res).jobEnd t _ _ _

theorem Keeps.countSurplus (h : Keeps k s v) (t : Tr) : Keeps k s (v.countSurplus t) := h.modRead t

theorem CartRecord.closeOpen_keeps (r : CartRecord) :
    (r.closeOpen.label = r.label ∧ r.closeOpen.duplicate = r.duplicate) ∧ r.closeOpen.map = r.map := by
  unfold CartRecord.closeOpen
  split <;> exact ⟨⟨rfl, rfl⟩, rfl⟩

theorem Keeps.cutJob (h : Keeps k s v) (t : Tr) (res : JobResult) : Keeps k s (v.cutJob t res) := by
  have ended : ∀ {u}, Keeps k s u →
      Keeps k s ((((u.modTc t fun c =>
        { c with job := none, locate := none, intake := [], blockQ := [], inflight := [], rewrite := [],
                 delivery := [] }).voidCredits t).clearCtx t .none).modBay t CartRecord.closeOpen) := fun hu =>
    (((hu.modTc t (noJob_keeps rfl rfl)).voidCredits t).clearCtx t .none).modBay t
      (fun r => (CartRecord.closeOpen_keeps r).1) (fun r hr => (CartRecord.closeOpen_keeps r).2 ▸ hr)
  unfold State.cutJob
  split
  · exact ended h
  · exact ended ((h.jobReport t _ _).jobEnd t _ _ _)

theorem Keeps.mechFault (h : Keeps k s v) (t : Tr) (res : JobResult) : Keeps k s (v.mechFault t res) :=
  (h.cutJob t res).modTc t (Tc.goto_keeps _ _).then

/-- A map that has learned a mark holds at most 64 entries (R11). -/
theorem CartRecord.learn_keeps (r : CartRecord) (j a f : Nat) :
    ((r.learn j a f).label = r.label ∧ (r.learn j a f).duplicate = r.duplicate) ∧
      (r.map.length ≤ 64 → (r.learn j a f).map.length ≤ 64) := by
  unfold CartRecord.learn Config.mapMax
  split
  · exact ⟨⟨rfl, rfl⟩, fun _ => by simp; omega⟩
  · exact ⟨⟨rfl, rfl⟩, id⟩

theorem CartRecord.learnRead_keeps (r : CartRecord) (j a f : Nat) :
    ((r.learnRead j a f).label = r.label ∧ (r.learnRead j a f).duplicate = r.duplicate) ∧
      (r.map.length ≤ 64 → (r.learnRead j a f).map.length ≤ 64) := by
  unfold CartRecord.learnRead
  split
  · exact CartRecord.learn_keeps r j a f
  · exact ⟨⟨rfl, rfl⟩, id⟩

theorem Keeps.learn (h : Keeps k s v) (t : Tr) (i : ReadInfo) (mark : Bool) : Keeps k s (v.learn t i mark) := by
  unfold State.learn
  split
  · exact h.modBay t (fun r => (CartRecord.learnRead_keeps r _ _ _).1) (fun r => (CartRecord.learnRead_keeps r _ _ _).2)
  · exact h

theorem Keeps.watchTest (h : Keeps k s v) (t : Tr) (kind : JobKind) (mark : Bool) (a file frame : Nat) :
    Keeps k s (v.watchTest t kind mark a file frame) := by
  unfold State.watchTest
  split
  · exact h
  · split
    · exact h.notify _
    · exact h
  · split
    · exact (h.modTc t).notify _
    · exact h

end

/-! ## A transport apart from its streaming jobs -/

section
variable {k : Nat} {s v : State}

theorem Keeps.done (h : Keeps k s v) (t : Tr) (tag code : Byte) (r : List Byte) :
    Keeps (k + 1) s (v.done t tag code r) := h.reply _ _ _ _

theorem Keeps.accept (h : Keeps k s v) (t : Tr) (tag code : Byte) : Keeps (k + 1) s (v.accept t tag code) :=
  h.reply _ _ _ _

theorem Keeps.refuse (h : Keeps k s v) (t : Tr) (tag code : Byte) (why : Reason) :
    Keeps (k + 1) s (v.refuse t tag code why) := h.reply _ _ _ _

theorem Mtb.seatBay_keeps (m : Mtb) (t : Tr) (b : BayValues) : MtbKeeps m (m.seatBay t b) :=
  (Mtb.modify_keeps m (.bay t) (f := fun r => r.withBay (some b)) (fun _ => ⟨rfl, rfl⟩) (fun _ => id)).trans
    (Mtb.setBayValues_keeps _ _ _)

theorem Chg.seatReached_keeps (c : Chg) (t : Tr) : ChgKeeps c (c.seatReached t) := by
  unfold Chg.seatReached
  split
  · split
    · exact ⟨id, id⟩
    · exact .refl _
  · exact .refl _

theorem Keeps.seat (h : Keeps k s v) (t : Tr) (b : BayValues) : Keeps k s (v.seat t b) :=
  ((h.modTc t (Tc.goto_keeps _ _).then).modMtb (Mtb.seatBay_keeps _ _ _)).modChg (Chg.seatReached_keeps _ _)

theorem Keeps.unseat (h : Keeps k s v) (t : Tr) : Keeps k s (v.unseat t) :=
  (h.modTc t (Tc.goto_keeps _ _).then).modMtb (Mtb.setBayValues_keeps _ _ _)

theorem Keeps.startLoad (h : Keeps k s v) (t : Tr) : Keeps k s (v.startLoad t) := h.startJob t

theorem Keeps.autoload (h : Keeps k s v) (t : Tr) : Keeps k s (v.autoload t) := by
  unfold State.autoload
  exact .ite _ (fun _ => h.startLoad t) fun _ => h

theorem Keeps.takeLoad (h : Keeps k s v) (t : Tr) (tag : Byte) : Keeps (k + 1) s (v.takeLoad t tag) := by
  unfold State.takeLoad
  exact .ite _ (fun _ => h.refuse _ _ _ _) fun _ => .ite _ (fun _ => h.refuse _ _ _ _) fun _ =>
    (h.accept t tag _).startLoad t

theorem Keeps.threaded (h : Keeps k s v) (t : Tr) : Keeps k s (v.threaded t) := by
  unfold State.threaded
  exact .ite _ (fun _ => h.modTc t (Tc.goto_keeps _ _).then) fun _ => h

theorem Keeps.identify (h : Keeps k s v) (t : Tr) (raw : RawFrame) : Keeps k s (v.identify t raw) := by
  unfold State.identify
  split
  · exact .ite _ (fun _ => h) fun _ => h.modTc t ((Tc.passed_keeps _ raw).then ⟨id, fun _ => trivial⟩)
  · exact h

theorem CartRecord.loaded_map (r : CartRecord) (f : Finding) (h : r.map.length ≤ 64) : (r.loaded f).map.length ≤ 64 := by
  unfold CartRecord.loaded
  split
  · split
    · exact h
    · split
      · exact h
      · simp
  · exact h

theorem Keeps.endLoad (h : Keeps k s v) (t : Tr) (f : Finding) : Keeps k s (v.endLoad t f) := by
  unfold State.endLoad
  exact (((((h.modTc t (Tc.goto_keeps _ _).then).modMtb
    (Mtb.modify_settle_keeps _ _ fun r => CartRecord.loaded_map r f)).clearCtx t .none).modTc t
      (noJob_keeps rfl rfl)).loadCountTold t).jobEnd t _ _ _

theorem Keeps.takeUnload (h : Keeps k s v) (t : Tr) (tag : Byte) : Keeps (k + 1) s (v.takeUnload t tag) := by
  unfold State.takeUnload
  split
  · exact (h.accept t tag _).startJob t
  · exact (h.accept t tag _).startJob t
  · exact (h.accept t tag _).startJob t
  · exact h.refuse _ _ _ _

theorem Keeps.takeRewind (h : Keeps k s v) (t : Tr) (tag : Byte) : Keeps (k + 1) s (v.takeRewind t tag) := by
  unfold State.takeRewind
  split
  · exact (h.accept t tag _).startJob t
  · exact (h.accept t tag _).startJob t
  · exact h.refuse _ _ _ _

theorem Keeps.unthreaded (h : Keeps k s v) (t : Tr) : Keeps k s (v.unthreaded t) := by
  unfold State.unthreaded
  exact .ite _ (fun _ => (h.modTc t (Tc.goto_keeps _ _).then).endJob t _) fun _ => h

theorem Keeps.takeLabel (h : Keeps k s v) (t : Tr) (tag : Byte) (cs : List Byte) :
    Keeps (k + 1) s (v.takeLabel t tag cs) := by
  unfold State.takeLabel
  repeat refine .ite _ (fun _ => h.refuse _ _ _ _) fun _ => ?_
  exact (h.accept t tag _).startJob t

theorem Keeps.rewound (h : Keeps k s v) (t : Tr) : Keeps k s (v.rewound t) := by
  unfold State.rewound
  split
  · exact (h.modTc t (Tc.goto_keeps _ _).then).endJob t _
  · exact h.modTc t (Tc.goto_keeps _ _).then
  · exact h.modTc t ((Tc.goto_keeps _ _).then ⟨id, fun _ => trivial⟩)
  · split
    · exact h.endLoad t _
    · exact h
  · exact h

theorem Keeps.labelWritten (h : Keeps k s v) (t : Tr) (j : LabelJob) : Keeps k s (v.labelWritten t j) := by
  unfold State.labelWritten
  split
  · exact h
  · exact h.modTc t ⟨id, fun _ => trivial⟩

theorem Keeps.labelResult (h : Keeps k s v) (t : Tr) (j : LabelJob) (f : WFrame) (raw : RawFrame) :
    Keeps k s (v.labelResult t j f raw) := by
  unfold State.labelResult
  dsimp only
  have taken := h.modTc t (f := fun c =>
    { c with inflight := c.inflight.tail,
             job := some (.label { j with results := j.results + 1, bad := j.bad || !judge f.hdr raw }) })
    ⟨id, fun _ => trivial⟩
  refine .ite _ (fun _ => taken) fun _ => .ite _ (fun _ => ?_) fun _ => ?_
  · exact (taken.modTc t (Tc.goto_keeps _ _).then).endJob t _
  · exact ((taken.modTc t (Tc.goto_keeps _ _).then).modMtb
      (Mtb.modify_settle_keeps _ _ fun r _ => Nat.zero_le _)).endJob t _

theorem Keeps.takeSetGovernor (h : Keeps k s v) (t : Tr) (tag : Byte) (b : GovBytes) :
    Keeps (k + 1) s (v.takeSetGovernor t tag b) := by
  unfold State.takeSetGovernor
  refine .ite _ (fun _ => h.refuse _ _ _ _) fun ordered => Keeps.done (h.modTc t ⟨fun hg => ?_, id⟩) t tag _ _
  obtain ⟨-, rest⟩ := hg
  exact ⟨clampSettings_inRange b ordered, rest⟩

theorem Tc.applied_keeps (c : Tc) : TcKeeps c c.applied := by
  unfold Tc.applied
  split
  · exact ⟨id, id⟩
  · exact ⟨gov_move_sound, id⟩

theorem Keeps.takeApply (h : Keeps k s v) (t : Tr) (tag : Byte) : Keeps (k + 1) s (v.takeApply t tag) :=
  (h.modTc t (Tc.applied_keeps _)).done t tag _ _

theorem Keeps.takeWatch (h : Keeps k s v) (t : Tr) (tag : Byte) (w : WatchPoint) :
    Keeps (k + 1) s (v.takeWatch t tag w) := by
  unfold State.takeWatch
  exact .ite _ (fun _ => h.refuse _ _ _ _) fun _ => (h.modTc t).done t tag _ _

theorem Keeps.settleBay (h : Keeps k s v) (t : Tr) (was : TcState) (b : BaySense) :
    Keeps k s (v.settleBay t was b) := by
  unfold State.settleBay
  split
  · exact .ite _ (fun _ => (h.unseat t).modMtb (Mtb.remove_keeps _ _)) fun _ => h.unseat t
  · exact .ite _ (fun _ => h.seat t _) fun _ => h
  · exact h

theorem Keeps.resetTransport (h : Keeps k s v) (t : Tr) (b : BaySense) : Keeps k s (v.resetTransport t b) := by
  unfold State.resetTransport
  exact (((h.cutJob t _).modTc t (Tc.goto_keeps _ _).then).settleBay t _ b).modTc t ⟨gov_afterReset_sound, id⟩

theorem Keeps.takeTransportReset (h : Keeps k s v) (t : Tr) (tag : Byte) (b : BaySense) :
    Keeps (k + 1) s (v.takeTransportReset t tag b) := (h.done t tag _ _).resetTransport t b

end

end Sys2Proof.Proofs
end

section
/-! PROOFS. What every step keeps: the changer and the note reader. -/

open Sys2Proof Sys2Proof.Machine Sys2Proof.Claims

namespace Sys2Proof.Proofs

-- One declaration at a time: elaborated in parallel, the joined text needs more threads than the memory limit holds.
set_option Elab.async false

/-! ## The changer -/

section
variable {k : Nat} {s v : State}

/-- A changer whose lock is computed from a queue no longer than before keeps both laws (R28, R44). -/
theorem relock_keeps {c d : Chg} (h : c.queue.length ≤ 8 → d.queue.length ≤ 8) : ChgKeeps c d.relock :=
  ⟨h, fun _ => rfl⟩

theorem Keeps.endHead (h : Keeps k s v) (res : MoveResult) (loc : Option Loc) : Keeps k s (v.endHead res loc) := by
  unfold State.endHead
  split
  · exact h
  · next o rest hq =>
    refine (h.notify _).modChg (relock_keeps fun hl => ?_)
    rw [State.notify_chg, hq] at hl
    exact Nat.le_of_succ_le hl

theorem Keeps.endRunning (h : Keeps k s v) (res : MoveResult) : Keeps k s (v.endRunning res) := by
  unfold State.endRunning
  split <;> exact h.endHead _ _

theorem Keeps.cancelOrders (h : Keeps k s v) (os : List Order) : Keeps k s (v.cancelOrders os) := by
  induction os generalizing v with
  | nil => exact h
  | cons o os ih => exact ih (h.notify _)

theorem Keeps.cancelRest (h : Keeps k s v) : Keeps k s v.cancelRest :=
  (h.cancelOrders _).modChg (relock_keeps fun _ => Nat.zero_le _)

theorem Keeps.chgGoto (h : Keeps k s v) (st : ChgState) : Keeps k s (v.chgGoto st) := h.modChg

theorem Keeps.chgNext (h : Keeps k s v) : Keeps k s v.chgNext := h.chgGoto _

theorem Keeps.chgFault (h : Keeps k s v) (res : MoveResult) : Keeps k s (v.chgFault res) :=
  ((h.endRunning res).cancelRest).chgGoto _

theorem Keeps.beginGrip (h : Keeps k s v) (l : Loc) : Keeps k s (v.beginGrip l) := h.modChg

theorem Keeps.removeHeld (h : Keeps k s v) (l : Loc) :
    Keeps k s (if (v.mtb.get l).isSome then v.modMtb (·.remove l) else v) :=
  .ite _ (fun _ => h.modMtb (Mtb.remove_keeps _ _)) fun _ => h

theorem Keeps.sourceEmpty (h : Keeps k s v) (l : Loc) : Keeps k s (v.sourceEmpty l) :=
  ((h.removeHeld l).endHead _ _).chgNext

theorem Keeps.readBay (h : Keeps k s v) (t : Tr) : Keeps k s (v.readBay t) := by
  unfold State.readBay
  split
  · exact h.sourceEmpty _
  · exact h.beginGrip _
  · exact h.modChg

theorem Keeps.arriveSource (h : Keeps k s v) (l : Loc) : Keeps k s (v.arriveSource l) := by
  unfold State.arriveSource
  split
  · exact h.readBay _
  · exact .ite _ (fun _ => h.modChg) fun _ => h.modChg
  · exact h.modChg

theorem Keeps.travelSource (h : Keeps k s v) (l : Loc) : Keeps k s (v.travelSource l) := by
  unfold State.travelSource
  exact .ite _ (fun _ => h.arriveSource l) fun _ => h.modChg

theorem Keeps.beginPlace (h : Keeps k s v) : Keeps k s v.beginPlace := h.modChg

theorem Keeps.destOccupied (h : Keeps k s v) : Keeps k s v.destOccupied := ((h.endHead _ _).cancelRest).chgGoto _

theorem Keeps.senseDest (h : Keeps k s v) (l : Loc) (present : Bool) : Keeps k s (v.senseDest l present) := by
  unfold State.senseDest
  exact .ite _ (fun _ => h.destOccupied) fun _ => h.beginPlace

theorem Keeps.arriveDest (h : Keeps k s v) (l : Loc) (present : Bool) : Keeps k s (v.arriveDest l present) := by
  unfold State.arriveDest
  exact .ite _ (fun _ => h.modChg) fun _ => h.senseDest _ _

theorem Keeps.travelDest (h : Keeps k s v) (l : Loc) : Keeps k s (v.travelDest l) := by
  unfold State.travelDest
  refine .ite _ (fun _ => ?_) fun _ => h.modChg
  split
  · exact h.arriveDest _ _
  · exact .ite _ (fun _ => h.arriveDest _ _) fun _ => h.modChg
  · exact h.modChg

theorem Keeps.beginHead (h : Keeps k s v) : Keeps k s v.beginHead := by
  unfold State.beginHead
  split
  · exact h
  · exact .ite _ (fun _ => h.arriveSource _) fun _ => h.travelSource _
  · exact (h.modChg).travelSource _

theorem Keeps.chgDriveN (n : Nat) (h : Keeps k s v) : Keeps k s (State.chgDriveN n v) := by
  induction n generalizing v with
  | zero => exact h
  | succ n ih =>
    unfold State.chgDriveN
    refine .ite _ (fun _ => ?_) fun _ => h
    split
    · exact h.chgGoto _
    · exact ih h.beginHead

theorem Keeps.chgDrive (h : Keeps k s v) : Keeps k s v.chgDrive := h.chgDriveN _

theorem Keeps.chgWatch (h : Keeps k s v) : Keeps k s v.chgWatch := by
  unfold State.chgWatch
  split
  · split
    · exact h.beginGrip _
    · exact h.sourceEmpty _
    · exact h
  · exact h

theorem Keeps.scanNext (h : Keeps k s v) (last : Nat) : Keeps k s (v.scanNext last) := by
  unfold State.scanNext
  exact .ite _ (fun _ => (h.endHead _ _).chgNext) fun _ => (h.modChg).travelSource _

theorem Keeps.chgReply (h : Keeps k s v) (tag code : Byte) (b : ReplyBody) :
    Keeps (k + 1) s (v.chgReply tag code b) := h.reply _ _ _ _

theorem Keeps.queueOrder (h : Keeps k s v) (o : Order) (room : v.chg.queue.length < 8) :
    Keeps k s (v.queueOrder o) := h.modChg (relock_keeps fun _ => length_snoc_le room)

theorem Keeps.takeMove (h : Keeps k s v) (tag src dst : Byte) (a : Bool) (o : Half) :
    Keeps (k + 1) s (v.takeMove tag src dst a o) := by
  unfold State.takeMove Config.orderMax
  split
  · exact h.chgReply _ _ _
  · refine .ite _ (fun _ => h.chgReply _ _ _) fun _ => .ite _ (fun _ => h.chgReply _ _ _) fun _ =>
      .ite _ (fun _ => h.chgReply _ _ _) fun _ => .ite _ (fun _ => h.chgReply _ _ _) fun room => ?_
    exact (h.chgReply _ _ _).queueOrder _ (Nat.lt_of_not_le room)

theorem Keeps.takeScan (h : Keeps k s v) (tag first last : Byte) : Keeps (k + 1) s (v.takeScan tag first last) := by
  unfold State.takeScan Config.orderMax
  refine .ite _ (fun _ => h.chgReply _ _ _) fun _ => .ite _ (fun _ => h.chgReply _ _ _) fun _ =>
    .ite _ (fun _ => h.chgReply _ _ _) fun room => ?_
  exact (h.chgReply _ _ _).queueOrder _ (Nat.lt_of_not_le room)

theorem Keeps.takeCancel (h : Keeps k s v) (tag : Byte) : Keeps (k + 1) s (v.takeCancel tag) := by
  unfold State.takeCancel
  refine .ite _ (fun _ => h.chgReply _ _ _) fun _ => ((h.chgReply _ _ _).cancelOrders _).modChg (relock_keeps ?_)
  intro hl
  dsimp only
  split
  · exact Nat.le_trans (List.length_take_le _ _) (by decide)
  · exact Nat.zero_le _

theorem Keeps.modEntry (h : Keeps k s v) (l : Loc) {f : CartRecord → CartRecord}
    (hl : ∀ r, (f r).label = r.label ∧ (f r).duplicate = r.duplicate := by exact fun _ => ⟨rfl, rfl⟩)
    (hmap : ∀ r, r.map.length ≤ 64 → (f r).map.length ≤ 64 := by exact fun _ => id) :
    Keeps k s (v.modMtb fun m => m.modify l f) := h.modMtb (Mtb.modify_keeps _ _ hl hmap)

theorem Keeps.noteInvalid (h : Keeps k s v) (o : Order) : Keeps k s (v.noteInvalid o) := h.modEntry _

theorem Keeps.cutNote (h : Keeps k s v) : Keeps k s v.cutNote := by
  unfold State.cutNote
  split
  · exact (h.noteInvalid _).modChg
  · exact h.modChg
  · exact h

theorem Keeps.cutOrders (h : Keeps k s v) (res : MoveResult) : Keeps k s (v.cutOrders res) := by
  unfold State.cutOrders
  exact (Keeps.modChg (.ite _ (fun _ => h.cutNote.endRunning res) fun _ => h.cutNote)).cancelRest

theorem Keeps.startHoming (h : Keeps k s v) : Keeps k s v.startHoming := h.modChg

theorem Keeps.takeChangerReset (h : Keeps k s v) (tag : Byte) : Keeps (k + 1) s (v.takeChangerReset tag) := by
  unfold State.takeChangerReset
  exact .ite _ (fun _ => ((h.chgReply _ _ _).cutOrders _).modChg) fun _ => ((h.chgReply _ _ _).cutOrders _).startHoming

theorem Keeps.noteDone (h : Keeps k s v) : Keeps k s v.noteDone := by
  have ended := h.modChg (f := fun c => { c with noteOp := none })
  unfold State.noteDone
  dsimp only
  split
  · exact ended.travelDest _
  · exact ended.beginPlace
  · exact ended

theorem Keeps.startNote (h : Keeps k s v) (l : Loc) (r : CartRecord) : Keeps k s (v.startNote l r) := by
  unfold State.startNote
  split
  · exact h.modChg
  · exact h.modChg
  · exact (h.modEntry l).noteDone
  · exact h.noteDone

theorem Keeps.gripUnseats (h : Keeps k s v) (l : Loc) : Keeps k s (v.gripUnseats l) := by
  unfold State.gripUnseats
  split
  · exact Keeps.modChg (.ite _ (fun _ => h.unseat _) fun _ => h)
  · exact h

theorem Keeps.createRecord (h : Keeps k s v) (l : Loc) : Keeps k s (v.createRecord l) := by
  unfold State.createRecord
  refine .ite _ (fun _ => h) fun empty => h.modMtb (Mtb.create_keeps ?_ rfl rfl rfl)
  simpa using empty

theorem Keeps.passRecord (h : Keeps k s v) (src dst : Loc) : Keeps k s (v.passRecord src dst) :=
  h.modMtb (Mtb.pass_keeps _ _ _ _)

theorem Keeps.gripped (h : Keeps k s v) : Keeps k s v.gripped := by
  unfold State.gripped
  split
  · next o rest _ _ =>
    dsimp only
    have held : Keeps k s (((((if o.isScan then v else v.passRecord (v.chg.gripLoc o) (v.chg.heldLoc o)).createRecord
        (v.chg.heldLoc o)).gripUnseats (v.chg.gripLoc o))).modChg fun c => { c with hand := .holding }) :=
      (((Keeps.ite _ (fun _ => h) fun _ => h.passRecord _ _).createRecord _).gripUnseats _).modChg
    split
    · exact held.startNote _ _
    · exact held
  · exact h

theorem Keeps.pageDone (h : Keeps k s v) : Keeps k s v.pageDone := by
  unfold State.pageDone
  split
  · exact h.modChg
  · exact h

theorem Keeps.noteFailed (h : Keeps k s v) : Keeps k s v.noteFailed := by
  unfold State.noteFailed
  split
  · exact ((h.noteInvalid _).modChg).noteDone
  · exact h

/-- Only the first 64 map entries of a note are kept (R19). -/
theorem check_map {sec sec' : Sections} {cap : Nat} (h : sec.check cap = some sec') : sec'.map.length ≤ 64 := by
  unfold Sections.check Config.mapMax at h
  obtain ⟨-, kept⟩ := Option.ite_none_right_eq_some.mp h
  obtain rfl := Option.some.inj kept
  exact List.length_take_le _ _

/-- A record rebuilt from a note holds at most 64 map entries (R19, R20). -/
theorem rebuild_map (image : Option (List Byte)) : (rebuild image).map.length ≤ 64 := by
  unfold rebuild
  split
  · exact Nat.zero_le _
  · split
    · exact Nat.zero_le _
    · dsimp only
      split
      · exact Nat.zero_le _
      · split
        · exact Nat.zero_le _
        · next sec hsec =>
          obtain ⟨found, -, checked⟩ := Option.bind_eq_some_iff.mp hsec
          exact check_map checked

theorem Keeps.noteRead (h : Keeps k s v) (image : Option (List Byte)) : Keeps k s (v.noteRead image) := by
  unfold State.noteRead
  split
  · next o rest _ _ =>
    dsimp only
    refine (Keeps.modChg (h.modMtb ?_)).noteDone
    exact .settle (maps_put fun r hr => Option.some.inj hr ▸ rebuild_map image)
  · exact .ite _ (fun _ => (h.modEntry _).noteDone) fun _ => h.noteFailed
  · exact h

theorem Keeps.noteTimeout (h : Keeps k s v) : Keeps k s v.noteTimeout := by
  unfold State.noteTimeout
  split
  · exact h
  · exact h.noteFailed
  · exact h

theorem Keeps.arrived (h : Keeps k s v) (present : Bool) : Keeps k s (v.arrived present) := by
  unfold State.arrived
  split
  · exact (h.modChg).arriveSource _
  · exact (h.modChg).arriveDest _ _
  · exact h

theorem Keeps.travelLost (h : Keeps k s v) : Keeps k s v.travelLost := by
  unfold State.travelLost
  split
  · exact (h.chgFault _).modChg
  · exact (h.chgFault _).modChg
  · exact h

theorem Keeps.scanSensed (h : Keeps k s v) (last : Nat) (present : Bool) : Keeps k s (v.scanSensed last present) := by
  unfold State.scanSensed
  have visited := h.modChg (f := fun c => { c with visited := c.visited + 1 })
  refine .ite _ (fun _ => .ite _ (fun _ => (visited.createRecord _).beginGrip _) fun _ => visited.scanNext _)
    fun _ => (visited.removeHeld _).scanNext _

theorem Keeps.handSensed (h : Keeps k s v) (dst : Loc) (present : Bool) : Keeps k s (v.handSensed dst present) := by
  unfold State.handSensed
  exact .ite _ (fun _ => (h.modChg).travelDest _) fun _ => (h.modChg).sourceEmpty _

theorem Keeps.sensed (h : Keeps k s v) (present : Bool) : Keeps k s (v.sensed present) := by
  unfold State.sensed
  split
  · exact .ite _ (fun _ => h.handSensed _ _) fun _ => .ite _ (fun _ => h.beginGrip _) fun _ => h.sourceEmpty _
  · exact h.scanSensed _ _
  · exact h.senseDest _ _
  · exact h

theorem Keeps.gripLost (h : Keeps k s v) : Keeps k s v.gripLost := by
  unfold State.gripLost
  split
  · exact (h.chgFault _).modChg
  · exact h

theorem Keeps.placedMove (h : Keeps k s v) (dst : Loc) (a : Bool) : Keeps k s (v.placedMove dst a) := by
  have moved := Keeps.chgNext ((Keeps.modChg (f := fun c => { c with hand := .empty, image := none })
    (h.passRecord .hand dst)).endHead (if v.chg.noteFault then .noteWriteFault else .ok) (some dst))
  unfold State.placedMove
  dsimp only
  split
  · exact .ite _ (fun _ => moved.autoload _) fun _ => moved
  · exact moved

theorem Keeps.placed (h : Keeps k s v) : Keeps k s v.placed := by
  unfold State.placed
  split
  · exact h.placedMove _ _
  · exact (h.modChg).scanNext _
  · exact h

theorem Keeps.placeTest (h : Keeps k s v) : Keeps k s v.placeTest := by
  unfold State.placeTest
  exact .ite _ (fun _ => h.placed) fun _ => h

theorem Keeps.released (h : Keeps k s v) : Keeps k s v.released := by
  unfold State.released
  split
  · exact (h.modChg).placeTest
  · exact h

theorem Keeps.placeLost (h : Keeps k s v) : Keeps k s v.placeLost := by
  unfold State.placeLost
  split
  · exact (h.chgFault _).modChg
  · exact h

theorem Keeps.bayLost (h : Keeps k s v) : Keeps k s v.bayLost := by
  unfold State.bayLost
  exact .ite _ (fun _ => (h.endRunning _).chgNext) fun _ => h

theorem Keeps.mailLost (h : Keeps k s v) : Keeps k s v.mailLost := by
  unfold State.mailLost
  refine .ite _ (fun _ => ?_) fun _ => h
  split
  · exact ((h.endRunning _).cancelRest).chgGoto _
  · exact (h.endRunning _).chgNext

theorem Keeps.settleRecords (h : Keeps k s v) (hand : Hand) (grip : Bool) : Keeps k s (v.settleRecords hand grip) := by
  unfold State.settleRecords
  split
  · exact (h.passRecord _ _).createRecord _
  · exact h.passRecord _ _
  · exact h.passRecord _ _
  · exact h

theorem Keeps.settleHand (h : Keeps k s v) (grip : Bool) : Keeps k s (v.settleHand grip) := by
  unfold State.settleHand
  split
  · exact (h.settleRecords _ _).modChg
  · exact (h.settleRecords _ _).modChg
  · exact h

theorem Keeps.mainOpened (h : Keeps k s v) : Keeps k s v.mainOpened := by
  unfold State.mainOpened
  exact .ite _ (fun _ => h) fun _ => Keeps.modChg (((h.cutOrders _).modMtb (Mtb.doubtAll_keeps _)).notify _)

theorem Keeps.mainClosed (h : Keeps k s v) (grip : Bool) : Keeps k s (v.mainClosed grip) := by
  have closed := (h.notify (.door false)).modChg (f := fun c => { c with mainOpen := false })
  unfold State.mainClosed
  exact .ite _ (fun _ => h) fun _ => .ite _ (fun _ => .ite _ (fun _ => closed.startHoming) fun _ =>
    (closed.settleHand grip).chgGoto _) fun _ => closed

theorem Keeps.mailOpened (h : Keeps k s v) : Keeps k s v.mailOpened := by
  unfold State.mailOpened
  exact .ite _ (fun _ => h) fun _ => h.modChg

theorem Keeps.mailTaken (h : Keeps k s v) (present : Bool) : Keeps k s (v.mailTaken present) := by
  unfold State.mailTaken
  split
  · next empty => exact (h.modMtb (Mtb.create_keeps (by simpa using empty) rfl rfl rfl)).notify _
  · exact h.modEntry _
  · exact (h.modMtb (Mtb.remove_keeps _ _)).notify _
  · exact h

theorem Keeps.mailResume (h : Keeps k s v) (present : Bool) : Keeps k s (v.mailResume present) := by
  unfold State.mailResume
  split
  · exact h.arriveSource _
  · exact h.senseDest _ _
  · exact h

theorem Keeps.mailClosed (h : Keeps k s v) (present : Bool) : Keeps k s (v.mailClosed present) := by
  unfold State.mailClosed
  exact .ite _ (fun _ => h) fun _ => (h.modChg.mailTaken _).mailResume _

theorem Keeps.homed (h : Keeps k s v) (grip : Bool) : Keeps k s (v.homed grip) := by
  unfold State.homed
  exact .ite _ (fun _ => ((h.modChg.settleHand grip).chgGoto _).notify _) fun _ => h

theorem Keeps.homingLost (h : Keeps k s v) : Keeps k s v.homingLost := by
  unfold State.homingLost
  exact .ite _ (fun _ => (h.chgGoto _).notify _) fun _ => h

end

end Sys2Proof.Proofs
end

section
/-! PROOFS. What every step keeps: read jobs and write jobs. -/

open Sys2Proof Sys2Proof.Machine Sys2Proof.Claims

namespace Sys2Proof.Proofs

-- One declaration at a time: elaborated in parallel, the joined text needs more threads than the memory limit holds.
set_option Elab.async false

/-! ## Read jobs -/

theorem readJob_eq {c : Tc} {r : ReadJob} (h : c.readJob = some r) : c.job = some (.read r) := by
  unfold Tc.readJob at h
  split at h
  · next hj => rw [hj, Option.some.inj h]
  · cases h

theorem writeJob_eq {c : Tc} {w : WriteJob} (h : c.writeJob = some w) : c.job = some (.write w) := by
  unfold Tc.writeJob at h
  split at h
  · next hj => rw [hj, Option.some.inj h]
  · cases h

/-- A full fault list keeps its length, whether the oldest fault gives way or the new one is left out (R159). -/
theorem length_kept (keepLast : Bool) {l : List VFault} (f : VFault) (full : ¬ l.length < 32) :
    (if keepLast then l.tail ++ [f] else l).length = l.length := by
  cases keepLast
  · rfl
  · simp; omega

/-- A fault recorded keeps the law of the fault list (R159). -/
theorem record_faults {r : ReadJob} (f : VFault) (h : Job.FaultsBounded (some (.read r))) :
    Job.FaultsBounded (some (.read (r.record f))) := by
  obtain ⟨h32, hcount⟩ := h
  unfold Job.FaultsBounded ReadJob.record Config.faultMax
  dsimp only
  split
  · simp; omega
  · next full =>
    rw [length_kept _ _ full]
    omega

/-- A pair compared keeps the law of the fault list (R156, R159). -/
theorem pair_faults {r : ReadJob} (d : DByte) (b : Byte) (h : Job.FaultsBounded (some (.read r))) :
    Job.FaultsBounded (some (.read (r.pair d b))) := by
  unfold ReadJob.pair
  split
  · exact h
  · split
    · exact h
    · exact record_faults _ h

@[simp] theorem Cmp.takeHost_job (c : Cmp) (n : Nat) : (c.takeHost n).job = c.job := by
  unfold Cmp.takeHost
  split
  · split <;> rfl
  · rfl

/-- A step of the comparison changes the job's counts and may record one fault (R156 to R158). -/
theorem cmpStep_faults {c d : Cmp} (step : c.step = some d) (h : Job.FaultsBounded (some (.read c.job))) :
    Job.FaultsBounded (some (.read d.job)) := by
  unfold Cmp.step at step
  repeat' split at step
  all_goals cases step
  all_goals first | exact h | (rw [Cmp.takeHost_job]; first | exact h | exact pair_faults _ _ h)

theorem cmpRun_faults (n : Nat) {c : Cmp} (h : Job.FaultsBounded (some (.read c.job))) :
    Job.FaultsBounded (some (.read (Cmp.run n c).job)) := by
  induction n generalizing c with
  | zero => exact h
  | succ n ih =>
    unfold Cmp.run
    split
    · exact h
    · next d hd => exact ih (cmpStep_faults hd h)

theorem unreadable_faults {r : ReadJob} (h : Job.FaultsBounded (some (.read r))) :
    Job.FaultsBounded (some (.read r.unreadable)) := record_faults _ h

theorem take_faults {r : ReadJob} (f : ReadFrame) (mark : Bool) (h : Job.FaultsBounded (some (.read r))) :
    Job.FaultsBounded (some (.read (r.take f mark))) := by
  unfold ReadJob.take
  dsimp only
  split <;> exact h

section
variable {k : Nat} {s v : State}

theorem Keeps.endReading (h : Keeps k s v) (t : Tr) (res : JobResult) : Keeps k s (v.endReading t res) :=
  (h.modRead t).modTc t (Tc.goto_keeps _ _).then

theorem Keeps.takeHeads (h : Keeps k s v) (t : Tr) : Keeps k s (v.takeHeads t) := by
  unfold State.takeHeads
  split
  · exact h.modTc t
  · exact h

theorem Keeps.lastGaps (h : Keeps k s v) (t : Tr) : Keeps k s (v.lastGaps t) := by
  unfold State.lastGaps
  split
  · exact .ite _ (fun _ => (h.modTc t).modRead t) fun _ => h
  · exact h

theorem Keeps.readResume (h : Keeps k s v) (t : Tr) : Keeps k s (v.readResume t) := by
  unfold State.readResume
  split
  · exact .ite _ (fun _ => h.stream t _) fun _ => h
  · exact h

theorem Keeps.compare (h : Keeps k s v) (t : Tr) : Keeps k s (v.compare t) := by
  unfold State.compare
  split
  · next r hr =>
    refine .ite _ (fun _ => ?_) fun _ => h
    have compared := fun d (hd : Job.FaultsBounded (some (.read r)) → Job.FaultsBounded (some (.read d.job))) =>
      h.modTc t (f := fun c => { c with delivery := Cmp.delivery d, intake := d.intake, job := some (.read d.job) })
        ⟨id, fun b => hd (readJob_eq hr ▸ b)⟩
    exact .ite _ (fun _ => compared _ fun b => cmpRun_faults _ b) fun _ => (compared _ fun b => cmpRun_faults _ b).earn t _
  · exact h

theorem Keeps.endRead (h : Keeps k s v) (t : Tr) (res : JobResult) : Keeps k s (v.endRead t res) :=
  ((h.countSurplus t).goto t _).endJob t res

theorem Keeps.shortEnd (h : Keeps k s v) (t : Tr) : Keeps k s (v.shortEnd t) := by
  unfold State.shortEnd
  split
  · exact .ite _ (fun _ => h.endRead t _) fun _ => h
  · exact h

theorem Keeps.readEndTest (h : Keeps k s v) (t : Tr) : Keeps k s (v.readEndTest t) := by
  unfold State.readEndTest
  split
  · next r _ =>
    refine .ite _ (fun _ => ?_) fun _ => h
    have closed : Keeps k s
        (if r.isRestore then v.modTc t fun c => { c with delivery := closeFilling c.delivery } else v) :=
      .ite _ (fun _ => h.modTc t) fun _ => h
    exact .ite _ (fun _ => closed.endRead t _) fun _ => closed
  · exact h

theorem Keeps.readPump (h : Keeps k s v) (t : Tr) : Keeps k s (v.readPump t) :=
  (((((h.takeHeads t).lastGaps t).readResume t).compare t).shortEnd t).readEndTest t

theorem Keeps.acceptFrame (h : Keeps k s v) (t : Tr) (r : ReadJob) (f : ReadFrame) (mark : Bool) :
    Keeps k s (v.acceptFrame t r f mark) :=
  (((h.modTc t).modRead t fun _ => take_faults f mark).learn t _ _).watchTest t _ _ _ _ _

theorem Keeps.afterFrame (h : Keeps k s v) (t : Tr) (stop : Option JobResult) : Keeps k s (v.afterFrame t stop) := by
  have counted := (h.takeHeads t).modTc t (f := fun c =>
    { c with gov := c.gov.countFrame false c.blockQ.length }) (Tc.countFrame_keeps _ false _)
  unfold State.afterFrame
  dsimp only
  split
  · exact (counted.endReading t _).readPump t
  · exact .ite _ (fun _ => ((counted.modRead t).goto t _).readPump t) fun _ => counted.readPump t

theorem Keeps.readFault (h : Keeps k s v) (t : Tr) : Keeps k s (v.readFault t) := by
  unfold State.readFault
  split
  · exact h
  · next r hr =>
    refine .ite _ (fun _ => ((h.modRead t).endReading t _).readPump t) fun _ => ?_
    have recorded : Keeps k s (v.modRead t fun _ => r.unreadable) := h.modTc t (by
      rw [readJob_eq hr]
      exact ⟨id, fun b => unreadable_faults (readJob_eq hr ▸ b)⟩)
    dsimp only
    split
    · exact (recorded.endReading t _).readPump t
    · exact .ite _ (fun _ => (recorded.endReading t _).readPump t) fun _ =>
        ((recorded.modRead t).modTc t (Tc.goto_keeps _ _).then).readPump t

theorem Keeps.readOne (h : Keeps k s v) (t : Tr) (raw : RawFrame) : Keeps k s (v.readOne t raw) := by
  unfold State.readOne
  split
  · have passed := (h.modTc t (f := fun c => c.passed raw) (Tc.passed_keeps _ raw)).modRead t (f := fun r =>
      { r with framesRead := r.framesRead + 1 })
    dsimp only
    split
    · exact (passed.acceptFrame t _ _ _).afterFrame t _
    · exact passed.afterFrame t _
    · exact passed.afterFrame t _
    · exact .ite _ (fun _ => ((passed.modRead t).modTc t (Tc.countFrame_keeps _ false _)).readFault t) fun _ =>
        (passed.modRead t).afterFrame t _
  · exact h

theorem Keeps.readStart (h : Keeps k s v) (t : Tr) (f : ReadFrame) (mark : Bool) : Keeps k s (v.readStart t f mark) := by
  unfold State.readStart
  split
  · exact h
  · next r _ =>
    have streaming := (h.modTc t (f := fun c => { c.stream .reading with locate := none })
      (Tc.stream_keeps _ .reading).then).modRead t (f := fun r => { r with framesRead := 1, x := f.hdr.addr })
    have granted := Keeps.ite (r.isCompare = true) (fun _ => streaming.earn t Config.startCredits) fun _ => streaming
    dsimp only
    split
    · exact ((granted.acceptFrame t _ _ _).endReading t _).readPump t
    · exact (granted.acceptFrame t _ _ _).readPump t

theorem Keeps.readHitched (h : Keeps k s v) (t : Tr) : Keeps k s (v.readHitched t) := by
  unfold State.readHitched
  exact .ite _ (fun _ => (h.goto t _).readPump t) fun _ => h

theorem Keeps.beginDecode (h : Keeps k s v) (t : Tr) : Keeps k s (v.beginDecode t) := by
  unfold State.beginDecode
  split
  · exact ((h.setCx t _).modTc t).setDp _
  · exact h

theorem Keeps.sliceGood (h : Keeps k s v) (t : Tr) (i : ReadInfo) (b : Block) (out : SliceOut) :
    Keeps k s (v.sliceGood t i b out) := by
  unfold State.sliceGood
  exact ((h.modRead t).setCx t _).modTc t

theorem Keeps.restoreFault (h : Keeps k s v) (t : Tr) (a slice : Nat) : Keeps k s (v.restoreFault t a slice) := by
  unfold State.restoreFault
  exact (((h.modRead t).endReading t _).clearCtx t _).modTc t

theorem Keeps.sliceBad (h : Keeps k s v) (t : Tr) (i : ReadInfo) (b : Block) (kind : VFaultKind) (slice : Nat) :
    Keeps k s (v.sliceBad t i b kind slice) := by
  have gaveUp := (h.setCx t (v.cx t).giveUp).modTc t (f := fun c =>
    { c with delivery := c.delivery.filterMap DItem.strip, blockQ := c.blockQ.tail })
  unfold State.sliceBad
  dsimp only
  split
  · exact gaveUp
  · exact .ite _ (fun _ => gaveUp.restoreFault t _ _) fun _ =>
      .ite _ (fun _ => (gaveUp.modRead t fun _ => record_faults _).modTc t) fun _ =>
        gaveUp.modRead t fun _ => record_faults _

theorem Keeps.decoded (h : Keeps k s v) (t : Tr) : Keeps k s (v.decoded t) := by
  unfold State.decoded
  split
  · exact h
  · dsimp only
    split
    · exact (h.sliceGood t _ _ _).readPump t
    · exact (h.sliceBad t _ _ _ _).readPump t
    · exact (h.sliceBad t _ _ _ _).readPump t

theorem sent_faults {r : ReadJob} (d : DItem) (h : Job.FaultsBounded (some (.read r))) :
    Job.FaultsBounded (some (.read (r.sent d))) := by
  cases d <;> exact h

theorem Keeps.sendData (h : Keeps k s v) (t : Tr) : Keeps k s (v.sendData t) := by
  unfold State.sendData
  split
  · exact h
  · exact (((h.modTc t).modRead t fun _ => sent_faults _).modLnk ⟨id, Nat.le_refl _, id, id, id, id⟩).readPump t

theorem Keeps.abortReadNow (h : Keeps k s v) (t : Tr) (tach : Nat) : Keeps k s (v.abortReadNow t tach) :=
  ((h.modRead t).modTc t).endRead t _

theorem Keeps.abortRead (h : Keeps k s v) (t : Tr) (r : ReadJob) (now : Bool) (tach : Nat) :
    Keeps k s (v.abortRead t r now tach) := by
  unfold State.abortRead
  exact .ite _ (fun _ => h) fun _ => .ite _ (fun _ => h.abortReadNow t _) fun _ => .ite _ (fun _ => h) fun _ =>
    h.modRead t

theorem Keeps.closeCompare (h : Keeps k s v) (t : Tr) (tag : Byte) : Keeps (k + 1) s (v.closeCompare t tag) :=
  (((h.accept t tag _).modTc t).modRead t).readPump t

end

/-! ## Write jobs -/

section
variable {k : Nat} {s v : State}

/-- A transport that stops writing entries after a change of its queues keeps its laws (R121). -/
theorem Tc.setThenDrain_keeps {c d : Tc} (hg : d.gov = c.gov) (hj : d.job = c.job) : TcKeeps c d.toDrain :=
  TcKeeps.trans ⟨fun b => hg ▸ b, fun b => hj ▸ b⟩ (Tc.toDrain_keeps d)

theorem Keeps.gather (h : Keeps k s v) (t : Tr) : Keeps k s (v.gather t) := by
  unfold State.gather
  split
  · exact h
  · dsimp only
    have taken := fun x i q n => ((h.setCx t x).setTc t (c := { v.tc t with intake := i, blockQ := q })
      (by rw [State.setCx_tc]; exact ⟨id, id⟩)).modWrite t fun w => { w with rawAccepted := w.rawAccepted + n }
    exact .ite _ (fun _ => taken _ _ _ _) fun _ => (taken _ _ _ _).earn t _

theorem Keeps.compressed (h : Keeps k s v) (t : Tr) : Keeps k s (v.compressed t) := by
  unfold State.compressed
  exact ((h.setCx t _).setTc t (by rw [State.setCx_tc]; exact ⟨id, id⟩)).gather t

theorem Keeps.warn (h : Keeps k s v) (t : Tr) (place : Nat) : Keeps k s (v.warn t place) := by
  unfold State.warn
  split
  · exact .ite _ (fun _ => (h.modWrite t _).notify _) fun _ => h
  · exact h

theorem Keeps.beginFrame (h : Keeps k s v) (t : Tr) (f : WFrame) : Keeps k s (v.beginFrame t f) :=
  (h.warn t _).modWrite t _

theorem Keeps.firstWriting (h : Keeps k s v) (t : Tr) (w : WriteJob) (place : Nat) (b : Option Block)
    (rest : List QEntry) : Keeps k s (v.firstWriting t w place b rest) := by
  unfold State.firstWriting
  exact ((h.modTc t).modWrite t _).beginFrame t _

theorem Keeps.drainFrame (h : Keeps k s v) (t : Tr) (place : Nat) : Keeps k s (v.drainFrame t place) := by
  unfold State.drainFrame
  split
  · exact h.beginFrame t _
  · exact h

theorem Keeps.discardWork (h : Keeps k s v) (t : Tr) (keep : Bool) : Keeps k s (v.discardWork t keep) := by
  unfold State.discardWork
  exact ((h.clearCtx t _).modTc t).modWrite t _

theorem Keeps.giveUp (h : Keeps k s v) (t : Tr) (res : JobResult) (given : List WEntry) :
    Keeps k s (v.giveUp t res given) := by
  unfold State.giveUp
  exact ((h.discardWork t false).modWrite t _).modTc t
    (Tc.setThenDrain_keeps rfl rfl)

theorem Keeps.writeHitch (h : Keeps k s v) (t : Tr) : Keeps k s (v.writeHitch t) := by
  unfold State.writeHitch
  exact (h.modTc t (Tc.goto_keeps _ _).then).modWrite t _

theorem Keeps.chooseFrame (h : Keeps k s v) (t : Tr) (w : WriteJob) (place : Nat) :
    Keeps k s (v.chooseFrame t w place) := by
  unfold State.chooseFrame
  refine .ite _ (fun _ => (h.giveUp t _ _).drainFrame t _) fun _ => ?_
  split
  · exact (h.modTc t).beginFrame t _
  · refine .ite _ (fun _ => h.drainFrame t _) fun _ => ?_
    split
    · exact h.firstWriting t _ _ _ _
    · exact h.firstWriting t _ _ _ _
    · refine Keeps.drainFrame (h.modTc t ?_) t _
      exact Tc.setThenDrain_keeps rfl rfl
    · exact .ite _ (fun _ => h.beginFrame t _) fun _ => h.writeHitch t

theorem Keeps.choose (h : Keeps k s v) (t : Tr) : Keeps k s (v.choose t) := by
  have finished := h.modTc t (Tc.finishQueued_keeps _)
  unfold State.choose
  dsimp only
  split
  · exact .ite _ (fun _ => finished.chooseFrame t _ _) fun _ => finished
  · exact finished

theorem Keeps.writeResume (h : Keeps k s v) (t : Tr) : Keeps k s (v.writeResume t) := by
  unfold State.writeResume
  split
  · exact .ite _ (fun _ => (h.stream t _).choose t) fun _ => h
  · exact h

theorem Keeps.writePump (h : Keeps k s v) (t : Tr) : Keeps k s (v.writePump t) :=
  ((h.gather t).writeResume t).gather t

theorem Keeps.writeStart (h : Keeps k s v) (t : Tr) (a file : Nat) (rec : Bool) :
    Keeps k s (v.writeStart t a file rec) := by
  unfold State.writeStart
  have placed := (h.modWrite t fun w =>
    { w with start := some a, nextAddr := a, nextFile := file, eodRecovered := rec,
             fillerLimit := (v.tc t).gov.active.filler }).modTc t (f := fun c => { c with locate := none })
  dsimp only
  split
  · exact .ite _ (fun _ => (placed.goto t _).endJob t _) fun _ =>
      ((placed.goto t _).earn t _).writePump t
  · exact placed

theorem CartRecord.firstFrame_keeps (r : CartRecord) (mode : StartMode) :
    ((r.firstFrame mode).label = r.label ∧ (r.firstFrame mode).duplicate = r.duplicate) ∧
      (r.map.length ≤ 64 → (r.firstFrame mode).map.length ≤ 64) := by
  unfold CartRecord.firstFrame
  cases mode with
  | append => exact ⟨⟨rfl, rfl⟩, id⟩
  | fromFile f =>
    dsimp only
    split
    · exact ⟨⟨rfl, rfl⟩, (Nat.le_trans (List.length_take_le' _ _) ·)⟩
    · exact ⟨⟨rfl, rfl⟩, (Nat.le_trans (List.length_take_le' _ _) ·)⟩

/-- A frame written in WRITING counts toward the evaluations (R136). -/
theorem Keeps.countWriting (h : Keeps k s v) (t : Tr) :
    Keeps k s (v.modTc t fun c =>
      if c.st = .writing then { c with gov := c.gov.countFrame true c.blockQ.length } else c) := by
  refine h.modTc t ?_
  split
  · exact Tc.countFrame_keeps _ _ _
  · exact .refl _

theorem Keeps.frameWritten (h : Keeps k s v) (t : Tr) (w : WriteJob) : Keeps k s (v.frameWritten t w) := by
  unfold State.frameWritten
  split
  · exact h
  · next f _ =>
    have first : Keeps k s (if w.wrote then v else v.modBay t fun r => r.firstFrame w.mode) :=
      .ite _ (fun _ => h) fun _ =>
        h.modBay t (fun r => (CartRecord.firstFrame_keeps r _).1) (fun r => (CartRecord.firstFrame_keeps r _).2)
    exact (Keeps.choose (Keeps.countWriting ((first.modTc t).modWrite t _) t) t).gather t

theorem CartRecord.confirm_keeps (r : CartRecord) (e : WEntry) (frame : Nat) :
    ((r.confirm e frame).label = r.label ∧ (r.confirm e frame).duplicate = r.duplicate) ∧
      (r.map.length ≤ 64 → (r.confirm e frame).map.length ≤ 64) := by
  unfold CartRecord.confirm
  split
  · exact ⟨⟨rfl, rfl⟩, id⟩
  · exact CartRecord.learn_keeps r _ _ _

theorem Keeps.confirm (h : Keeps k s v) (t : Tr) (f : WFrame) (e : WEntry) : Keeps k s (v.confirm t f e) := by
  unfold State.confirm
  exact (((h.modTc t).modBay t (fun r => (CartRecord.confirm_keeps r _ _).1)
    (fun r => (CartRecord.confirm_keeps r _ _).2)).modWrite t _).watchTest t _ _ _ _ _

theorem Keeps.tailRewrite (h : Keeps k s v) (t : Tr) (w : WriteJob) : Keeps k s (v.tailRewrite t w) := by
  unfold State.tailRewrite
  have moved := fun all => (h.modTc t (f := fun c => { c with inflight := [], rewrite := all })).modWrite t fun w =>
    { w with inProgress := w.inProgress.map fun f => { f with entry := none } }
  exact .ite _ (fun _ => (moved _).giveUp t _ _) fun _ => .ite _ (fun _ => (moved _).giveUp t _ _) fun _ => moved _

theorem Keeps.endWrite (h : Keeps k s v) (t : Tr) (hd : Header) (u : Bool) : Keeps k s (v.endWrite t hd u) := by
  unfold State.endWrite
  dsimp only
  split
  · exact (((h.modBay t).modTc t (Tc.goto_keeps _ _).then).modWrite t _).endJob t _
  · exact ((h.modBay t).modTc t (Tc.goto_keeps _ _).then).modWrite t _

theorem Keeps.eodResult (h : Keeps k s v) (t : Tr) (w : WriteJob) (f : WFrame) (good : Bool) :
    Keeps k s (v.eodResult t w f good) := by
  have taken := h.modTc t (f := fun c => { c with inflight := c.inflight.tail })
  unfold State.eodResult
  exact .ite _ (fun _ => taken.endWrite t _ _) fun _ => .ite _ (fun _ => taken.choose t) fun _ => taken.endWrite t _ _

theorem Keeps.writeResult (h : Keeps k s v) (t : Tr) (w : WriteJob) (place : Nat) (raw : RawFrame) :
    Keeps k s (v.writeResult t w place raw) := by
  unfold State.writeResult
  split
  · exact h
  · refine .ite _ (fun _ => h) fun _ => ?_
    split
    · exact (Keeps.choose (.ite _ (fun _ => h.confirm t _ _) fun _ => h.tailRewrite t w) t).gather t
    · exact .ite _ (fun _ => h.eodResult t _ _ _) fun _ => ((h.modTc t).choose t).gather t

theorem Keeps.takeItem (h : Keeps k s v) (t : Tr) (tag code : Byte) (i : Item) :
    Keeps (k + 1) s (v.takeItem t tag code i) := by
  unfold State.takeItem
  exact .ite _ (fun _ => (((h.accept t tag _).modTc t).modWrite t _).writePump t) fun _ => h.refuse _ _ _ _

theorem Keeps.abortUnwritten (h : Keeps k s v) (t : Tr) : Keeps k s (v.abortUnwritten t) :=
  ((h.discardWork t false).goto t _).endJob t _

theorem Keeps.abortWrite (h : Keeps k s v) (t : Tr) (w : WriteJob) (now : Bool) : Keeps k s (v.abortWrite t w now) := by
  unfold State.abortWrite
  refine .ite _ (fun _ => h) fun _ => .ite _ (fun _ => h.abortUnwritten t) fun _ => .ite _ (fun _ => ?_) fun _ =>
    .ite _ (fun _ => h) fun _ => ?_
  · exact ((((h.discardWork t _).modWrite t _).modTc t (Tc.toDrain_keeps _)).choose t).writePump t
  · exact (((h.discardWork t _).modWrite t _).choose t).writePump t

theorem Keeps.writeHitched (h : Keeps k s v) (t : Tr) : Keeps k s (v.writeHitched t) := by
  unfold State.writeHitched
  exact .ite _ (fun _ => (h.goto t _).writePump t) fun _ => h

end

end Sys2Proof.Proofs
end

section
/-! PROOFS. What every step keeps: locating, the requests of streaming jobs, the datapath and the link; and the laws of
Safety that follow. -/

open Sys2Proof Sys2Proof.Machine Sys2Proof.Claims

namespace Sys2Proof.Proofs

-- One declaration at a time: elaborated in parallel, the joined text needs more threads than the memory limit holds.
set_option Elab.async false

/-! ## Locating, and the requests of streaming jobs -/

section
variable {k : Nat} {s v : State}

theorem Keeps.tellLocate (h : Keeps k s v) (t : Tr) (l : Locate) (res : JobResult) :
    Keeps k s (v.tellLocate t l res) := ((h.modWrite t _).countSurplus t).modRead t

theorem Keeps.locateFail (h : Keeps k s v) (t : Tr) (l : Locate) (res : JobResult) :
    Keeps k s (v.locateFail t l res) := ((h.tellLocate t l _).goto t .ready).endJob t _

theorem Keeps.positionLost (h : Keeps k s v) (t : Tr) (l : Locate) : Keeps k s (v.positionLost t l) :=
  ((h.tellLocate t l _).modTc t (Tc.goto_keeps _ _).then).endJob t _

theorem Keeps.locateAddress (h : Keeps k s v) (t : Tr) (w : Bool) (g : LocGoal) (a e : Nat) :
    Keeps k s (v.locateAddress t w g a e) := by
  unfold State.locateAddress
  exact .ite _ (fun _ => h.locateFail t _ _) fun _ => h.modTc t

theorem Keeps.locateFrom (h : Keeps k s v) (t : Tr) (w : Bool) (g : LocGoal) : Keeps k s (v.locateFrom t w g) := by
  unfold State.locateFrom
  split
  · exact (h.locateAddress t _ _ _ _).modTc t
  · exact h.modTc t

theorem Keeps.locateFile (h : Keeps k s v) (t : Tr) (w : Bool) (f : Nat) : Keeps k s (v.locateFile t w f) := by
  unfold State.locateFile
  refine .ite _ (fun _ => h.locateAddress t _ _ _ _) fun _ => ?_
  split
  · exact h.locateAddress t _ _ _ _
  · exact h.locateFrom t _ _

theorem Keeps.searchStart (h : Keeps k s v) (t : Tr) (l : Locate) (files : Nat) :
    Keeps k s (v.searchStart t l files) := by
  unfold State.searchStart
  exact .ite _ (fun _ => h.locateFail t _ _) fun _ => h.modTc t

theorem Keeps.searchOn (h : Keeps k s v) (t : Tr) (l : Locate) : Keeps k s (v.searchOn t l) := by
  unfold State.searchOn
  exact .ite _ (fun _ => h.locateFail t _ _) fun _ => h.modTc t

theorem Keeps.searchLost (h : Keeps k s v) (t : Tr) (l : Locate) (sr : Search) : Keeps k s (v.searchLost t l sr) := by
  unfold State.searchLost
  exact .ite _ (fun _ => (h.modTc t).writeStart t _ _ _) fun _ => h.searchOn t _

theorem Keeps.searchAccept (h : Keeps k s v) (t : Tr) (l : Locate) (sr : Search) (raw : RawFrame) :
    Keeps k s (v.searchAccept t l sr raw) := by
  unfold State.searchAccept
  split
  · exact (h.modTc t).writeStart t _ _ _
  · exact (h.learn t _ _).searchOn t _
  · exact h.searchOn t _
  · exact .ite _ (fun _ => h.locateFail t _ _) fun _ => h.searchOn t _

theorem Keeps.passed (h : Keeps k s v) (t : Tr) (raw : RawFrame) : Keeps k s (v.modTc t fun c => c.passed raw) :=
  h.modTc t (Tc.passed_keeps _ raw)

theorem Keeps.searchFrame (h : Keeps k s v) (t : Tr) (l : Locate) (sr : Search) (raw : RawFrame) :
    Keeps k s (v.searchFrame t l sr raw) := by
  obtain ⟨-, e⟩ | ⟨f, -, e⟩ := v.searchFrame_cases t l sr raw <;> rw [e]
  · exact (h.passed t raw).searchLost t _ _
  · exact (h.passed t raw).searchAccept t _ _ _

theorem Keeps.countOn (h : Keeps k s v) (t : Tr) (l : Locate) : Keeps k s (v.countOn t l) := by
  unfold State.countOn
  exact .ite _ (fun _ => h.locateFail t _ _) fun _ => h.modTc t

theorem Keeps.countAccept (h : Keeps k s v) (t : Tr) (l : Locate) (found : Bool) (f : ReadFrame) (mark : Bool) :
    Keeps k s (v.countAccept t l found f mark) := by
  unfold State.countAccept
  exact .ite _ (fun _ => h.readStart t _ _) fun _ => .ite _ (fun _ => (h.learn t _ _).writeStart t _ _ _) fun _ =>
    (h.learn t _ _).countOn t _

theorem Keeps.countFrame (h : Keeps k s v) (t : Tr) (l : Locate) (found : Bool) (raw : RawFrame) :
    Keeps k s (v.countFrame t l found raw) := by
  have passed := h.passed t raw
  unfold State.countFrame
  dsimp only
  split
  · exact passed.countAccept t _ _ _ _
  · exact passed.locateFail t _ _
  · exact passed.modTc t
  · exact .ite _ (fun _ => passed.locateFail t _ _) fun _ => passed.modTc t

theorem Keeps.located (h : Keeps k s v) (t : Tr) (l : Locate) (f : ReadFrame) (mark : Bool) :
    Keeps k s (v.located t l f mark) := by
  unfold State.located
  split
  · exact h.readStart t _ _
  · exact h.countAccept t _ _ _ _
  · exact (h.learn t _ _).searchStart t _ _

theorem Keeps.forwardFrame (h : Keeps k s v) (t : Tr) (l : Locate) (read : Nat) (raw : RawFrame) :
    Keeps k s (v.forwardFrame t l read raw) := by
  have on : Keeps k s (if Config.windowMax ≤ read + 1 then v.locateFail t l .locateFault
      else v.modTc t fun c => { c with locate := some { l with phase := .forward (read + 1) } }) :=
    .ite _ (fun _ => h.locateFail t _ _) fun _ => h.modTc t
  unfold State.forwardFrame
  dsimp only
  split
  · exact on
  · refine .ite _ (fun _ => (h.modTc t).writeStart t _ _ _) fun _ => .ite _ (fun _ => h.locateFail t _ _) fun _ => ?_
    split
    · exact .ite _ (fun _ => on) fun _ => h.located t _ _ _
    · exact on

theorem Keeps.tryFailed (h : Keeps k s v) (t : Tr) (l : Locate) (target : Nat) : Keeps k s (v.tryFailed t l target) := by
  unfold State.tryFailed
  exact .ite _ (fun _ => h.positionLost t _) fun _ => h.modTc t

theorem Keeps.checkFrame (h : Keeps k s v) (t : Tr) (l : Locate) (start read : Nat) (raw : RawFrame) :
    Keeps k s (v.checkFrame t l start read raw) := by
  have passed := h.passed t raw
  unfold State.checkFrame
  dsimp only
  split
  · exact .ite _ (fun _ => passed.forwardFrame t _ _ _) fun _ => passed.tryFailed t _ _
  · exact .ite _ (fun _ => passed.tryFailed t _ _) fun _ => passed.modTc t

theorem Keeps.locateFrame (h : Keeps k s v) (t : Tr) (raw : RawFrame) : Keeps k s (v.locateFrame t raw) := by
  unfold State.locateFrame
  split
  · exact h
  · dsimp only
    split
    · exact h.checkFrame t _ _ _ _
    · exact (h.passed t raw).forwardFrame t _ _ _
    · exact h.countFrame t _ _ _
    · exact h

theorem Keeps.eodSearchFrame (h : Keeps k s v) (t : Tr) (raw : RawFrame) : Keeps k s (v.eodSearchFrame t raw) := by
  unfold State.eodSearchFrame
  split
  · exact h
  · dsimp only
    split
    · exact h.searchFrame t _ _ _
    · exact h

theorem Keeps.fastMoved (h : Keeps k s v) (t : Tr) (tach : Nat) : Keeps k s (v.fastMoved t tach) := by
  have moved := h.modTc t (f := fun c => { c with pos := some tach })
  unfold State.fastMoved
  split
  · exact h
  · dsimp only
    split
    · exact moved.modTc t
    · split
      · exact moved.searchStart t _ _
      · exact moved.modTc t
    · exact ((moved.modRead t).modTc t (Tc.stream_keeps _ .reading).then).readPump t
    · exact h

theorem Keeps.fastMoveLost (h : Keeps k s v) (t : Tr) : Keeps k s (v.fastMoveLost t) := by
  unfold State.fastMoveLost
  split
  · exact h
  · exact .ite _ (fun _ => h.positionLost t _) fun _ => h

theorem Keeps.physicalEnd (h : Keeps k s v) (t : Tr) : Keeps k s (v.physicalEnd t) := by
  unfold State.physicalEnd
  split
  · split
    · exact h.locateFail t _ _
    · exact h.locateFail t _ _
    · exact h.locateFail t _ _
    · exact h.locateFail t _ _
    · exact h
  · exact .ite _ (fun _ => h.readFault t) fun _ => h

theorem Keeps.beginWriteLocate (h : Keeps k s v) (t : Tr) (mode : StartMode) :
    Keeps k s (v.beginWriteLocate t mode) := by
  unfold State.beginWriteLocate
  split
  · split
    · exact h.locateAddress t _ _ _ _
    · exact h.locateFrom t _ _
  · exact h.locateFile t _ _

theorem Keeps.takeWrite (h : Keeps k s v) (t : Tr) (tag : Byte) (mode : StartMode) (limit : Byte) :
    Keeps (k + 1) s (v.takeWrite t tag mode limit) := by
  unfold State.takeWrite
  split
  · exact h.refuse _ _ _ _
  · exact ((h.accept t tag _).startJob t).beginWriteLocate t _

/-- A read job that has just started has recorded no fault (R159). -/
theorem Keeps.startRead (h : Keeps k s v) (t : Tr) (spec : ReadSpec) (x : Nat) (bound : Option Nat) :
    Keeps k s (v.startJob t (.read { spec, x, bound }) .locating .read) :=
  h.startJob t ⟨Nat.zero_le _, Nat.zero_le _⟩

theorem Keeps.takeVerify (h : Keeps k s v) (t : Tr) (tag : Byte) (a : Word) (range : VerifyRange) (m : VerifyMode)
    (p : FaultPolicy) : Keeps (k + 1) s (v.takeVerify t tag a range m p) := by
  unfold State.takeVerify
  split
  · exact h.refuse _ _ _ _
  · exact ((h.accept t tag _).startRead t _ _ _).locateAddress t _ _ _ _

theorem Keeps.takeRestore (h : Keeps k s v) (t : Tr) (tag : Byte) (start : RestoreStart) (o : Word) (stop : RestoreEnd) :
    Keeps (k + 1) s (v.takeRestore t tag start o stop) := by
  unfold State.takeRestore
  split
  · exact h.refuse _ _ _ _
  · unfold State.beginRestoreLocate
    split
    · exact ((h.accept t tag _).startRead t _ _ _).locateAddress t _ _ _ _
    · exact ((h.accept t tag _).startRead t _ _ _).locateFile t _ _

theorem Keeps.abortLocate (h : Keeps k s v) (t : Tr) (tach : Nat) : Keeps k s (v.abortLocate t tach) :=
  (((h.countSurplus t).discardWork t false).modTc t (Tc.goto_keeps _ _).then).endJob t _

theorem Keeps.takeAbort (h : Keeps k s v) (t : Tr) (tag : Byte) (mode : AbortMode) (bay : BaySense) :
    Keeps (k + 1) s (v.takeAbort t tag mode bay) := by
  unfold State.takeAbort
  split
  · exact .ite _ (fun _ => h.refuse _ _ _ _) fun _ => .ite _ (fun _ => (h.done t tag _ _).abortLocate t _) fun _ =>
      (h.done t tag _ _).abortWrite t _ _
  · exact .ite _ (fun _ => h.refuse _ _ _ _) fun _ => .ite _ (fun _ => (h.done t tag _ _).abortLocate t _) fun _ =>
      (h.done t tag _ _).abortRead t _ _ _
  · exact h.refuse _ _ _ _

theorem Keeps.takeMark (h : Keeps k s v) (t : Tr) (tag : Byte) : Keeps (k + 1) s (v.takeMark t tag) := by
  unfold State.takeMark
  split
  · exact .ite _ (fun _ => h.refuse _ _ _ _) fun _ => h.takeItem t _ _ _
  · exact h.refuse _ _ _ _

theorem Keeps.takeClose (h : Keeps k s v) (t : Tr) (tag : Byte) : Keeps (k + 1) s (v.takeClose t tag) := by
  unfold State.takeClose
  split
  · exact .ite _ (fun _ => h.refuse _ _ _ _) fun _ => h.takeItem t _ _ _
  · exact .ite _ (fun _ => h.closeCompare t _) fun _ => h.refuse _ _ _ _
  · exact h.refuse _ _ _ _

theorem Keeps.takeDataIn (h : Keeps k s v) (t : Tr) (bytes : List Byte) : Keeps k s (v.takeDataIn t bytes) := by
  unfold State.takeDataIn
  refine .ite _ (fun _ => h) fun _ => .ite _ (fun _ => h.modLnk (Lnk.unsolicited_keeps _ t)) fun _ => ?_
  split
  · exact .ite _ (fun _ => Keeps.modWrite (h.modTc t) t _) fun _ => Keeps.writePump (h.modTc t) t
  · exact .ite _ (fun _ => Keeps.modRead (h.modTc t) t) fun _ => Keeps.readPump (h.modTc t) t
  · exact h.modTc t

theorem Keeps.hitched (h : Keeps k s v) (t : Tr) : Keeps k s (v.hitched t) := by
  unfold State.hitched
  split
  · exact h.writeHitched t
  · exact h.readHitched t
  · exact h

theorem Keeps.writeCompleted (h : Keeps k s v) (t : Tr) : Keeps k s (v.writeCompleted t) := by
  unfold State.writeCompleted
  split
  · exact h.labelWritten t _
  · exact h.frameWritten t _
  · exact h

theorem Keeps.readBack (h : Keeps k s v) (t : Tr) (place : Nat) (raw : RawFrame) : Keeps k s (v.readBack t place raw) := by
  unfold State.readBack
  split
  · split
    · exact .ite _ (fun _ => h.labelResult t _ _ _) fun _ => h
    · exact h
  · exact h.writeResult t _ _ _
  · exact h

theorem Keeps.settingsMoved (h : Keeps k s v) (t : Tr) : Keeps k s (v.settingsMoved t) := by
  unfold State.settingsMoved
  split
  · exact h.writePump t
  · exact h.readPump t
  · exact h

/-! ## The datapath -/

theorem Keeps.dpTake (h : Keeps k s v) (t : Tr) : Keeps k s (v.dpTake t) := by
  unfold State.dpTake
  exact .ite _ (fun _ => h.setDp _) fun _ => h.beginDecode t

theorem Keeps.dpNext (h : Keeps k s v) (last : Tr) : Keeps k s (v.dpNext last) := by
  unfold State.dpNext
  exact .ite _ (fun _ => h.dpTake _) fun _ => .ite _ (fun _ => h.dpTake _) fun _ => h

theorem Keeps.dpKick (h : Keeps k s v) : Keeps k s v.dpKick := by
  unfold State.dpKick
  exact .ite _ (fun _ => h) fun _ => .ite _ (fun _ => h.dpTake _) fun _ => .ite _ (fun _ => h.dpTake _) fun _ => h

theorem Keeps.compressionDone (h : Keeps k s v) : Keeps k s v.compressionDone := by
  unfold State.compressionDone
  split
  · exact .ite _ (fun _ => h) fun _ => Keeps.dpNext (.ite _ (fun _ => h.setDp none) fun _ =>
      ((h.setDp none).compressed _).writePump _) _
  · exact h

theorem Keeps.decodeDone (h : Keeps k s v) : Keeps k s v.decodeDone := by
  unfold State.decodeDone
  split
  · exact .ite _ (fun _ => Keeps.dpNext (.ite _ (fun _ => h.setDp none) fun _ => (h.setDp none).decoded _) _) fun _ => h
  · exact h

/-! ## The link -/

/-- A change of the link that reaches none of its bounds. -/
theorem Keeps.modLine (h : Keeps k s v) {f : Lnk → Lnk}
    (hf : LnkKeeps 0 v.lnk (f v.lnk) := by exact ⟨id, Nat.le_refl _, id, id, id, id⟩) : Keeps k s (v.modLnk f) :=
  h.modLnk hf

theorem Keeps.laneChoose (h : Keeps k s v) : Keeps k s v.laneChoose := by
  unfold State.laneChoose
  refine .ite _ (fun _ => h) fun _ => ?_
  split
  · next r rest hr =>
    exact h.modLnk ⟨id, by rw [hr]; simp, id, id, id, id⟩
  · split
    · next n rest hn =>
      refine Keeps.noticeLeft (h.modLnk ⟨id, Nat.le_refl _, fun bound => ?_, id, id, id⟩)
      rw [hn] at bound
      exact Nat.le_of_succ_le bound
    · split
      · exact h.sendData _
      · exact h

theorem Keeps.settle (h : Keeps k s v) : Keeps k s v.settle := h.chgWatch.chgDrive.dpKick.laneChoose.dpKick

theorem Lnk.buffer_keeps (l : Lnk) (f : InFrame) : LnkKeeps 0 l (l.buffer f) := by
  unfold Lnk.buffer Config.inboundMax
  split
  · exact Lnk.linkError_keeps l
  · next room => exact ⟨fun _ => by simp; omega, Nat.le_refl _, id, id, id, id⟩

theorem LnkKeeps.rx {k : Nat} {l m : Lnk} (h : LnkKeeps k l m) (rx : Receiver) : LnkKeeps k l { m with rx := rx } :=
  ⟨h.inbound, h.replies, h.notices, h.errors, h.unsol0, h.unsol1⟩

theorem Lnk.wholeFrame_keeps (l : Lnk) (bs : List Byte) (len : Nat) : LnkKeeps 0 l (l.wholeFrame bs len) := by
  unfold Lnk.wholeFrame
  split
  · exact (Lnk.buffer_keeps l _).rx _
  · exact (Lnk.linkError_keeps l).rx _

theorem Lnk.rxByte_keeps (l : Lnk) (b : Byte) : LnkKeeps 0 l (l.rxByte b) := by
  have line := (LnkKeeps.refl l).rx
  have bad := (Lnk.linkError_keeps l).rx
  unfold Lnk.rxByte
  split
  · split
    · exact line _
    · exact bad _
  · split
    · exact line _
    · exact .refl _
  · dsimp only
    split
    · exact line _
    · split
      · exact bad _
      · split
        · exact line _
        · exact Lnk.wholeFrame_keeps _ _ _

theorem Keeps.receive (h : Keeps k s v) (bytes : List Byte) : Keeps k s (v.receive bytes) := by
  have taken : ∀ l, LnkKeeps 0 l (bytes.foldl Lnk.rxByte l) := by
    induction bytes with
    | nil => exact .refl
    | cons b bytes ih => exact fun l => (Lnk.rxByte_keeps l b).trans (ih _)
  exact h.modLnk (taken _)

theorem Keeps.engineReply (h : Keeps k s v) (tag code : Byte) (b : ReplyBody) :
    Keeps (k + 1) s (v.engineReply tag code b) := h.reply _ _ _ _

theorem Keeps.takeStatus (h : Keeps k s v) (tag : Byte) (clear : Bool) : Keeps (k + 1) s (v.takeStatus tag clear) := by
  unfold State.takeStatus
  exact .ite _ (fun _ => (h.engineReply _ _ _).modLnk
    ⟨id, Nat.le_refl _, id, fun _ => Nat.zero_le _, fun _ => Nat.zero_le _, fun _ => Nat.zero_le _⟩) fun _ =>
    h.engineReply _ _ _

theorem Keeps.takeMedia (h : Keeps k s v) (tag loc : Byte) : Keeps (k + 1) s (v.takeMedia tag loc) := by
  unfold State.takeMedia
  split
  · exact h.engineReply _ _ _
  · exact h.engineReply _ _ _

theorem Keeps.takeResetEngine (h : Keeps k s v) (tag : Byte) : Keeps (k + 1) s (v.takeResetEngine tag) :=
  (h.engineReply _ _ _).modLine

theorem Keeps.takeApplyMove (h : Keeps k s v) (t : Tr) (tag : Byte) : Keeps (k + 1) s (v.takeApplyMove t tag) := by
  unfold State.takeApplyMove
  exact .ite _ (fun _ => h.takeApply t tag) fun _ => (h.takeApply t tag).settingsMoved t

theorem Keeps.takeResetPlace (h : Keeps k s v) (t : Tr) (tag : Byte) (bay : BaySense) :
    Keeps (k + 1) s (v.takeResetPlace t tag bay) := (h.takeTransportReset t tag bay).placeTest

theorem Keeps.one (h : Keeps k s v) : Keeps (k + 1) s v :=
  ⟨⟨h.lnk.inbound, Nat.le_succ_of_le h.lnk.replies, h.lnk.notices, h.lnk.errors, h.lnk.unsol0, h.lnk.unsol1⟩, h.mtb,
    h.chg, h.tc⟩

theorem Keeps.takeTransport (h : Keeps k s v) (t : Tr) (tag : Byte) (bay : BaySense) (r : Request) :
    Keeps (k + 1) s (v.takeTransport t tag bay r) := by
  unfold State.takeTransport
  split
  · exact h.takeLoad t tag
  · exact h.takeUnload t tag
  · exact h.takeRewind t tag
  · exact h.takeLabel t tag _
  · exact h.takeWrite t tag _ _
  · exact h.takeVerify t tag _ _ _ _
  · exact h.takeRestore t tag _ _ _
  · exact h.takeAbort t tag _ _
  · exact h.takeMark t tag
  · exact h.takeClose t tag
  · exact h.takeSetGovernor t tag _
  · exact h.takeApplyMove t tag
  · exact h.done t tag _ _
  · exact h.takeWatch t tag _
  · exact h.takeResetPlace t tag _
  · exact h.one

theorem Keeps.takeRequest (h : Keeps k s v) (ch : Chan) (tag : Byte) (bay : BaySense) (r : Request) :
    Keeps (k + 1) s (v.takeRequest ch tag bay r) := by
  cases ch with
  | transport t => exact h.takeTransport t tag bay r
  | engine =>
    cases r with
    | ident => exact h.engineReply _ _ _
    | status c => exact h.takeStatus _ _
    | media l => exact h.takeMedia _ _
    | resetEngine => exact h.takeResetEngine _
    | _ => exact h.one
  | changer =>
    cases r with
    | move a b auto o => exact h.takeMove _ _ _ _ _
    | scan f l => exact h.takeScan _ _ _
    | cancel => exact h.takeCancel _
    | changerReset => exact h.takeChangerReset _
    | _ => exact h.one

theorem Keeps.handRequest (h : Keeps k s v) (f : InFrame) (bay : BaySense) : Keeps (k + 1) s (v.handRequest f bay) := by
  unfold State.handRequest
  split
  · exact h.reply _ _ _ _
  · exact h.takeRequest _ _ _ _

end

/-! ## What a step keeps -/

/-- What an event keeps: every law, and the bound of the reply queue (R172). -/
def EventKeeps (s s' : State) : Prop := Keeps 0 s s' ∨ Keeps 1 s s' ∧ s.lnk.replies.length < 16

/-- A request reaches its block only with a place in the reply queue (R172). -/
theorem eventKeeps_gate {s v : State} {take : State → State} (hv : Keeps 0 s v)
    (h : Keeps 1 s (take v)) (same : v.lnk.replies = s.lnk.replies) : EventKeeps s (v.gate take) := by
  obtain ⟨-, e⟩ | ⟨-, -, e⟩ | ⟨-, room, e⟩ := v.gate_cases take <;> rw [e]
  · exact .inl hv
  · exact .inl (hv.modLnk (Lnk.linkError_keeps _))
  · exact .inr ⟨h, same ▸ room⟩

theorem EventKeeps.settle {s u : State} (h : EventKeeps s u) : EventKeeps s u.settle := by
  obtain h | ⟨h, room⟩ := h
  · exact .inl h.settle
  · exact .inr ⟨h.settle, room⟩

theorem eventKeeps_handle (s : State) (bay : BaySense) : EventKeeps s (s.handle bay) := by
  unfold State.handle Config.inboundMax
  split
  · exact .inl (.refl s)
  · split
    · exact .inl (.refl s)
    · next f rest hf =>
      have taken : Keeps 0 s (s.modLnk fun l =>
          { l with inbound := rest, inboundHold := decide (2 ≤ rest.length) }) :=
        (Keeps.refl s).modLnk ⟨fun bound => by rw [hf] at bound; exact Nat.le_of_succ_le bound, Nat.le_refl _, id, id,
          id, id⟩
      unfold State.route
      split
      · split
        · exact .inl (taken.takeDataIn _ _)
        · exact .inl taken
      · exact eventKeeps_gate taken (taken.handRequest f bay) rfl

/-- A table none of whose records holds a label has settled flags once none is set (R6). -/
theorem settled_of_no_labels {m : Mtb} (h : ∀ l r, m.get l = some r → r.label = none ∧ r.duplicate = false) :
    m.settle = m := by
  rw [settled_iff]
  intro l r hr
  rw [(h l r hr).2, eq_comm, Bool.eq_false_iff, ne_eq, clash_iff]
  rintro ⟨k, -, same⟩
  cases hk : (m.get k).bind (·.label) <;> simp [sameLabel, hk, hr, (h l r hr).1] at same

/-- A record rebuilt from a sensor holds neither label nor map, and is no duplicate (R25). -/
theorem sensedEntry_bare {sens : Sensors} {i : Fin 20} {r : CartRecord} (h : sensedEntry sens i = some r) :
    r.label = none ∧ r.duplicate = false ∧ r.map = [] := by
  unfold sensedEntry at h
  repeat' split at h
  all_goals first
    | (obtain rfl := Option.some.inj h; exact ⟨rfl, rfl, rfl⟩)
    | (obtain ⟨v, -, rfl⟩ := Option.map_eq_some_iff.mp h; exact ⟨rfl, rfl, rfl⟩)
    | cases h

theorem get_sensedMtb (sens : Sensors) (l : Loc) : (sensedMtb sens).get l = sensedEntry sens l.idx := by
  simp [Mtb.get, sensedMtb]

theorem powerOn_keeps (s : State) (sens : Sensors) : Keeps 0 s (s.powerOn sens) where
  lnk := ⟨fun _ => Nat.zero_le _, Nat.zero_le _, fun _ => Nat.zero_le _, fun _ => Nat.zero_le _,
    fun _ => Nat.zero_le _, fun _ => Nat.zero_le _⟩
  mtb := by
    refine ⟨fun _ l r hr => ?_, fun _ => settled_of_no_labels fun l r hr => ?_⟩
    · obtain ⟨-, -, hm⟩ := sensedEntry_bare (get_sensedMtb sens l ▸ hr)
      rw [hm]
      exact Nat.zero_le _
    · obtain ⟨hl, hd, -⟩ := sensedEntry_bare (get_sensedMtb sens l ▸ hr)
      exact ⟨hl, hd⟩
  chg := ⟨fun _ => Nat.zero_le _, fun _ => rfl⟩
  tc t := by cases t <;> exact ⟨fun _ => gov_default_sound, fun _ => trivial⟩

theorem frameEnd_keeps (s : State) (sens : Sensors) : Keeps 0 s (s.frameEnd sens) := by
  unfold State.frameEnd
  split
  · exact .refl s
  · exact .ite _ (fun _ => powerOn_keeps s sens) fun _ => (Keeps.refl s).modLine

/-- The state that a command settles keeps every law. -/
theorem exec_eventKeeps (c : Instr) (s : State) : ∃ u, exec c s = .next u.settle ∧ EventKeeps s u := by
  have h := Keeps.refl s
  have gated : ∀ {take : State → State}, Keeps 1 s (take s) → EventKeeps s (s.gate take) := fun h1 =>
    eventKeeps_gate h h1 rfl
  cases c with
  | powerOn sens => exact ⟨_, rfl, .inl (powerOn_keeps s sens)⟩
  | resetPin sens => exact ⟨_, rfl, .inl (powerOn_keeps s sens)⟩
  | inboundFrameReceived bytes => exact ⟨_, rfl, .inl (h.receive bytes)⟩
  | huntingForSync bytes => exact ⟨_, rfl, .inl (h.receive bytes)⟩
  | handlingCompletion bay => exact ⟨_, rfl, eventKeeps_handle s bay⟩
  | dataIn t bytes => exact ⟨_, rfl, .inl (.ite _ (fun _ => h) fun _ => h.takeDataIn t bytes)⟩
  | ident tag => exact ⟨_, rfl, gated (h.engineReply _ _ _)⟩
  | status tag clear => exact ⟨_, rfl, gated (h.takeStatus _ _)⟩
  | media tag loc => exact ⟨_, rfl, gated (h.takeMedia _ _)⟩
  | resetEngine tag => exact ⟨_, rfl, gated (h.takeResetEngine _)⟩
  | move tag src dst a o => exact ⟨_, rfl, gated (h.takeMove _ _ _ _ _)⟩
  | scan tag first last => exact ⟨_, rfl, gated (h.takeScan _ _ _)⟩
  | cancel tag => exact ⟨_, rfl, gated (h.takeCancel _)⟩
  | changerReset tag => exact ⟨_, rfl, gated (h.takeChangerReset _)⟩
  | load t tag => exact ⟨_, rfl, gated (h.takeLoad t tag)⟩
  | unload t tag => exact ⟨_, rfl, gated (h.takeUnload t tag)⟩
  | rewind t tag => exact ⟨_, rfl, gated (h.takeRewind t tag)⟩
  | label t tag cs => exact ⟨_, rfl, gated (h.takeLabel t tag cs)⟩
  | write t tag m l => exact ⟨_, rfl, gated (h.takeWrite t tag m l)⟩
  | verify t tag a r m p => exact ⟨_, rfl, gated (h.takeVerify t tag a r m p)⟩
  | restore t tag st o e => exact ⟨_, rfl, gated (h.takeRestore t tag st o e)⟩
  | abort t tag m bay => exact ⟨_, rfl, gated (h.takeAbort t tag m bay)⟩
  | mark t tag => exact ⟨_, rfl, gated (h.takeMark t tag)⟩
  | close t tag => exact ⟨_, rfl, gated (h.takeClose t tag)⟩
  | setGovernor t tag g => exact ⟨_, rfl, gated (h.takeSetGovernor t tag g)⟩
  | apply t tag => exact ⟨_, rfl, gated (h.takeApplyMove t tag)⟩
  | getGovernor t tag => exact ⟨_, rfl, gated (h.done t tag _ _)⟩
  | watch t tag w => exact ⟨_, rfl, gated (h.takeWatch t tag w)⟩
  | transportReset t tag bay => exact ⟨_, rfl, gated (h.takeResetPlace t tag bay)⟩
  | outboundFrameEnd sens => exact ⟨_, rfl, .inl (frameEnd_keeps s sens)⟩
  | hostHoldAsserted => exact ⟨_, rfl, .inl h.modLine⟩
  | hostHoldReleased => exact ⟨_, rfl, .inl h.modLine⟩
  | mainDoorOpen => exact ⟨_, rfl, .inl h.mainOpened⟩
  | mainDoorClose grip => exact ⟨_, rfl, .inl (h.mainClosed grip)⟩
  | mailDoorOpen => exact ⟨_, rfl, .inl h.mailOpened⟩
  | mailDoorClose present => exact ⟨_, rfl, .inl (h.mailClosed present)⟩
  | travelComplete present => exact ⟨_, rfl, .inl (h.arrived present)⟩
  | travelFault => exact ⟨_, rfl, .inl h.travelLost⟩
  | presenceSensed present => exact ⟨_, rfl, .inl (h.sensed present)⟩
  | gripConfirmed => exact ⟨_, rfl, .inl h.gripped⟩
  | gripFault => exact ⟨_, rfl, .inl h.gripLost⟩
  | noteReadComplete image => exact ⟨_, rfl, .inl (h.noteRead image)⟩
  | notePageComplete => exact ⟨_, rfl, .inl h.pageDone⟩
  | noteWriteTimeout => exact ⟨_, rfl, .inl h.noteTimeout⟩
  | placeConfirmed => exact ⟨_, rfl, .inl h.released⟩
  | placeFault => exact ⟨_, rfl, .inl h.placeLost⟩
  | bayTimeout => exact ⟨_, rfl, .inl h.bayLost⟩
  | mailTimeout => exact ⟨_, rfl, .inl h.mailLost⟩
  | homingComplete grip => exact ⟨_, rfl, .inl (h.homed grip)⟩
  | homingTimeout => exact ⟨_, rfl, .inl h.homingLost⟩
  | cartridgeSeated t cls p =>
    exact ⟨_, rfl, .inl (.ite _ (fun _ => (h.seat t _).placeTest) fun _ => h)⟩
  | cartridgeUnseated t =>
    refine ⟨_, rfl, .inl ?_⟩
    unfold State.seatLost
    split
    · exact h
    · exact h.unseat t
    · exact h.mechFault t _
  | threadComplete t => exact ⟨_, rfl, .inl (h.threaded t)⟩
  | threadFault t => exact ⟨_, rfl, .inl (.ite _ (fun _ => h.mechFault t _) fun _ => h)⟩
  | identifyFrameRead t frame => exact ⟨_, rfl, .inl (h.identify t frame)⟩
  | rewindComplete t => exact ⟨_, rfl, .inl (h.rewound t)⟩
  | rewindFault t => exact ⟨_, rfl, .inl (.ite _ (fun _ => h.mechFault t _) fun _ => h)⟩
  | unthreadComplete t => exact ⟨_, rfl, .inl (h.unthreaded t)⟩
  | unthreadFault t => exact ⟨_, rfl, .inl (.ite _ (fun _ => h.mechFault t _) fun _ => h)⟩
  | mechanismFault t => exact ⟨_, rfl, .inl (.ite _ (fun _ => h.mechFault t _) fun _ => h)⟩
  | fastMoveComplete t tach => exact ⟨_, rfl, .inl (h.fastMoved t tach)⟩
  | positionFault t => exact ⟨_, rfl, .inl (h.fastMoveLost t)⟩
  | locateFrameRead t frame => exact ⟨_, rfl, .inl (h.locateFrame t frame)⟩
  | eodSearchFrameRead t frame => exact ⟨_, rfl, .inl (h.eodSearchFrame t frame)⟩
  | readingFrameRead t frame => exact ⟨_, rfl, .inl (h.readOne t frame)⟩
  | physicalEnd t => exact ⟨_, rfl, .inl (h.physicalEnd t)⟩
  | writeCompletion t => exact ⟨_, rfl, .inl (h.writeCompleted t)⟩
  | readBackResult t place frame => exact ⟨_, rfl, .inl (h.readBack t place frame)⟩
  | hitchComplete t => exact ⟨_, rfl, .inl (h.hitched t)⟩
  | compressionComplete => exact ⟨_, rfl, .inl h.compressionDone⟩
  | decodeComplete => exact ⟨_, rfl, .inl h.decodeDone⟩

/-- A step keeps every law, whether it takes a command or idles. -/
theorem step_eventKeeps {s s' : State} (h : step s = .next s') : EventKeeps s s' := by
  unfold step at h
  split at h
  · obtain rfl := Host.Outcome.next.inj h
    exact .inl (.refl s)
  · next c rest _ =>
    obtain ⟨u, hu, kept⟩ := exec_eventKeeps c { s with pending := rest }
    rw [hu] at h
    obtain rfl := Host.Outcome.next.inj h
    have start : Keeps 0 s { s with pending := rest } := (Keeps.refl s).congr rfl rfl rfl fun t => by cases t <;> rfl
    obtain kept | ⟨kept, room⟩ := kept.settle
    · exact .inl (start.trans kept)
    · exact .inr ⟨start.trans kept, room⟩

/-- Settles O6, from the law that each operation keeps. -/
theorem everyStepKeepsTheGovernorLaw : Obligations.EveryStepKeepsTheGovernorLaw := by
  unfold Obligations.EveryStepKeepsTheGovernorLaw State.GovSound
  rintro s s' ⟨sound0, sound1⟩ h
  obtain kept | ⟨kept, -⟩ := step_eventKeeps h <;>
    exact ⟨(kept.tc .tc0).gov sound0, (kept.tc .tc1).gov sound1⟩

/-- Settles O7: a reply is queued only where the gate found a place for it. -/
theorem everyStepKeepsTheLinkBounds : Obligations.EveryStepKeepsTheLinkBounds := by
  unfold Obligations.EveryStepKeepsTheLinkBounds State.LinkBounded
  rintro s s' ⟨inbound, replies, notices, errors, unsol0, unsol1⟩ h
  obtain kept | ⟨kept, room⟩ := step_eventKeeps h
  · exact ⟨kept.lnk.inbound inbound, Nat.le_trans kept.lnk.replies replies, kept.lnk.notices notices,
      kept.lnk.errors errors, kept.lnk.unsol0 unsol0, kept.lnk.unsol1 unsol1⟩
  · exact ⟨kept.lnk.inbound inbound, Nat.le_trans kept.lnk.replies room, kept.lnk.notices notices,
      kept.lnk.errors errors, kept.lnk.unsol0 unsol0, kept.lnk.unsol1 unsol1⟩

/-- Settles O8, from the laws of the table, of the jobs and of the changer that each operation keeps. -/
theorem everyStepKeepsTheListBoundsAndTheMailLock : Obligations.EveryStepKeepsTheListBoundsAndTheMailLock := by
  unfold Obligations.EveryStepKeepsTheListBoundsAndTheMailLock
  intro s s' h
  obtain kept | ⟨kept, -⟩ := step_eventKeeps h <;>
    exact ⟨fun maps ⟨f0, f1⟩ => ⟨kept.mtb.maps maps, (kept.tc .tc0).faults f0, (kept.tc .tc1).faults f1⟩,
      fun orders lock => ⟨kept.chg.orders orders, kept.chg.lock lock⟩⟩

/-- A settled record is a duplicate exactly when another location's record holds an equal label (R6). -/
theorem settled_duplicate_iff {m : Mtb} {l : Loc} {r : CartRecord} (h : m.settle.get l = some r) :
    r.duplicate = true ↔
      ∃ k q a b, k ≠ l ∧ m.settle.get k = some q ∧ r.label = some a ∧ q.label = some b ∧ a.chars = b.chars := by
  rw [(settled_iff _).mp (Mtb.settle_settle m) l r h, clash_iff]
  constructor
  · rintro ⟨k, hk, same⟩
    unfold sameLabel at same
    split at same
    · next x y hx hy =>
      obtain ⟨q, hq, hqx⟩ := Option.bind_eq_some_iff.mp hx
      rw [h] at hy
      exact ⟨k, q, y, x, hk, hq, hy, hqx, (of_decide_eq_true same).symm⟩
    · cases same
  · rintro ⟨k, q, a, b, hk, hq, ha, hb, e⟩
    exact ⟨k, hk, by simp [sameLabel, h, hq, ha, hb, e]⟩

/-- Settles O28: settling computes the flags from the labels, and every operation that changes a label settles. -/
theorem duplicateMarksEqualLabels : Obligations.DuplicateMarksEqualLabels := by
  unfold Obligations.DuplicateMarksEqualLabels
  refine ⟨fun m l r h => settled_duplicate_iff h, fun s s' flags h => ?_⟩
  obtain kept | ⟨kept, -⟩ := step_eventKeeps h <;> exact kept.mtb.flags flags

end Sys2Proof.Proofs
end

section
/-! PROOFS. What an operation of one transport reaches: its own controller, context and record, the notices, the
datapath and the pending credits of the other; and what it never reaches. -/

open Sys2Proof Sys2Proof.Machine Sys2Proof.Claims

namespace Sys2Proof.Proofs

-- One declaration at a time: elaborated in parallel, the joined text needs more threads than the memory limit holds.
set_option Elab.async false

/-! ## Reading and writing one transport -/

@[simp] theorem setTc_self (s : State) (t : Tr) : s.setTc t (s.tc t) = s := by cases t <;> rfl

@[simp] theorem setTc_setTc (s : State) (t : Tr) (c d : Tc) : (s.setTc t c).setTc t d = s.setTc t d := by
  cases t <;> rfl

theorem modTc_eq (s : State) (t : Tr) (f : Tc → Tc) : s.modTc t f = s.setTc t (f (s.tc t)) := rfl

theorem modTc_modTc (s : State) (t : Tr) (f g : Tc → Tc) : (s.modTc t f).modTc t g = s.modTc t (g ∘ f) := by
  cases t <;> rfl

@[simp] theorem other_other (t : Tr) : t.other.other = t := by cases t <;> rfl

theorem eq_or_other (t u : Tr) : u = t ∨ u = t.other := by cases t <;> cases u <;> simp [Tr.other]

theorem other_ne (t : Tr) : t.other ≠ t := by cases t <;> simp [Tr.other]

/-! ## Credits (R108, R110, R176) -/

/-- Forming a CREDIT notice changes the two credit counts of its transport, whose sum stays, and the notices. -/
theorem formCredit_eq (s : State) (t : Tr) :
    ∃ g p l, g + p = (s.tc t).granted + (s.tc t).pendingCredits ∧
      s.formCredit t = { s with lnk := l }.setTc t { s.tc t with granted := g, pendingCredits := p } ∧
      l = { s.lnk with notices := l.notices } ∧
      (l.notices = s.lnk.notices ∨ l.notices = s.lnk.notices.map (Notice.addCredit t (s.tc t).pendingCredits) ∨
        l.notices = s.lnk.notices ++ [.credit t (s.tc t).pendingCredits] ∧ s.lnk.notices.length < 32) := by
  have same : s = { s with lnk := s.lnk }.setTc t { s.tc t with
      granted := (s.tc t).granted, pendingCredits := (s.tc t).pendingCredits } := by
    cases t <;> rfl
  unfold State.formCredit Lnk.placeCredit Config.noticeMax
  dsimp only
  split
  · exact ⟨_, _, s.lnk, rfl, same, rfl, .inl rfl⟩
  · split
    · exact ⟨_, _, s.lnk, rfl, same, rfl, .inl rfl⟩
    · next l hl =>
      refine ⟨(s.tc t).granted + (s.tc t).pendingCredits, 0, l, rfl, rfl, ?_⟩
      split at hl
      · obtain rfl := Option.some.inj hl
        exact ⟨rfl, .inr (.inl rfl)⟩
      · split at hl
        · next room =>
          obtain rfl := Option.some.inj hl
          exact ⟨rfl, .inr (.inr ⟨rfl, room⟩)⟩
        · cases hl

/-- Nothing pending leaves nothing to form. -/
theorem formCredit_of_none {s : State} {t : Tr} (h : (s.tc t).pendingCredits = 0) : s.formCredit t = s := by
  unfold State.formCredit
  dsimp only
  rw [if_pos h]

/-! ## What an operation of transport t reaches -/

/-- What no operation of transport t reaches: the other transport, but for its pending credits; the inbound side of the
link, the replies and the lane; the changer; the records of other locations. -/
structure Local (t : Tr) (s u : State) : Prop where
  other : OtherKept t s u
  inbound : InboundKept s u
  chg : u.chg = s.chg
  records : OnlyRecord (.bay t) s u
  replies : u.lnk.replies = s.lnk.replies
  lane : u.lnk.lane = s.lnk.lane
  served : u.lnk.lastServed = s.lnk.lastServed

theorem otherKept_of_eq {t : Tr} {s u : State} (hc : u.cx t.other = s.cx t.other) (ht : u.tc t.other = s.tc t.other) :
    OtherKept t s u := ⟨hc, _, _, rfl, ht⟩

theorem otherKept_refl (t : Tr) (s : State) : OtherKept t s s := ⟨rfl, _, _, rfl, rfl⟩

theorem inboundKept_refl (s : State) : InboundKept s s := ⟨rfl, rfl, rfl, rfl, rfl, rfl, rfl, rfl, rfl⟩

theorem inboundKept_trans {s u v : State} (h : InboundKept s u) (h' : InboundKept u v) : InboundKept s v := by
  obtain ⟨a, b, c, d, e, f, g, i, j⟩ := h
  obtain ⟨a', b', c', d', e', f', g', i', j'⟩ := h'
  exact ⟨a'.trans a, b'.trans b, c'.trans c, d'.trans d, e'.trans e, f'.trans f, g'.trans g, i'.trans i, j'.trans j⟩

theorem otherKept_trans {t : Tr} {s u v : State} (h : OtherKept t s u) (h' : OtherKept t u v) : OtherKept t s v := by
  obtain ⟨hc, g, p, hsum, htc⟩ := h
  obtain ⟨hc', g', p', hsum', htc'⟩ := h'
  refine ⟨hc'.trans hc, g', p', ?_, ?_⟩
  · rw [htc] at hsum'
    exact hsum'.trans hsum
  · rw [htc', htc]

theorem Local.refl (t : Tr) (s : State) : Local t s s :=
  ⟨otherKept_refl t s, inboundKept_refl s, rfl, fun _ _ => rfl, rfl, rfl, rfl⟩

theorem Local.trans {t : Tr} {s u v : State} (h : Local t s u) (h' : Local t u v) : Local t s v :=
  ⟨otherKept_trans h.other h'.other, inboundKept_trans h.inbound h'.inbound, h'.chg.trans h.chg,
    fun k hk => (h'.records k hk).trans (h.records k hk), h'.replies.trans h.replies, h'.lane.trans h.lane,
    h'.served.trans h.served⟩

section
variable {t : Tr} {s v : State}

theorem Local.setTc (h : Local t s v) (c : Tc) : Local t s (v.setTc t c) :=
  h.trans ⟨by cases t <;> exact otherKept_of_eq rfl rfl, by cases t <;> exact inboundKept_refl v, by simp,
    fun _ _ => by rw [State.setTc_mtb], by simp, by simp, by simp⟩

theorem Local.modTc (h : Local t s v) (f : Tc → Tc) : Local t s (v.modTc t f) := h.setTc _

theorem Local.setCx (h : Local t s v) (x : Ctx) : Local t s (v.setCx t x) :=
  h.trans ⟨by cases t <;> exact otherKept_of_eq rfl rfl, by cases t <;> exact inboundKept_refl v, by simp,
    fun _ _ => by rw [State.setCx_mtb], by simp, by simp, by simp⟩

theorem Local.setDp (h : Local t s v) (d : Option DpOp) : Local t s { v with dp := d } :=
  h.trans ⟨by cases t <;> exact otherKept_of_eq rfl rfl, inboundKept_refl v, rfl, fun _ _ => rfl, rfl, rfl, rfl⟩

theorem Local.clearCtx (h : Local t s v) (d : Dir) : Local t s (v.clearCtx t d) := (h.setCx _).setDp _

theorem Local.draw (h : Local t s v) : Local t s v.draw.2 :=
  h.trans ⟨by cases t <;> exact otherKept_of_eq rfl rfl, inboundKept_refl v, rfl, fun _ _ => rfl, rfl, rfl, rfl⟩

/-- A change of the notices. -/
theorem Local.setNotices (h : Local t s v) (ns : List Notice) (lost : Bool) :
    Local t s (v.modLnk fun l => { l with notices := ns, lost := lost }) :=
  h.trans ⟨by cases t <;> exact otherKept_of_eq rfl rfl, inboundKept_refl v, rfl, fun _ _ => rfl, rfl, rfl, rfl⟩

theorem Local.notify (h : Local t s v) (n : Notice) : Local t s (v.notify n) := by
  obtain ⟨ns, lost, e⟩ : ∃ ns lost, v.lnk.pushNotice n = { v.lnk with notices := ns, lost := lost } := by
    obtain ⟨-, e⟩ | ⟨-, e⟩ := v.lnk.pushNotice_cases n
    · exact ⟨_, _, e⟩
    · exact ⟨_, _, e⟩
  have same : v.notify n = v.modLnk fun l => { l with notices := ns, lost := lost } := by
    unfold State.notify State.modLnk
    exact congrArg (fun l => { v with lnk := l }) e
  rw [same]
  exact h.setNotices _ _

theorem Local.modBay (h : Local t s v) (f : CartRecord → CartRecord) : Local t s (v.modBay t f) :=
  h.trans ⟨by cases t <;> exact otherKept_of_eq rfl rfl, inboundKept_refl v, rfl,
    fun _ hk => Mtb.get_modify_of_ne _ _ hk, rfl, rfl, rfl⟩

theorem Local.formCredit (h : Local t s v) (u : Tr) : Local t s (v.formCredit u) := by
  obtain ⟨g, p, l, hsum, e, hl, -⟩ := formCredit_eq v u
  rw [e]
  refine h.trans ⟨?_, ?_, by simp, fun k _ => by rw [State.setTc_mtb], ?_, ?_, ?_⟩
  · obtain rfl | rfl := eq_or_other t u
    · cases u <;> exact otherKept_of_eq rfl rfl
    · refine ⟨by cases t <;> rfl, g, p, hsum, ?_⟩
      rw [State.setTc_tc]
  all_goals rw [hl]
  · cases u <;> exact inboundKept_refl v
  all_goals rw [State.setTc_lnk]

theorem Local.earn (h : Local t s v) (n : Nat) : Local t s (v.earn t n) := (h.modTc _).formCredit t

theorem Local.noticeLeft (h : Local t s v) : Local t s v.noticeLeft := (h.formCredit .tc0).formCredit .tc1

theorem Local.withdrawCredit (h : Local t s v) : Local t s (v.withdrawCredit t) := by
  unfold State.withdrawCredit
  split
  · exact (h.setNotices _ v.lnk.lost).noticeLeft
  · exact h

theorem Local.voidCredits (h : Local t s v) : Local t s (v.voidCredits t) := (h.modTc _).withdrawCredit

theorem Local.modWrite (h : Local t s v) (f : WriteJob → WriteJob) : Local t s (v.modWrite t f) := h.modTc _

theorem Local.modRead (h : Local t s v) (f : ReadJob → ReadJob) : Local t s (v.modRead t f) := h.modTc _

theorem Local.ite {u : State} (c : Prop) [Decidable c] (hu : c → Local t s u) (hv : ¬ c → Local t s v) :
    Local t s (if c then u else v) := by
  split
  · next h => exact hu h
  · next h => exact hv h

/-! ### Jobs -/

theorem Local.startJob (h : Local t s v) (j : Job) (st : TcState) (d : Dir) : Local t s (v.startJob t j st d) :=
  ((h.clearCtx d).modTc _).modBay _

theorem Local.readTold (h : Local t s v) (r : ReadJob) : Local t s (v.readTold r).2 := by
  unfold State.readTold
  split
  · exact h
  · exact h.draw.draw

theorem Local.loadCountTold (h : Local t s v) (u : Tr) : Local t s (v.loadCountTold u).2 := by
  unfold State.loadCountTold
  split
  · exact h
  · exact h.draw

theorem Local.jobReport (h : Local t s v) (j : Job) (res : JobResult) : Local t s (v.jobReport t j res).2 := by
  cases j with
  | load l =>
    dsimp only [State.jobReport]
    split
    · exact h.loadCountTold t
    · exact (h.loadCountTold t).draw
  | read r =>
    dsimp only [State.jobReport]
    split <;> exact h.readTold r
  | _ => exact h

theorem Local.jobEnd (h : Local t s v) (j : Job) (res : JobResult) (report : List Byte) :
    Local t s (v.jobEnd t j res report) := (h.notify _).modBay _

theorem Local.endJob (h : Local t s v) (res : JobResult) : Local t s (v.endJob t res) := by
  unfold State.endJob
  split
  · exact h
  · exact ((((h.clearCtx _).voidCredits).modTc _).jobReport _ res).jobEnd _ _ _

theorem Local.countSurplus (h : Local t s v) : Local t s (v.countSurplus t) := h.modRead _

theorem Local.cutJob (h : Local t s v) (res : JobResult) : Local t s (v.cutJob t res) := by
  unfold State.cutJob
  split
  · exact ((h.modTc _).voidCredits.clearCtx _).modBay _
  · exact ((((h.jobReport _ _).jobEnd _ _ _).modTc _).voidCredits.clearCtx _).modBay _

theorem Local.mechFault (h : Local t s v) (res : JobResult) : Local t s (v.mechFault t res) := (h.cutJob res).modTc _

theorem Local.learn (h : Local t s v) (i : ReadInfo) (mark : Bool) : Local t s (v.learn t i mark) :=
  .ite _ (fun _ => h.modBay _) fun _ => h

theorem Local.watchTest (h : Local t s v) (kind : JobKind) (mark : Bool) (a file frame : Nat) :
    Local t s (v.watchTest t kind mark a file frame) := by
  unfold State.watchTest
  split
  · exact h
  · exact .ite _ (fun _ => h.notify _) fun _ => h
  · exact .ite _ (fun _ => (h.modTc _).notify _) fun _ => h

/-! ### Read jobs -/

theorem Local.endReading (h : Local t s v) (res : JobResult) : Local t s (v.endReading t res) :=
  (h.modRead _).modTc _

theorem Local.takeHeads (h : Local t s v) : Local t s (v.takeHeads t) := by
  unfold State.takeHeads
  split
  · exact h.modTc _
  · exact h

theorem Local.lastGaps (h : Local t s v) : Local t s (v.lastGaps t) := by
  unfold State.lastGaps
  split
  · exact .ite _ (fun _ => (h.modTc _).modRead _) fun _ => h
  · exact h

theorem Local.readResume (h : Local t s v) : Local t s (v.readResume t) := by
  unfold State.readResume
  split
  · exact .ite _ (fun _ => h.modTc _) fun _ => h
  · exact h

theorem Local.compare (h : Local t s v) : Local t s (v.compare t) := by
  unfold State.compare
  split
  · exact .ite _ (fun _ => .ite _ (fun _ => h.modTc _) fun _ => (h.modTc _).earn _) fun _ => h
  · exact h

theorem Local.endRead (h : Local t s v) (res : JobResult) : Local t s (v.endRead t res) :=
  (h.countSurplus.modTc _).endJob _

theorem Local.shortEnd (h : Local t s v) : Local t s (v.shortEnd t) := by
  unfold State.shortEnd
  split
  · exact .ite _ (fun _ => h.endRead _) fun _ => h
  · exact h

theorem Local.readEndTest (h : Local t s v) : Local t s (v.readEndTest t) := by
  unfold State.readEndTest
  split
  · refine .ite _ (fun _ => ?_) fun _ => h
    dsimp only
    exact .ite _ (fun _ => .endRead (.ite _ (fun _ => h.modTc _) fun _ => h) _) fun _ =>
      .ite _ (fun _ => h.modTc _) fun _ => h
  · exact h

theorem Local.readPump (h : Local t s v) : Local t s (v.readPump t) :=
  h.takeHeads.lastGaps.readResume.compare.shortEnd.readEndTest

theorem Local.acceptFrame (h : Local t s v) (r : ReadJob) (f : ReadFrame) (mark : Bool) :
    Local t s (v.acceptFrame t r f mark) := (((h.modTc _).modRead _).learn _ _).watchTest _ _ _ _ _

theorem Local.afterFrame (h : Local t s v) (stop : Option JobResult) : Local t s (v.afterFrame t stop) := by
  unfold State.afterFrame
  dsimp only
  split
  · exact ((h.takeHeads.modTc _).endReading _).readPump
  · exact .ite _ (fun _ => (((h.takeHeads.modTc _).modRead _).modTc _).readPump) fun _ => (h.takeHeads.modTc _).readPump

theorem Local.readFault (h : Local t s v) : Local t s (v.readFault t) := by
  unfold State.readFault
  split
  · exact h
  · refine .ite _ (fun _ => ((h.modRead _).endReading _).readPump) fun _ => ?_
    dsimp only
    split
    · exact ((h.modRead _).endReading _).readPump
    · exact .ite _ (fun _ => ((h.modRead _).endReading _).readPump) fun _ => (((h.modRead _).modRead _).modTc _).readPump

theorem Local.readOne (h : Local t s v) (raw : RawFrame) : Local t s (v.readOne t raw) := by
  have passed := (h.modTc fun c => c.passed raw).modRead fun r => { r with framesRead := r.framesRead + 1 }
  unfold State.readOne
  split
  · dsimp only
    split
    · exact (passed.acceptFrame _ _ _).afterFrame _
    · exact passed.afterFrame _
    · exact passed.afterFrame _
    · exact .ite _ (fun _ => ((passed.modRead _).modTc _).readFault) fun _ => (passed.modRead _).afterFrame _
  · exact h

theorem Local.readStart (h : Local t s v) (f : ReadFrame) (mark : Bool) : Local t s (v.readStart t f mark) := by
  unfold State.readStart
  split
  · exact h
  · next r _ =>
    have streaming := (h.modTc fun c => { c.stream .reading with locate := none }).modRead fun r =>
      { r with framesRead := 1, x := f.hdr.addr }
    have granted := Local.ite (r.isCompare = true) (fun _ => streaming.earn Config.startCredits) fun _ => streaming
    dsimp only
    split
    · exact ((granted.acceptFrame _ _ _).endReading _).readPump
    · exact (granted.acceptFrame _ _ _).readPump

theorem Local.readHitched (h : Local t s v) : Local t s (v.readHitched t) :=
  .ite _ (fun _ => (h.modTc _).readPump) fun _ => h

theorem Local.beginDecode (h : Local t s v) : Local t s (v.beginDecode t) := by
  unfold State.beginDecode
  split
  · exact ((h.setCx _).modTc _).setDp _
  · exact h

theorem Local.sliceGood (h : Local t s v) (i : ReadInfo) (b : Block) (out : SliceOut) :
    Local t s (v.sliceGood t i b out) := by
  unfold State.sliceGood
  exact ((h.modRead _).setCx _).modTc _

theorem Local.restoreFault (h : Local t s v) (a slice : Nat) : Local t s (v.restoreFault t a slice) := by
  unfold State.restoreFault
  exact (((h.modRead _).endReading _).clearCtx _).modTc _

theorem Local.sliceBad (h : Local t s v) (i : ReadInfo) (b : Block) (kind : VFaultKind) (slice : Nat) :
    Local t s (v.sliceBad t i b kind slice) := by
  unfold State.sliceBad
  dsimp only
  split
  · exact (h.setCx _).modTc _
  · exact .ite _ (fun _ => ((h.setCx _).modTc _).restoreFault _ _) fun _ =>
      .ite _ (fun _ => (((h.setCx _).modTc _).modRead _).modTc _) fun _ => ((h.setCx _).modTc _).modRead _

theorem Local.decoded (h : Local t s v) : Local t s (v.decoded t) := by
  unfold State.decoded
  split
  · exact h
  · dsimp only
    split
    · exact (h.sliceGood _ _ _).readPump
    · exact (h.sliceBad _ _ _ _).readPump
    · exact (h.sliceBad _ _ _ _).readPump

/-! ### Write jobs -/

theorem Local.gather (h : Local t s v) : Local t s (v.gather t) := by
  unfold State.gather
  split
  · exact h
  · dsimp only
    exact .ite _ (fun _ => ((h.setCx _).setTc _).modWrite _) fun _ => (((h.setCx _).setTc _).modWrite _).earn _

theorem Local.compressed (h : Local t s v) : Local t s (v.compressed t) := by
  unfold State.compressed
  exact ((h.setCx _).setTc _).gather

theorem Local.warn (h : Local t s v) (place : Nat) : Local t s (v.warn t place) := by
  unfold State.warn
  split
  · exact .ite _ (fun _ => (h.modWrite _).notify _) fun _ => h
  · exact h

theorem Local.beginFrame (h : Local t s v) (f : WFrame) : Local t s (v.beginFrame t f) := (h.warn _).modWrite _

theorem Local.firstWriting (h : Local t s v) (w : WriteJob) (place : Nat) (b : Option Block) (rest : List QEntry) :
    Local t s (v.firstWriting t w place b rest) := ((h.modTc _).modWrite _).beginFrame _

theorem Local.drainFrame (h : Local t s v) (place : Nat) : Local t s (v.drainFrame t place) := by
  unfold State.drainFrame
  split
  · exact h.beginFrame _
  · exact h

theorem Local.discardWork (h : Local t s v) (keep : Bool) : Local t s (v.discardWork t keep) :=
  ((h.clearCtx _).modTc _).modWrite _

theorem Local.giveUp (h : Local t s v) (res : JobResult) (given : List WEntry) : Local t s (v.giveUp t res given) := by
  unfold State.giveUp
  exact ((h.discardWork _).modWrite _).modTc _

theorem Local.writeHitch (h : Local t s v) : Local t s (v.writeHitch t) := (h.modTc _).modWrite _

theorem Local.chooseFrame (h : Local t s v) (w : WriteJob) (place : Nat) : Local t s (v.chooseFrame t w place) := by
  unfold State.chooseFrame
  refine .ite _ (fun _ => (h.giveUp _ _).drainFrame _) fun _ => ?_
  split
  · exact (h.modTc _).beginFrame _
  · refine .ite _ (fun _ => h.drainFrame _) fun _ => ?_
    split
    · exact h.firstWriting _ _ _ _
    · exact h.firstWriting _ _ _ _
    · exact (h.modTc _).drainFrame _
    · exact .ite _ (fun _ => h.beginFrame _) fun _ => h.writeHitch

theorem Local.choose (h : Local t s v) : Local t s (v.choose t) := by
  unfold State.choose
  dsimp only
  split
  · exact .ite _ (fun _ => (h.modTc _).chooseFrame _ _) fun _ => h.modTc _
  · exact h.modTc _

theorem Local.writeResume (h : Local t s v) : Local t s (v.writeResume t) := by
  unfold State.writeResume
  split
  · exact .ite _ (fun _ => (h.modTc _).choose) fun _ => h
  · exact h

theorem Local.writePump (h : Local t s v) : Local t s (v.writePump t) := h.gather.writeResume.gather

theorem Local.writeStart (h : Local t s v) (a file : Nat) (rec : Bool) : Local t s (v.writeStart t a file rec) := by
  unfold State.writeStart
  dsimp only
  split
  · exact .ite _ (fun _ => (((h.modWrite _).modTc _).modTc _).endJob _) fun _ =>
      ((((h.modWrite _).modTc _).modTc _).earn _).writePump
  · exact (h.modWrite _).modTc _

theorem Local.frameWritten (h : Local t s v) (w : WriteJob) : Local t s (v.frameWritten t w) := by
  unfold State.frameWritten
  split
  · exact h
  · exact ((((Local.ite _ (fun _ => h) fun _ => h.modBay _).modTc _).modWrite _).modTc _).choose.gather

theorem Local.confirm (h : Local t s v) (f : WFrame) (e : WEntry) : Local t s (v.confirm t f e) :=
  (((h.modTc _).modBay _).modWrite _).watchTest _ _ _ _ _

theorem Local.tailRewrite (h : Local t s v) (w : WriteJob) : Local t s (v.tailRewrite t w) := by
  unfold State.tailRewrite
  exact .ite _ (fun _ => ((h.modTc _).modWrite _).giveUp _ _) fun _ =>
    .ite _ (fun _ => ((h.modTc _).modWrite _).giveUp _ _) fun _ => (h.modTc _).modWrite _

theorem Local.endWrite (h : Local t s v) (hd : Header) (u : Bool) : Local t s (v.endWrite t hd u) := by
  unfold State.endWrite
  dsimp only
  split
  · exact (((h.modBay _).modTc _).modWrite _).endJob _
  · exact ((h.modBay _).modTc _).modWrite _

theorem Local.eodResult (h : Local t s v) (w : WriteJob) (f : WFrame) (good : Bool) :
    Local t s (v.eodResult t w f good) := by
  unfold State.eodResult
  exact .ite _ (fun _ => (h.modTc _).endWrite _ _) fun _ => .ite _ (fun _ => (h.modTc _).choose) fun _ =>
    (h.modTc _).endWrite _ _

theorem Local.writeResult (h : Local t s v) (w : WriteJob) (place : Nat) (raw : RawFrame) :
    Local t s (v.writeResult t w place raw) := by
  unfold State.writeResult
  split
  · exact h
  · refine .ite _ (fun _ => h) fun _ => ?_
    split
    · exact (Local.ite _ (fun _ => h.confirm _ _) fun _ => h.tailRewrite _).choose.gather
    · exact .ite _ (fun _ => h.eodResult _ _ _) fun _ => (h.modTc _).choose.gather

theorem Local.abortUnwritten (h : Local t s v) : Local t s (v.abortUnwritten t) := ((h.discardWork _).modTc _).endJob _

theorem Local.abortWrite (h : Local t s v) (w : WriteJob) (now : Bool) : Local t s (v.abortWrite t w now) := by
  unfold State.abortWrite
  refine .ite _ (fun _ => h) fun _ => .ite _ (fun _ => h.abortUnwritten) fun _ => .ite _ (fun _ => ?_) fun _ =>
    .ite _ (fun _ => h) fun _ => ?_
  · exact (((h.discardWork _).modWrite _).modTc _).choose.writePump
  · exact ((h.discardWork _).modWrite _).choose.writePump

/-! ### Locates -/

theorem Local.tellLocate (h : Local t s v) (l : Locate) (res : JobResult) : Local t s (v.tellLocate t l res) :=
  (h.modWrite _).countSurplus.modRead _

theorem Local.locateFail (h : Local t s v) (l : Locate) (res : JobResult) : Local t s (v.locateFail t l res) :=
  ((h.tellLocate _ _).modTc _).endJob _

theorem Local.positionLost (h : Local t s v) (l : Locate) : Local t s (v.positionLost t l) :=
  ((h.tellLocate _ _).modTc _).endJob _

end

end Sys2Proof.Proofs
end

section
/-! PROOFS. The end of an event: what settling reaches (R26, R31, R102, R178), and that a settled state stays settled. -/

open Sys2Proof Sys2Proof.Machine Sys2Proof.Claims

namespace Sys2Proof.Proofs

-- One declaration at a time: elaborated in parallel, the joined text needs more threads than the memory limit holds.
set_option Elab.async false

/-! ## Operations of the changer reach no transport -/

/-- What the changer's own operations never reach: transports, contexts, the datapath, and of the link all but the
notices. -/
structure Quiet (s u : State) : Prop where
  tc : ∀ t, u.tc t = s.tc t
  cx : ∀ t, u.cx t = s.cx t
  dp : u.dp = s.dp
  inbound : InboundKept s u
  replies : u.lnk.replies = s.lnk.replies
  lane : u.lnk.lane = s.lnk.lane
  served : u.lnk.lastServed = s.lnk.lastServed

theorem Quiet.refl (s : State) : Quiet s s := ⟨fun _ => rfl, fun _ => rfl, rfl, inboundKept_refl s, rfl, rfl, rfl⟩

section
variable {s v : State}

theorem Quiet.modChg (h : Quiet s v) (f : Chg → Chg) : Quiet s (v.modChg f) :=
  ⟨fun t => by rw [State.modChg_tc]; exact h.tc t, fun t => by rw [State.modChg_cx]; exact h.cx t, h.dp, h.inbound,
    h.replies, h.lane, h.served⟩

theorem Quiet.modMtb (h : Quiet s v) (f : Mtb → Mtb) : Quiet s (v.modMtb f) :=
  ⟨fun t => by rw [State.modMtb_tc]; exact h.tc t, fun t => by rw [State.modMtb_cx]; exact h.cx t, h.dp, h.inbound,
    h.replies, h.lane, h.served⟩

/-- A notice reaches the notices and the LOST mark of the link, and nothing else (R176). -/
theorem notify_eq (v : State) (n : Notice) :
    ∃ ns lost, v.notify n = { v with lnk := { v.lnk with notices := ns, lost := lost } } := by
  obtain ⟨-, e⟩ | ⟨-, e⟩ := v.lnk.pushNotice_cases n
  · exact ⟨_, _, congrArg (fun l => { v with lnk := l }) e⟩
  · exact ⟨_, _, congrArg (fun l => { v with lnk := l }) e⟩

theorem Quiet.notify (h : Quiet s v) (n : Notice) : Quiet s (v.notify n) := by
  obtain ⟨ns, lost, e⟩ := notify_eq v n
  refine ⟨fun t => by rw [State.notify_tc]; exact h.tc t, fun t => ?_, h.dp, ?_, ?_, ?_, ?_⟩
  · cases t
    · exact h.cx .tc0
    · exact h.cx .tc1
  all_goals rw [e]
  · exact h.inbound
  · exact h.replies
  · exact h.lane
  · exact h.served

theorem Quiet.endHead (h : Quiet s v) (res : MoveResult) (loc : Option Loc) : Quiet s (v.endHead res loc) := by
  unfold State.endHead
  split
  · exact h
  · exact (h.notify _).modChg _

theorem Quiet.sourceEmpty (h : Quiet s v) (l : Loc) : Quiet s (v.sourceEmpty l) := by
  unfold State.sourceEmpty State.chgNext State.chgGoto
  refine Quiet.modChg ?_ _
  refine Quiet.endHead ?_ _ _
  split
  · exact h.modMtb _
  · exact h

theorem Quiet.readBay (h : Quiet s v) (t : Tr) : Quiet s (v.readBay t) := by
  unfold State.readBay
  split
  · exact h.sourceEmpty _
  · exact h.modChg _
  · exact h.modChg _

theorem Quiet.arriveSource (h : Quiet s v) (l : Loc) : Quiet s (v.arriveSource l) := by
  unfold State.arriveSource
  split
  · exact h.readBay _
  · split
    · exact h.modChg _
    · exact h.modChg _
  · exact h.modChg _

theorem Quiet.travelSource (h : Quiet s v) (l : Loc) : Quiet s (v.travelSource l) := by
  unfold State.travelSource
  split
  · exact h.arriveSource l
  · exact h.modChg _

theorem Quiet.beginHead (h : Quiet s v) : Quiet s v.beginHead := by
  unfold State.beginHead
  split
  · exact h
  · split
    · exact h.arriveSource _
    · exact h.travelSource _
  · exact (h.modChg _).travelSource _

theorem Quiet.chgDriveN (n : Nat) (h : Quiet s v) : Quiet s (State.chgDriveN n v) := by
  induction n generalizing v with
  | zero => exact h
  | succ n ih =>
    unfold State.chgDriveN
    split
    · split
      · exact h.modChg _
      · exact ih h.beginHead
    · exact h

theorem Quiet.chgDrive (h : Quiet s v) : Quiet s v.chgDrive := h.chgDriveN _

theorem Quiet.chgWatch (h : Quiet s v) : Quiet s v.chgWatch := by
  unfold State.chgWatch
  split
  · split
    · exact h.modChg _
    · exact h.sourceEmpty _
    · exact h
  · exact h

end

/-! ## The transports through a reading's pump -/

/-- A transport that is neither SEATED nor EMPTY. -/
def Away (c : Tc) : Prop := c.st ≠ .seated ∧ c.st ≠ .empty

/-- What a reading keeps of its transport as its queues move on: the label count, the watch point, the pending settings;
and it never brings the transport to SEATED or EMPTY. -/
structure Steady (c d : Tc) : Prop where
  labelCount : d.labelCount = c.labelCount
  watch : d.watch = c.watch
  pending : d.gov.pending = c.gov.pending
  away : Away c → Away d

theorem Steady.refl (c : Tc) : Steady c c := ⟨rfl, rfl, rfl, id⟩

theorem Steady.trans {c d e : Tc} (h : Steady c d) (h' : Steady d e) : Steady c e :=
  ⟨h'.labelCount.trans h.labelCount, h'.watch.trans h.watch, h'.pending.trans h.pending, h'.away ∘ h.away⟩

@[simp] theorem moveArmed_pending (g : Gov) : g.moveArmed.pending = g.pending := by
  unfold Gov.moveArmed
  split <;> rfl

@[simp] theorem goto_pending (c : Tc) (st : TcState) : (c.goto st).gov.pending = c.gov.pending := by
  unfold Tc.goto
  split
  · exact moveArmed_pending _
  · rfl

theorem Steady.goto {c d : Tc} (h : Steady c d) (st : TcState) (hst : st ≠ .seated ∧ st ≠ .empty) :
    Steady c (d.goto st) :=
  h.trans ⟨by simp, by simp, by simp, fun _ => by unfold Away; simpa using hst⟩

theorem formCredit_tc_self (s : State) (t : Tr) :
    ∃ g p, (s.formCredit t).tc t = { s.tc t with granted := g, pendingCredits := p } := by
  obtain ⟨g, p, l, -, e, -⟩ := formCredit_eq s t
  exact ⟨g, p, by rw [e, State.setTc_tc]⟩

theorem formCredit_tc_other (s : State) (t : Tr) : (s.formCredit t).tc t.other = s.tc t.other := by
  obtain ⟨g, p, l, -, e, -⟩ := formCredit_eq s t
  rw [e, State.setTc_tc_other]
  cases t <;> rfl

/-- The controller of a transport through the forming of CREDIT notices: only its credits may change (R108). -/
theorem formCredit_steady (s : State) (t u : Tr) : Steady (s.tc t) ((s.formCredit u).tc t) := by
  obtain rfl | rfl := eq_or_other u t
  · obtain ⟨g, p, e⟩ := formCredit_tc_self s t
    rw [e]
    exact ⟨rfl, rfl, rfl, id⟩
  · rw [formCredit_tc_other]
    exact .refl _

/-- What the withdrawal of a CREDIT leaves of the controller: with nothing pending, all of it (R110). -/
theorem voidCredits_tc (s : State) (t : Tr) :
    (s.voidCredits t).tc t = { s.tc t with pendingCredits := 0, granted := 0 } := by
  have none_pending : ∀ {v : State} (u : Tr), v.tc t = { s.tc t with pendingCredits := 0, granted := 0 } →
      (v.formCredit u).tc t = { s.tc t with pendingCredits := 0, granted := 0 } := by
    intro v u hv
    obtain rfl | rfl := eq_or_other u t
    · rw [formCredit_of_none (by rw [hv]), hv]
    · rw [formCredit_tc_other, hv]
  unfold State.voidCredits State.withdrawCredit
  split
  · exact none_pending _ (none_pending _ (by simp))
  · simp

/-- A report draws free values, and reaches nothing else (log entry 2). -/
theorem jobReport_state (s : State) (t : Tr) (j : Job) (res : JobResult) :
    ∃ n, (s.jobReport t j res).2 = { s with free := n } := by
  have told : ∀ u : Tr, ∃ n, (s.loadCountTold u).2 = { s with free := n } := by
    intro u
    unfold State.loadCountTold
    split <;> exact ⟨_, rfl⟩
  cases j with
  | load l =>
    dsimp only [State.jobReport]
    obtain ⟨n, e⟩ := told t
    split
    · exact ⟨n, e⟩
    · exact ⟨n + 1, by rw [e]; rfl⟩
  | read r =>
    dsimp only [State.jobReport, State.readTold]
    split <;> split <;> exact ⟨_, rfl⟩
  | _ => exact ⟨_, rfl⟩

@[simp] theorem setFree_tc (s : State) (n : Nat) (t : Tr) : ({ s with free := n } : State).tc t = s.tc t := by
  cases t <;> rfl

@[simp] theorem modBay_tc (s : State) (t u : Tr) (f : CartRecord → CartRecord) : (s.modBay t f).tc u = s.tc u := by
  unfold State.modBay
  rw [State.modMtb_tc]

@[simp] theorem jobEnd_tc (s : State) (t u : Tr) (j : Job) (res : JobResult) (report : List Byte) :
    (s.jobEnd t j res report).tc u = s.tc u := by
  unfold State.jobEnd
  rw [modBay_tc, State.notify_tc]

@[simp] theorem clearCtx_tc (s : State) (t u : Tr) (d : Dir) : (s.clearCtx t d).tc u = s.tc u := by
  cases t <;> cases u <;> rfl

/-- What the end of a job leaves of its transport's controller (R103, R110, R123). -/
theorem endJob_tc {s : State} {t : Tr} {j : Job} (res : JobResult) (h : (s.tc t).job = some j) :
    (s.endJob t res).tc t =
      { s.tc t with job := none, locate := none, intake := [], blockQ := [], inflight := [], rewrite := [],
                    delivery := [], pendingCredits := 0, granted := 0 } := by
  unfold State.endJob
  rw [h]
  dsimp only
  obtain ⟨n, e⟩ := jobReport_state (((s.clearCtx t .none).voidCredits t).modTc t fun c =>
    { c with job := none, locate := none, intake := [], blockQ := [], inflight := [], rewrite := [], delivery := [] })
    t j res
  rw [jobEnd_tc, e, setFree_tc, State.modTc_tc, voidCredits_tc, clearCtx_tc]

theorem endJob_of_none {s : State} {t : Tr} (res : JobResult) (h : (s.tc t).job = none) : s.endJob t res = s := by
  unfold State.endJob
  rw [h]

theorem endJob_steady (s : State) (t : Tr) (res : JobResult) : Steady (s.tc t) ((s.endJob t res).tc t) := by
  cases h : (s.tc t).job with
  | none =>
    rw [endJob_of_none res h]
    exact .refl _
  | some j =>
    rw [endJob_tc res h]
    exact ⟨rfl, rfl, rfl, id⟩

section
variable {c : Tc} {v : State} {t : Tr}

theorem Steady.modRead (h : Steady c (v.tc t)) (f : ReadJob → ReadJob) : Steady c ((v.modRead t f).tc t) := by
  unfold State.modRead
  rw [State.modTc_tc]
  split
  · exact h.trans ⟨rfl, rfl, rfl, id⟩
  · exact h

theorem Steady.takeHeads (h : Steady c (v.tc t)) : Steady c ((v.takeHeads t).tc t) := by
  unfold State.takeHeads
  split
  · rw [State.modTc_tc]
    exact h.trans ⟨rfl, rfl, rfl, id⟩
  · exact h

theorem Steady.lastGaps (h : Steady c (v.tc t)) : Steady c ((v.lastGaps t).tc t) := by
  unfold State.lastGaps
  split
  · split
    · refine Steady.modRead ?_ _
      rw [State.modTc_tc]
      exact h.trans ⟨rfl, rfl, rfl, id⟩
    · exact h
  · exact h

theorem Steady.readResume (h : Steady c (v.tc t)) : Steady c ((v.readResume t).tc t) := by
  unfold State.readResume
  split
  · split
    · rw [State.modTc_tc]
      exact h.trans ⟨rfl, rfl, rfl, fun _ => by unfold Away; simp⟩
    · exact h
  · exact h

theorem Steady.earn (h : Steady c (v.tc t)) (n : Nat) : Steady c ((v.earn t n).tc t) := by
  refine Steady.trans ?_ (formCredit_steady _ _ _)
  rw [State.modTc_tc]
  exact h.trans ⟨rfl, rfl, rfl, id⟩

theorem Steady.compare (h : Steady c (v.tc t)) : Steady c ((v.compare t).tc t) := by
  unfold State.compare
  split
  · dsimp only
    have compared : ∀ d i j, Steady c ((v.modTc t fun c => { c with delivery := d, intake := i, job := j }).tc t) := by
      intro d i j
      rw [State.modTc_tc]
      exact h.trans ⟨rfl, rfl, rfl, id⟩
    split
    · split
      · exact compared _ _ _
      · exact (compared _ _ _).earn _
    · exact h
  · exact h

theorem Steady.endRead (h : Steady c (v.tc t)) (res : JobResult) : Steady c ((v.endRead t res).tc t) := by
  refine Steady.trans ?_ (endJob_steady _ _ _)
  rw [State.modTc_tc]
  exact Steady.goto (h.modRead _) _ (by simp)

theorem Steady.shortEnd (h : Steady c (v.tc t)) : Steady c ((v.shortEnd t).tc t) := by
  unfold State.shortEnd
  split
  · split
    · exact h.endRead _
    · exact h
  · exact h

theorem Steady.readEndTest (h : Steady c (v.tc t)) : Steady c ((v.readEndTest t).tc t) := by
  unfold State.readEndTest
  split
  · next r _ =>
    split
    · have closed : Steady c
          ((if r.isRestore then v.modTc t fun c => { c with delivery := closeFilling c.delivery } else v).tc t) := by
        split
        · rw [State.modTc_tc]
          exact h.trans ⟨rfl, rfl, rfl, id⟩
        · exact h
      have ended : ∀ {w : State} {res : JobResult}, Steady c (w.tc t) →
          Steady c ((if (w.tc t).delivery = [] then w.endRead t res else w).tc t) := by
        intro w res hw
        split
        · exact hw.endRead _
        · exact hw
      exact ended closed
    · exact h
  · exact h

theorem Steady.readPump (h : Steady c (v.tc t)) : Steady c ((v.readPump t).tc t) :=
  h.takeHeads.lastGaps.readResume.compare.shortEnd.readEndTest

theorem Steady.sendData (h : Steady c (v.tc t)) : Steady c ((v.sendData t).tc t) := by
  unfold State.sendData
  split
  · exact h
  · refine Steady.readPump ?_
    rw [State.modLnk_tc]
    refine Steady.modRead ?_ _
    rw [State.modTc_tc]
    exact h.trans ⟨rfl, rfl, rfl, id⟩

end

/-! ## What settling reaches (O4) -/

/-- What settling keeps of a transport: what a reading's pump keeps, and unless a restore runs, its job, tape and
queues. -/
structure TcSettled (c d : Tc) : Prop where
  steady : Steady c d
  still : (∀ r, c.job = some (.read r) → r.isRestore = false) →
    d.job = c.job ∧ d.st = c.st ∧ d.pos = c.pos ∧ d.intake = c.intake ∧ d.blockQ = c.blockQ ∧ d.inflight = c.inflight ∧
      d.rewrite = c.rewrite

theorem TcSettled.of_same {c d : Tc}
    (h : d = { c with delivery := d.delivery, granted := d.granted, pendingCredits := d.pendingCredits }) :
    TcSettled c d := by
  rw [h]
  exact ⟨⟨rfl, rfl, rfl, id⟩, fun _ => ⟨rfl, rfl, rfl, rfl, rfl, rfl, rfl⟩⟩

theorem TcSettled.trans {c d e : Tc} (h : TcSettled c d) (h' : TcSettled d e) : TcSettled c e := by
  refine ⟨h.steady.trans h'.steady, fun quiet => ?_⟩
  obtain ⟨job, st, pos, intake, blockQ, inflight, rewrite⟩ := h.still quiet
  obtain ⟨job', st', pos', intake', blockQ', inflight', rewrite'⟩ := h'.still (job ▸ quiet)
  exact ⟨job'.trans job, st'.trans st, pos'.trans pos, intake'.trans intake, blockQ'.trans blockQ,
    inflight'.trans inflight, rewrite'.trans rewrite⟩

/-- What settling keeps: the inbound side of the link, the waiting commands, and of each transport what `TcSettled`
says. -/
structure SettleKeeps (s u : State) : Prop where
  inbound : InboundKept s u
  tc : ∀ t, TcSettled (s.tc t) (u.tc t)

theorem SettleKeeps.trans {s u v : State} (h : SettleKeeps s u) (h' : SettleKeeps u v) : SettleKeeps s v :=
  ⟨inboundKept_trans h.inbound h'.inbound, fun t => (h.tc t).trans (h'.tc t)⟩

theorem Quiet.settleKeeps {s u : State} (h : Quiet s u) : SettleKeeps s u :=
  ⟨h.inbound, fun t => by rw [h.tc t]; exact .of_same rfl⟩

/-- An operation of one transport that settles it settles both. -/
theorem Local.settleKeeps {t : Tr} {s u : State} (h : Local t s u) (ht : TcSettled (s.tc t) (u.tc t)) :
    SettleKeeps s u := by
  refine ⟨h.inbound, fun o => ?_⟩
  obtain rfl | rfl := eq_or_other t o
  · exact ht
  · obtain ⟨-, g, p, -, e⟩ := h.other
    rw [e]
    exact .of_same rfl

theorem dpTake_settleKeeps (s : State) (t : Tr) : SettleKeeps s (s.dpTake t) := by
  unfold State.dpTake
  split
  · exact ((Local.refl t s).setDp _).settleKeeps (.of_same (by cases t <;> rfl))
  · refine (Local.refl t s).beginDecode.settleKeeps (.of_same ?_)
    unfold State.beginDecode
    split
    · cases t <;> rfl
    · rfl

theorem dpKick_settleKeeps (s : State) : SettleKeeps s s.dpKick := by
  have idle : SettleKeeps s s := (Quiet.refl s).settleKeeps
  unfold State.dpKick
  split
  · exact idle
  · split
    · exact dpTake_settleKeeps s _
    · split
      · exact dpTake_settleKeeps s _
      · exact idle

theorem formCredit_settleKeeps (s : State) (t : Tr) : SettleKeeps s (s.formCredit t) := by
  refine ((Local.refl t s).formCredit t).settleKeeps (.of_same ?_)
  obtain ⟨g, p, e⟩ := formCredit_tc_self s t
  rw [e]

/-- A transport that offers data runs a restore, and has an entry to send (R150). -/
theorem dataReady_restore {s : State} {t : Tr} (h : s.dataReady t = true) :
    ∃ r d rest, (s.tc t).job = some (.read r) ∧ r.isRestore = true ∧ (s.tc t).delivery = d :: rest ∧
      d.sendable = true := by
  unfold State.dataReady at h
  split at h
  · next r d rest hr hd =>
    obtain ⟨restore, sendable⟩ := Bool.and_eq_true_iff.mp h
    exact ⟨r, d, rest, readJob_eq hr, restore, hd, sendable⟩
  · cases h

theorem sendData_settleKeeps {s : State} {t : Tr} (h : s.dataReady t = true) : SettleKeeps s (s.sendData t) := by
  obtain ⟨r, d, rest, job, restore, delivery, -⟩ := dataReady_restore h
  have self : TcSettled (s.tc t) ((s.sendData t).tc t) :=
    ⟨(Steady.refl _).sendData, fun quiet => by simp [quiet r job] at restore⟩
  have sent : ∀ {v : State} (l : Lnk), v.lnk = s.lnk → OtherKept t s v →
      l = { s.lnk with lane := l.lane, lastServed := l.lastServed } → v.pending = s.pending →
      InboundKept s (v.modLnk fun _ => l) ∧ OtherKept t s (v.modLnk fun _ => l) := by
    intro v l _ other hl pending
    refine ⟨?_, otherKept_trans other (otherKept_of_eq (by simp) (by simp))⟩
    rw [hl]
    exact ⟨rfl, rfl, rfl, rfl, rfl, rfl, rfl, rfl, pending⟩
  have shape : ∃ v : State, ∃ l : Lnk, v.lnk = s.lnk ∧ OtherKept t s v ∧
      l = { s.lnk with lane := l.lane, lastServed := l.lastServed } ∧ v.pending = s.pending ∧
      s.sendData t = (v.modLnk fun _ => l).readPump t := by
    have headLeft := ((Local.refl t s).modTc fun c => { c with delivery := rest }).modRead fun r => r.sent d
    refine ⟨(s.modTc t fun c => { c with delivery := rest }).modRead t fun r => r.sent d,
      { s.lnk with lane := some (d.frame t), lastServed := t }, by unfold State.modRead; simp, headLeft.other, rfl,
      by unfold State.modRead; simp, ?_⟩
    unfold State.sendData
    rw [delivery]
    refine congrArg (State.readPump · t) ?_
    unfold State.modLnk State.modRead
    simp
  obtain ⟨v, l, hv, other, hl, pending, e⟩ := shape
  obtain ⟨inbound, other⟩ := sent l hv other hl pending
  have pump : Local t (v.modLnk fun _ => l) (s.sendData t) := by
    rw [e]
    exact (Local.refl t _).readPump
  refine ⟨inboundKept_trans inbound pump.inbound, fun o => ?_⟩
  obtain rfl | rfl := eq_or_other t o
  · exact self
  · obtain ⟨-, g, p, -, e⟩ := otherKept_trans other pump.other
    rw [e]
    exact .of_same rfl

/-- The lane is left as it is, or it is in use after the choice (R178). -/
theorem laneChoose_cases (s : State) :
    s.laneChoose = s ∨
      (∃ r rest, s.laneChoose = s.modLnk fun l => { l with replies := rest, lane := some (replyFrame r) }) ∨
      (∃ n rest, s.laneChoose = (s.modLnk fun l =>
        { l with notices := rest, lane := some (noticeFrame n l.lost), lost := false }).noticeLeft) ∨
      ∃ t, s.dataReady t = true ∧ s.laneChoose = s.sendData t := by
  unfold State.laneChoose
  split
  · exact .inl rfl
  · split
    · exact .inr (.inl ⟨_, _, rfl⟩)
    · split
      · exact .inr (.inr (.inl ⟨_, _, rfl⟩))
      · split
        · next t ht =>
          refine .inr (.inr (.inr ⟨t, ?_, rfl⟩))
          unfold State.laneData at ht
          split at ht
          · next h => exact Option.some.inj ht ▸ h
          · split at ht
            · next h => exact Option.some.inj ht ▸ h
            · cases ht
        · exact .inl rfl

theorem laneChoose_settleKeeps (s : State) : SettleKeeps s s.laneChoose := by
  have line : ∀ {f : Lnk → Lnk}, InboundKept s (s.modLnk f) → SettleKeeps s (s.modLnk f) := fun inbound =>
    ⟨inbound, fun t => by rw [State.modLnk_tc]; exact .of_same rfl⟩
  obtain e | ⟨r, rest, e⟩ | ⟨n, rest, e⟩ | ⟨t, ready, e⟩ := laneChoose_cases s <;> rw [e]
  · exact (Quiet.refl s).settleKeeps
  · exact line ⟨rfl, rfl, rfl, rfl, rfl, rfl, rfl, rfl, rfl⟩
  · exact ((line ⟨rfl, rfl, rfl, rfl, rfl, rfl, rfl, rfl, rfl⟩).trans (formCredit_settleKeeps _ .tc0)).trans
      (formCredit_settleKeeps _ .tc1)
  · exact sendData_settleKeeps ready

theorem settle_settleKeeps (s : State) : SettleKeeps s s.settle := by
  have driven := ((Quiet.refl s).chgWatch.chgDrive).settleKeeps
  exact ((driven.trans (dpKick_settleKeeps _)).trans (laneChoose_settleKeeps _)).trans (dpKick_settleKeeps _)

/-- Settles O4: the changer's part of settling reaches no transport, the datapath's only a delivery queue, and the lane's
only the transport of a restore and the credits. -/
theorem settlingKeepsWhatItDoesNotServe : Obligations.SettlingKeepsWhatItDoesNotServe := by
  unfold Obligations.SettlingKeepsWhatItDoesNotServe
  intro s
  obtain ⟨inbound, tc⟩ := settle_settleKeeps s
  exact ⟨inbound, fun t => ⟨(tc t).steady.labelCount, (tc t).steady.watch, (tc t).steady.pending, (tc t).still⟩⟩

/-! ## Settling settles (O3) -/

/-- An order in WAIT_BAY has nothing to take from its transport (R31). -/
def WaitStable (s : State) : Prop := ∀ t, s.chg.st = .waitBay → s.chg.step = some (.waitBay t) → Away (s.tc t)

/-- No order is about to start (R26). -/
def Driven (s : State) : Prop := ¬ (s.chg.st = .running ∧ s.chg.step = none)

theorem chgWatch_of_stable {s : State} (h : WaitStable s) : s.chgWatch = s := by
  unfold State.chgWatch
  split
  · next t hst hstep =>
    obtain ⟨seated, empty⟩ := h t hst hstep
    split
    · next hs => exact absurd hs seated
    · next he => exact absurd he empty
    · rfl
  · rfl

theorem chgDrive_of_driven {s : State} (h : Driven s) : s.chgDrive = s := by
  unfold State.chgDrive State.chgDriveN
  exact if_neg h

theorem waitStable_of_st {s : State} (h : s.chg.st ≠ .waitBay) : WaitStable s := fun _ hst => absurd hst h

@[simp] theorem endHead_queue (s : State) (res : MoveResult) (loc : Option Loc) :
    (s.endHead res loc).chg.queue = s.chg.queue.tail := by
  unfold State.endHead
  split
  · next h => rw [h]; rfl
  · next h => rw [h]; rfl

@[simp] theorem sourceEmpty_st (s : State) (l : Loc) : (s.sourceEmpty l).chg.st = .running := rfl

@[simp] theorem sourceEmpty_queue (s : State) (l : Loc) : (s.sourceEmpty l).chg.queue = s.chg.queue.tail := by
  unfold State.sourceEmpty State.chgNext State.chgGoto
  rw [State.modChg_chg, endHead_queue]
  split <;> rfl

/-- After chgWatch an order in WAIT_BAY has nothing to take. -/
theorem chgWatch_stable (s : State) : WaitStable s.chgWatch := by
  unfold State.chgWatch
  split
  · next t hst hstep =>
    split
    · exact waitStable_of_st (by simp [State.beginGrip])
    · exact waitStable_of_st (by simp)
    · next seated empty =>
      intro u _ hu
      obtain rfl : t = u := by simpa [hstep] using hu
      exact ⟨seated, empty⟩
  · next h =>
    intro t hst hstep
    exact absurd hstep (h t hst)

/-- What starting the head order leads to: a step that has begun and waits for an event, or its end, SOURCE_EMPTY. -/
def Begun (s u : State) : Prop :=
  (u.chg.step ≠ none ∧ WaitStable u) ∨ (u.chg.queue = s.chg.queue.tail ∧ u.chg.st = .running)

theorem readBay_begun (s : State) (t : Tr) : Begun s (s.readBay t) := by
  unfold State.readBay
  split
  · exact .inr ⟨by simp, by simp⟩
  · exact .inl ⟨by simp [State.beginGrip], waitStable_of_st (by simp [State.beginGrip])⟩
  · next empty seated =>
    refine .inl ⟨by simp, fun u _ hu => ?_⟩
    obtain rfl : t = u := by simpa using hu
    rw [State.modChg_tc]
    exact ⟨seated, empty⟩

theorem arriveSource_begun (s : State) (l : Loc) : Begun s (s.arriveSource l) := by
  unfold State.arriveSource
  split
  · exact readBay_begun s _
  · split
    · exact .inl ⟨by simp, waitStable_of_st (by simp)⟩
    · exact .inl ⟨by simp, waitStable_of_st (by simp)⟩
  · exact .inl ⟨by simp, waitStable_of_st (by simp)⟩

theorem travelSource_begun (s : State) (l : Loc) : Begun s (s.travelSource l) := by
  unfold State.travelSource
  split
  · exact arriveSource_begun s l
  · exact .inl ⟨by simp, waitStable_of_st (by simp)⟩

theorem beginHead_begun {s : State} (h : s.chg.queue ≠ []) : Begun s s.beginHead := by
  unfold State.beginHead
  split
  · next e => exact absurd e h
  · split
    · exact arriveSource_begun s _
    · exact travelSource_begun s _
  · exact travelSource_begun (s.modChg _) _

/-- With more fuel than orders, driving ends with an order that waits for an event, or with the changer at rest (R26). -/
theorem chgDriveN_driven (n : Nat) {s : State} (fuel : s.chg.queue.length < n) (stable : WaitStable s) :
    Driven (State.chgDriveN n s) ∧ WaitStable (State.chgDriveN n s) := by
  induction n generalizing s with
  | zero => exact absurd fuel (Nat.not_lt_zero _)
  | succ n ih =>
    unfold State.chgDriveN
    split
    · split
      · have rest : s.chg.rest ≠ .running ∧ s.chg.rest ≠ .waitBay := by
          unfold Chg.rest
          split <;> simp
        exact ⟨fun h => rest.1 h.1, waitStable_of_st rest.2⟩
      · next waiting =>
        obtain ⟨begun, stable'⟩ | ⟨queue, running⟩ := beginHead_begun waiting
        · have driven : Driven s.beginHead := fun h => begun h.2
          cases n with
          | zero => exact ⟨driven, stable'⟩
          | succ n =>
            unfold State.chgDriveN
            rw [if_neg driven]
            exact ⟨driven, stable'⟩
        · refine ih ?_ (waitStable_of_st (by rw [running]; simp))
          have positive := List.length_pos_iff.mpr waiting
          rw [queue, List.length_tail]
          omega
    · next idle => exact ⟨idle, stable⟩

theorem beginDecode_dp {s : State} {t : Tr} (h : s.readReady t = true) : (s.beginDecode t).dp.isSome = true := by
  unfold State.readReady at h
  unfold State.beginDecode
  split at h
  · next hr hb =>
    rfl
  · cases h

/-- A ready context is taken (R100). -/
theorem dpTake_dp {s : State} {t : Tr} (h : s.ready t = true) : (s.dpTake t).dp.isSome = true := by
  unfold State.dpTake
  split
  · rfl
  · next hw =>
    unfold State.ready at h
    exact beginDecode_dp (by simpa [hw] using h)

/-- The datapath's choice leaves it busy, or with no context ready (R102). -/
theorem dpKick_dpKick (s : State) : s.dpKick.dpKick = s.dpKick := by
  have busy : ∀ {u : State}, u.dp.isSome = true → u.dpKick = u := fun h =>
    State.dpKick_of_busy (Option.isSome_iff_ne_none.mp h)
  by_cases h : s.dp.isSome = true
  · rw [busy h, busy h]
  · by_cases h0 : s.ready .tc0 = true
    · have e : s.dpKick = s.dpTake .tc0 := by simp [State.dpKick, h, h0]
      rw [e, busy (dpTake_dp h0)]
    · by_cases h1 : s.ready .tc1 = true
      · have e : s.dpKick = s.dpTake .tc1 := by simp [State.dpKick, h, h0, h1]
        rw [e, busy (dpTake_dp h1)]
      · have e : s.dpKick = s := by simp [State.dpKick, h0, h1]
        rw [e, e]

/-- A lane in use stays as it is (R178). -/
theorem laneChoose_of_busy {s : State} (h : s.lnk.lane.isSome = true) : s.laneChoose = s := by
  unfold State.laneChoose
  rw [h]
  rfl

theorem dpTake_local (s : State) (t : Tr) : Local t s (s.dpTake t) := by
  unfold State.dpTake
  split
  · exact (Local.refl t s).setDp _
  · exact (Local.refl t s).beginDecode

theorem dpKick_frame (s : State) : s.dpKick.chg = s.chg ∧ s.dpKick.lnk.lane = s.lnk.lane := by
  unfold State.dpKick
  split
  · exact ⟨rfl, rfl⟩
  · split
    · exact ⟨(dpTake_local s _).chg, (dpTake_local s _).lane⟩
    · split
      · exact ⟨(dpTake_local s _).chg, (dpTake_local s _).lane⟩
      · exact ⟨rfl, rfl⟩

/-- The lane's choice leaves the changer alone, and either changes nothing or takes the lane (R178). -/
theorem laneChoose_frame (s : State) :
    s.laneChoose.chg = s.chg ∧ (s.laneChoose = s ∨ s.laneChoose.lnk.lane.isSome = true) := by
  obtain e | ⟨r, rest, e⟩ | ⟨n, rest, e⟩ | ⟨t, ready, e⟩ := laneChoose_cases s
  · exact ⟨by rw [e], .inl e⟩
  · rw [e]
    exact ⟨rfl, .inr rfl⟩
  · have left := (Local.refl .tc0 (s.modLnk fun l =>
      { l with notices := rest, lane := some (noticeFrame n l.lost), lost := false })).noticeLeft
    rw [e]
    exact ⟨left.chg, .inr (by rw [left.lane]; rfl)⟩
  · rw [e]
    obtain ⟨r, d, rest, -, -, delivery, -⟩ := dataReady_restore ready
    unfold State.sendData
    rw [delivery]
    dsimp only
    have pump := (Local.refl t (((s.modTc t fun c => { c with delivery := rest }).modRead t fun r => r.sent d).modLnk
      fun l => { l with lane := some (d.frame t), lastServed := t })).readPump
    refine ⟨?_, .inr (by rw [pump.lane]; rfl)⟩
    rw [pump.chg]
    unfold State.modRead
    simp

/-- What settling leaves: no order that would start or go on, no choice for the datapath, none for the lane. The lane's
choice, which may make room for the datapath, is followed by the datapath's. -/
theorem settle_parts (s : State) :
    Driven s.settle ∧ WaitStable s.settle ∧ s.settle.dpKick = s.settle ∧ s.settle.laneChoose = s.settle := by
  obtain ⟨driven, stable⟩ : Driven s.chgWatch.chgDrive ∧ WaitStable s.chgWatch.chgDrive :=
    chgDriveN_driven _ (Nat.lt_succ_self _) (chgWatch_stable s)
  generalize hv : s.chgWatch.chgDrive = v at driven stable
  have e : s.settle = v.dpKick.laneChoose.dpKick := by rw [← hv]; rfl
  rw [e]
  have chg : v.dpKick.laneChoose.dpKick.chg = v.chg := by
    rw [(dpKick_frame _).1, (laneChoose_frame _).1, (dpKick_frame _).1]
  have kept := ((dpKick_settleKeeps v).trans (laneChoose_settleKeeps _)).trans (dpKick_settleKeeps _)
  refine ⟨fun h => driven (chg ▸ h), fun t hst hstep => (kept.tc t).steady.away (stable t (chg ▸ hst) (chg ▸ hstep)), dpKick_dpKick _, ?_⟩
  obtain same | used := (laneChoose_frame v.dpKick).2
  · rw [same, dpKick_dpKick, same]
  · exact laneChoose_of_busy (by rw [(dpKick_frame _).2]; exact used)

/-- A settled state stays settled: each part of settling has nothing left to do. -/
theorem settle_settle (s : State) : s.settle.settle = s.settle := by
  obtain ⟨driven, stable, kick, lane⟩ := settle_parts s
  obtain ⟨u, hu⟩ : ∃ u, s.settle = u := ⟨_, rfl⟩
  rw [hu] at driven stable kick lane ⊢
  unfold State.settle
  rw [chgWatch_of_stable stable, chgDrive_of_driven driven, kick, lane, kick]

/-- Settles O3: a command's state is a settled one, and settling it again changes nothing; an idle step changes nothing
at all. -/
theorem everyStepLeavesASettledState : Obligations.EveryStepLeavesASettledState := by
  unfold Obligations.EveryStepLeavesASettledState
  intro s s' settled h
  unfold step at h
  split at h
  · exact Host.Outcome.next.inj h ▸ settled
  · next c rest _ =>
    obtain ⟨u, hu, -⟩ := exec_eventKeeps c { s with pending := rest }
    rw [hu] at h
    rw [← Host.Outcome.next.inj h, settle_settle]

end Sys2Proof.Proofs
end

section
/-! PROOFS. The machine as a whole, power-on (R25, R48, R70, R104, R185), and the engine's own requests (R181 to R184). -/

open Sys2Proof Sys2Proof.Machine Sys2Proof.Claims

namespace Sys2Proof.Proofs

-- One declaration at a time: elaborated in parallel, the joined text needs more threads than the memory limit holds.
set_option Elab.async false

/-! ## Where settling has nothing to do -/

/-- No reply, notice or data waits for the lane (R178). -/
theorem laneChoose_of_none {s : State} (replies : s.lnk.replies = []) (notices : s.lnk.notices = [])
    (data : ∀ t, s.dataReady t = false) : s.laneChoose = s := by
  unfold State.laneChoose
  split
  · rfl
  · rw [replies, notices]
    simp [State.laneData, data]

/-- With no order running, no job at either transport and nothing to send, settling changes nothing. -/
theorem settle_of_idle {s : State} (running : s.chg.st ≠ .running) (waiting : s.chg.st ≠ .waitBay)
    (jobs : ∀ t, (s.tc t).job = none) (replies : s.lnk.replies = []) (notices : s.lnk.notices = []) : s.settle = s := by
  have asks := fun t => State.not_ready_of_no_job (jobs t)
  have kick : s.dpKick = s := State.dpKick_of_not_ready (asks .tc0).1 (asks .tc1).1
  unfold State.settle
  rw [State.chgWatch_of_not_waiting waiting, State.chgDrive_of_not_running (.inl running), kick,
    laneChoose_of_none replies notices fun t => (asks t).2, kick]

/-! ## The machine as a whole (O1, O2) -/

/-- Settles O1: the step is the match on the queue, and every arm of `exec` answers a settled state. -/
theorem stepRunsTheFrontCommand : Obligations.StepRunsTheFrontCommand := by
  unfold Obligations.StepRunsTheFrontCommand
  refine ⟨fun c rest s h => by rw [step, h], fun s h => by rw [step, h], fun c s => ?_⟩
  obtain ⟨u, hu, -⟩ := exec_eventKeeps c s
  exact ⟨_, hu⟩

theorem get_reset (l : Loc) : State.reset.mtb.get l = none := by
  simp [State.reset, Mtb.get]

/-- The transport of an empty bay keeps every law of a transport. -/
theorem emptyBay_sound : ({} : Tc).gov.Sound ∧ Job.FaultsBounded ({} : Tc).job ∧ ({} : Tc).QueuesSound := by
  have empty : ({} : Tc).QueuesEmpty := ⟨rfl, rfl, rfl, rfl, rfl, rfl⟩
  refine ⟨gov_default_sound, trivial, ?_, fun _ => empty, rfl, empty⟩
  unfold Tc.QueuesBounded
  decide

/-- Settles O2: each transport is as at an empty bay, the table has no record, and the changer homes. -/
theorem resetStateIsSound : Obligations.ResetStateIsSound := by
  unfold Obligations.ResetStateIsSound
  obtain ⟨gov, faults, queues⟩ := emptyBay_sound
  have no_record : ∀ {l : Loc} {r : CartRecord}, State.reset.mtb.get l ≠ some r := by simp [get_reset]
  refine ⟨⟨⟨gov, gov⟩, by unfold State.LinkBounded; decide, ⟨faults, faults⟩, fun l r h => absurd h no_record,
    settled_of_no_labels fun l r h => absurd h no_record, by unfold State.OrdersBounded; decide, rfl, queues, queues⟩, ?_⟩
  exact settle_of_idle (by decide) (by decide) (fun t => by cases t <;> rfl) rfl rfl

/-! ## Power-on (O13) -/

theorem senseState_eq (b : BaySense) :
    senseState b = if b.tapeOut then .adrift else if b.seated then .seated else .empty := rfl

theorem settle_powerOn (s : State) (sens : Sensors) : (s.powerOn sens).settle = s.powerOn sens := by
  have st : (s.powerOn sens).chg.st = if sens.mainOpen then .halted else .homing := rfl
  refine settle_of_idle ?_ ?_ (fun t => by cases t <;> rfl) rfl rfl
  · rw [st]
    split <;> simp
  · rw [st]
    split <;> simp

theorem sensedEntry_slot (sens : Sensors) (i : Fin 16) :
    sensedEntry sens (Loc.slot i).idx = if sens.slots.getLsbD i.val then some { presence := .unknown } else none :=
  if_pos i.isLt

/-- The entry of a bay: a seated cartridge with its class and protect (R25, R52). -/
theorem sensedValues_record (b : BaySense) :
    ((sensedValues b).map fun v => ({} : CartRecord).withBay (some v)) =
      if b.seated then some { cls := some b.cls, protect := some b.protect } else none := by
  unfold sensedValues
  split <;> rfl

/-- Settles O13: `powerOn` builds the state that the statement lists, and that state is settled. -/
theorem powerOnRebuildsEverything : Obligations.PowerOnRebuildsEverything := by
  unfold Obligations.PowerOnRebuildsEverything
  intro s sens
  refine ⟨s.powerOn sens, rfl, rfl, settle_powerOn s sens, rfl, rfl, rfl, rfl, rfl, rfl, rfl, rfl, fun i => ?_, ?_, ?_, ?_, ?_,
    rfl, rfl⟩
  · exact (get_sensedMtb sens _).trans (sensedEntry_slot sens i)
  · exact get_sensedMtb sens .mail
  · exact (get_sensedMtb sens (.bay .tc0)).trans (sensedValues_record _)
  · exact (get_sensedMtb sens (.bay .tc1)).trans (sensedValues_record _)
  · exact get_sensedMtb sens .hand

/-! ## IDENT and STATUS (O10) -/

/-- A reply on the engine's channel is one reply more, and nothing else (R174). -/
theorem engineReply_eq (s : State) (tag code : Byte) (b : ReplyBody) :
    s.engineReply tag code b = replied s .engine tag code b := rfl

/-- The name of a transport state is its position in R49's table, that of a changer state in R26's (R175). -/
theorem transportState_named (st : TcState) : BitVec.ofNat 8 st.code = nameIn transportStates st := by
  cases st <;> rfl

theorem changerState_named (st : ChgState) : BitVec.ofNat 8 st.code = nameIn changerStates st := by
  cases st <;> rfl

/-- Settles O10: IDENT answers constants, STATUS the state before its own reply; only the clearing reaches the counts. -/
theorem identAndStatusAnswer : Obligations.IdentAndStatusAnswer := by
  unfold Obligations.IdentAndStatusAnswer
  refine ⟨fun s tag takes => ?_, fun s tag clear takes => ⟨s.statusResult, ?_, ?_⟩⟩
  · exact runs_of_gate (take := fun s => s.takeIdent tag) rfl takes
  · simp only [State.statusResult, beBytes_one, transportState_named, changerState_named, flagByte, List.cons_append,
      List.nil_append, List.append_assoc]
  · have ran := runs_of_gate (c := .status tag clear) (take := fun s => s.takeStatus tag clear) rfl takes
    cases clear <;> exact ran

/-! ## RESET_ENGINE (O12) -/

theorem gate_of_resetting {s : State} (take : State → State) (h : s.lnk.resetting = true) : s.gate take = s := by
  unfold State.gate
  rw [if_pos h]

theorem runs_of_gate_resetting {c : Instr} {s : State} {take : State → State} (arm : exec c s = (s.gate take).answer)
    (h : s.lnk.resetting = true) : Runs c s s := by
  unfold Runs
  rw [arm, gate_of_resetting take h, State.answer]

theorem handle_of_resetting {s : State} (bay : BaySense) (h : s.lnk.resetting = true) : s.handle bay = s := by
  unfold State.handle
  rw [if_pos h]

/-- At the end of the DONE of a RESET_ENGINE the engine resets (R184). -/
theorem frameEnd_of_resetDone {s : State} {f : OutFrame} (sens : Sensors) (resetting : s.lnk.resetting = true)
    (lane : s.lnk.lane = some f) (done : f.isResetDone = true) : s.frameEnd sens = s.powerOn sens := by
  unfold State.frameEnd
  rw [lane]
  simp [resetting, done]

/-- Settles O12: the reset request is taken, what comes meanwhile meets the gate, and the end of its DONE resets. -/
theorem resetEngineResetsAtItsReply : Obligations.ResetEngineResetsAtItsReply := by
  unfold Obligations.ResetEngineResetsAtItsReply
  refine ⟨fun s tag takes => ?_, fun s tag t b bytes resetting => ?_, fun s tag sens resetting lane => ?_⟩
  · exact runs_of_gate (take := fun s => s.takeResetEngine tag) rfl takes
  · refine ⟨runs_of_gate_resetting (take := fun s => s.takeIdent tag) rfl resetting,
      runs_of_gate_resetting (take := fun s => s.takeLoad t tag) rfl resetting,
      runs_of_gate_resetting (take := fun s => s.takeCancel tag) rfl resetting, ?_, ?_⟩
    · exact congrArg State.answer (handle_of_resetting b resetting)
    · exact congrArg State.answer (if_pos resetting)
  · exact congrArg State.answer (frameEnd_of_resetDone sens resetting lane rfl)

/-! ## MEDIA (O11) -/

/-- The twenty locations in location order (R1). -/
theorem locations_in_order :
    ((List.range 20).map Loc.ofCode) = ((List.finRange 16).map fun i => some (.slot i)) ++
      [some .mail, some (.bay .tc0), some (.bay .tc1), some .hand] := by
  decide

/-- All twenty records, in location order (R183). -/
theorem mediaResult_of_all (s : State) {loc : Byte} (all : loc = 0xFF) :
    s.mediaResult loc = some (20 :: ((List.finRange 16).map fun i => s.mediaRecord (.slot i)).flatten ++
      s.mediaRecord .mail ++ s.mediaRecord (.bay .tc0) ++ s.mediaRecord (.bay .tc1) ++ s.mediaRecord .hand) := by
  unfold State.mediaResult
  rw [if_pos all]
  refine congrArg (fun bs => some (20 :: bs)) ?_
  have by_location : ∀ ns : List Nat,
      (ns.map fun n => ((Loc.ofCode n).map s.mediaRecord).getD []) =
        (ns.map Loc.ofCode).map fun o => (o.map s.mediaRecord).getD [] := fun ns => by rw [List.map_map]; rfl
  refine Eq.trans (congrArg List.flatten (List.map_congr_left
    (g := fun n => ((Loc.ofCode n).map s.mediaRecord).getD []) fun n _ => ?_)) ?_
  · split <;> next h => rw [h]; rfl
  · rw [by_location, locations_in_order]
    simp [Function.comp_def]

theorem ofCode_none {n : Nat} (h : 19 < n) : Loc.ofCode n = none := by
  unfold Loc.ofCode
  rw [dif_neg (by omega), if_neg (by omega), if_neg (by omega), if_neg (by omega), if_neg (by omega)]

theorem ofCode_some {n : Nat} {l : Loc} (h : Loc.ofCode n = some l) : n ≤ 19 := by
  refine Nat.le_of_not_lt fun above => ?_
  rw [ofCode_none above] at h
  cases h

@[simp] theorem beBytes_length (n v : Nat) : (beBytes n v).length = n := by
  induction n with
  | zero => rfl
  | succ n ih => simp [beBytes, ih]

@[simp] theorem optField_length (size : Nat) (v : Option Nat) : (optField size v).length = size + 1 := by
  cases v <;> simp [optField]

theorem beBytes_zero (n : Nat) : beBytes n 0 = List.replicate n 0 := by
  induction n with
  | zero => rfl
  | succ n ih => rw [beBytes, ih, List.replicate_succ, Nat.zero_div]; rfl

@[simp] theorem eodBytes_length (e : Eod) : (eodBytes e).length = 13 := by
  cases e <;> simp [eodBytes]

theorem noteState_byte (n : NoteState) :
    BitVec.ofNat 8 n.code = match n with | .unread => 1 | .valid => 2 | .damaged => 3 | .invalid => 4 | .missing => 5 := by
  cases n <;> rfl

/-- What a bay's next frame to write is, where the record is OPEN and the transport's position is known (R15, R113). -/
theorem nextPlace_eq {c : Tc} {p : Nat}
    (h : (c.pos = some p ∧ ∀ w f, c.job = some (.write w) → w.inProgress ≠ some f) ∨
      ∃ w f q, c.job = some (.write w) ∧ w.inProgress = some f ∧ c.pos = some q ∧ p = q + 1) : c.nextPlace = some p := by
  unfold Tc.nextPlace
  obtain ⟨pos, idle⟩ | ⟨w, f, q, job, busy, pos, rfl⟩ := h
  · split
    · next w job =>
      have none_written : w.inProgress = none := Option.eq_none_iff_forall_ne_some.mpr fun f => idle w f job
      simp [none_written, pos]
    · exact pos
  · simp [job, busy, pos]

theorem estimate_of_absent {s : State} {r : CartRecord} (h : r.cls = none ∨ r.eod = .unknown) : s.estimate r = none := by
  unfold State.estimate State.nextToWrite
  obtain h | h := h
  · rw [h]
  · rw [h]
    cases r.cls <;> rfl

theorem estimate_eq {s : State} {r : CartRecord} {c : CartClass} {p : Nat} (cls : r.cls = some c)
    (next : s.nextToWrite r = some p) : s.estimate r = some (estimateOf c p r.rawTotal r.codedTotal) := by
  unfold State.estimate
  rw [cls, next]

/-- MEDIA of one location answers its record and its map (R183). -/
theorem mediaResult_of_location (s : State) {loc : Byte} {l : Loc} (h : Loc.ofCode loc.toNat = some l) :
    s.mediaResult loc = some (1 :: s.mediaRecord l ++ s.mediaMap l) := by
  have one : loc ≠ 0xFF := fun all => absurd (ofCode_some h) (by rw [all]; decide)
  unfold State.mediaResult
  rw [if_neg one, h]

theorem mediaResult_of_none (s : State) {loc : Byte} (above : 19 < loc.toNat) (one : loc ≠ 0xFF) :
    s.mediaResult loc = none := by
  unfold State.mediaResult
  rw [if_neg one, ofCode_none above]

theorem takeMedia_some {s : State} (tag : Byte) {loc : Byte} {bytes : List Byte} (h : s.mediaResult loc = some bytes) :
    s.takeMedia tag loc = replied s .engine tag 0x03 (.done bytes) := by
  unfold State.takeMedia
  rw [h]
  rfl

theorem takeMedia_none {s : State} (tag : Byte) {loc : Byte} (h : s.mediaResult loc = none) :
    s.takeMedia tag loc = replied s .engine tag 0x03 (.refused .range) := by
  unfold State.takeMedia
  rw [h]
  rfl

theorem runs_media {s : State} {tag loc : Byte} (takes : Takes s) : Runs (.media tag loc) s (s.takeMedia tag loc) :=
  runs_of_gate (take := fun s => s.takeMedia tag loc) rfl takes

/-- The fields of a record's 64 bytes, in the order of R183's table. -/
theorem mediaRecord_of_some {s : State} {l : Loc} {r : CartRecord} (h : s.mtb.get l = some r) :
    s.mediaRecord l =
      [l.code, 1, (match r.presence with | .present => 1 | .unknown => 2), BitVec.ofNat 8 r.noteState.code] ++
      (match r.label with
        | some lb => lb.chars ++ [match lb.source with | .note => (1 : Byte) | .tape => 2]
        | none => List.replicate 13 0) ++
      [flagByte r.duplicate, flagByte r.mismatch,
        (match r.cls with | none => 0 | some c => CartClass.byte c),
        (match r.protect with | none => 0 | some .set => 1 | some .clear => 2)] ++
      beBytes 2 r.loadCount ++ eodBytes r.eod ++ [BitVec.ofNat 8 r.map.length] ++
      beBytes 8 r.rawTotal ++ beBytes 8 r.codedTotal ++ [flagByte r.dirty, bindingByte r.binding] ++
      optField 8 (s.estimate r) := by
  unfold State.mediaRecord
  rw [h] <;> rfl

theorem mediaRecord_length {s : State} {l : Loc} {r : CartRecord} (h : s.mtb.get l = some r)
    (labelled : ∀ b, r.label = some b → b.chars.length = 12) : (s.mediaRecord l).length = 64 := by
  rw [mediaRecord_of_some h]
  cases hl : r.label with
  | none => simp
  | some b => simp [labelled b hl]

/-- The map of a location's record, entry by entry (R183). -/
theorem mediaMap_eq (s : State) (l : Loc) :
    s.mediaMap l =
      match s.mtb.get l with
      | some r => (r.map.map fun e => beBytes 4 e.addr ++ beBytes 4 e.frame).flatten
      | none => [] := by
  unfold State.mediaMap
  cases s.mtb.get l <;> rfl

theorem congr_both {α β γ : Type} (f : α → β → γ) {a a' : α} {b b' : β} (ha : a = a') (hb : b = b') :
    f a b = f a' b' := congr (congrArg f ha) hb

/-- Settles O11: MEDIA answers by its operand, and a record's bytes are its fields in the order of R183's table. -/
theorem mediaReportsTheTable : Obligations.MediaReportsTheTable := by
  unfold Obligations.MediaReportsTheTable
  refine ⟨fun s tag loc takes => ⟨fun l code => ?_, fun all => ?_, fun above one => ?_⟩, fun s l => ⟨fun empty => ?_, fun r h => ?_⟩⟩
  · have ran := runs_media (tag := tag) (loc := loc) takes
    rw [takeMedia_some tag (mediaResult_of_location s code), mediaMap_eq] at ran
    exact ran
  · have ran := runs_media (tag := tag) (loc := loc) takes
    rw [takeMedia_some tag (mediaResult_of_all s all)] at ran
    exact ran
  · have ran := runs_media (tag := tag) (loc := loc) takes
    rw [takeMedia_none tag (mediaResult_of_none s above one)] at ran
    exact ran
  · unfold State.mediaRecord
    rw [empty]
  · refine ⟨?_, mediaRecord_length h, estimate_of_absent, fun c p usable cls next hu => ?_⟩
    · rw [mediaRecord_of_some h]
      refine congr_both (· ++ ·) (congr_both (· ++ ·) (congrArg (· ++ _) (congrArg (· ++ _) (congrArg (· ++ _)
        (congr_both (· ++ ·) (congrArg (· ++ _) (congr_both (· ++ ·) (congr_both (· ++ ·) ?_ ?_) ?_)) ?_)))) ?_) ?_
      · cases r.presence <;> cases r.noteState <;> rfl
      · rcases r.label with - | ⟨chars, - | -⟩ <;> rfl
      · rcases r.cls with - | ⟨- | -⟩ <;> rcases r.protect with - | ⟨- | -⟩ <;> rfl
      · cases r.eod <;> rfl
      · rcases r.binding with - | ⟨- | -⟩ <;> rfl
      · cases s.estimate r <;> rfl
    · have place : s.nextToWrite r = some p := by
        unfold State.nextToWrite
        obtain ⟨a, n, known⟩ | ⟨t, opened, bound, at_⟩ := next
        · rw [known]
        · rw [opened, bound]
          exact nextPlace_eq at_
      rw [estimate_eq cls place, hu]
      cases c <;> rfl

end Sys2Proof.Proofs
end

section
/-! PROOFS. Bytes and fields, the encodings of requests (R173), of link frames (R170, R171) and of tape frames (R73 to
R78). -/

open Sys2Proof Sys2Proof.Machine Sys2Proof.Claims

namespace Sys2Proof.Proofs

-- One declaration at a time: elaborated in parallel, the joined text needs more threads than the memory limit holds.
set_option Elab.async false

/-! ## Number fields -/

theorem beNat_foldl (bs : List Byte) (n : Nat) :
    bs.foldl (fun acc b => 256 * acc + b.toNat) n = n * 256 ^ bs.length + beNat bs := by
  induction bs generalizing n with
  | nil => simp [beNat]
  | cons b bs ih =>
    have first : beNat (b :: bs) = b.toNat * 256 ^ bs.length + beNat bs := by
      rw [← ih]
      simp [beNat]
    rw [List.foldl_cons, ih, first, List.length_cons, Nat.add_mul, Nat.pow_succ', Nat.mul_comm 256 n, Nat.mul_assoc, Nat.add_assoc]

theorem beNat_cons (b : Byte) (bs : List Byte) : beNat (b :: bs) = b.toNat * 256 ^ bs.length + beNat bs := by
  rw [← beNat_foldl]
  simp [beNat]

/-- A field of n bytes gives its number modulo 256 ^ n (00_scope.md, Byte order). -/
theorem beNat_beBytes_mod (n v : Nat) : beNat (beBytes n v) = v % 256 ^ n := by
  induction n with
  | zero => simp [beBytes, beNat, Nat.mod_one]
  | succ n ih =>
    have top : (BitVec.ofNat 8 (v / 256 ^ n)).toNat = v / 256 ^ n % 256 := by simp
    rw [beBytes, beNat_cons, ih, beBytes_length, top, Nat.pow_succ, Nat.mod_mul, Nat.mul_comm, Nat.add_comm]

/-- A number that fits its field is the number that the field gives. -/
theorem beNat_beBytes {n v : Nat} (h : v < 256 ^ n) : beNat (beBytes n v) = v := by
  rw [beNat_beBytes_mod, Nat.mod_eq_of_lt h]

theorem beBytes_eq_number (n v : Nat) : beBytes n v = number n v := by
  induction n with
  | zero => rfl
  | succ n ih =>
    rw [beBytes, ih]
    unfold number
    rw [List.range_succ_eq_map, List.map_cons, List.map_map]
    refine congr_both List.cons (by simp) (List.map_congr_left fun k _ => ?_)
    simp [Nat.sub_sub, Nat.add_comm]

theorem beNat_singleton (b : Byte) : beNat [b] = b.toNat := by simp [beNat]

/-- The four bytes of a word, put together again (R173). -/
theorem word4_wordBytes (w : Word) :
    word4 (w.extractLsb' 24 8) (w.extractLsb' 16 8) (w.extractLsb' 8 8) (w.extractLsb' 0 8) = w := by
  unfold word4
  ext i hi
  simp only [BitVec.getElem_append, BitVec.getElem_extractLsb']
  have bit : ∀ k, k = i → w.getLsbD k = w[i] := fun k hk => hk ▸ BitVec.getLsbD_eq_getElem _
  split
  · exact bit _ (by omega)
  · split
    · exact bit _ (by omega)
    · split
      · exact bit _ (by omega)
      · exact bit _ (by omega)

theorem half2_halfBytes (h : Half) : half2 (h.extractLsb' 8 8) (h.extractLsb' 0 8) = h := by
  unfold half2
  ext i hi
  simp only [BitVec.getElem_append, BitVec.getElem_extractLsb']
  split
  all_goals
    rw [← BitVec.getLsbD_eq_getElem]
    congr 1
    omega

/-! ## Requests (O40) -/

theorem decodeVerify_fields (a : Word) (range : VerifyRange) (mode : VerifyMode) (policy : FaultPolicy) :
    decodeVerify (Request.verify a range mode policy).fields = some (.verify a range mode policy) := by
  have address := word4_wordBytes a
  cases range with
  | toEod => cases mode <;> cases policy <;> exact congrArg (fun a => some (Request.verify a _ _ _)) address
  | count n =>
    have count := word4_wordBytes n
    cases mode <;> cases policy <;>
      exact congr_both (fun a n => some (Request.verify a (.count n) _ _)) address count

theorem decodeRestore_fields (start : RestoreStart) (offset : Word) (stop : RestoreEnd) :
    decodeRestore (Request.restore start offset stop).fields = some (.restore start offset stop) := by
  have skip := word4_wordBytes offset
  cases start with
  | address a =>
    have address := word4_wordBytes a
    cases stop with
    | count n =>
      have count := word4_wordBytes n
      exact Eq.trans (congr_both (fun a o => some (Request.restore (.address a) o (.count _))) address skip)
        (congrArg (fun n => some (Request.restore _ _ (.count n))) count)
    | toMark => exact congr_both (fun a o => some (Request.restore (.address a) o _)) address skip
    | toEod => exact congr_both (fun a o => some (Request.restore (.address a) o _)) address skip
  | file f =>
    have file := word4_wordBytes f
    cases stop with
    | count n =>
      have count := word4_wordBytes n
      exact Eq.trans (congr_both (fun a o => some (Request.restore (.file a) o (.count _))) file skip)
        (congrArg (fun n => some (Request.restore _ _ (.count n))) count)
    | toMark => exact congr_both (fun a o => some (Request.restore (.file a) o _)) file skip
    | toEod => exact congr_both (fun a o => some (Request.restore (.file a) o _)) file skip

/-- The fields of a request decode to it, code by code (R173). -/
theorem decodeFields_fields {r : Request} (wf : r.wf = true) : decodeFields r.code.toNat r.fields = some r := by
  cases r with
  | status c => cases c <;> rfl
  | move src dst auto tag =>
    have whole : decodeMove (Request.move src dst auto tag).fields =
        some (.move src dst auto (half2 (tag.extractLsb' 8 8) (tag.extractLsb' 0 8))) := by
      cases auto <;> rfl
    rw [half2_halfBytes] at whole
    exact whole
  | label cs =>
    have twelve : cs.length = 12 := by simpa [Request.wf] using wf
    exact if_pos twelve
  | write mode limit =>
    cases mode with
    | append => rfl
    | fromFile f =>
      have whole : decodeWrite (Request.write (.fromFile f) limit).fields = some (.write (.fromFile (word4
          (f.extractLsb' 24 8) (f.extractLsb' 16 8) (f.extractLsb' 8 8) (f.extractLsb' 0 8))) limit) := rfl
      rw [word4_wordBytes] at whole
      exact whole
  | verify a range mode policy => exact decodeVerify_fields a range mode policy
  | restore start offset stop => exact decodeRestore_fields start offset stop
  | abort mode => cases mode <;> rfl
  | setGovernor g => rfl
  | watch w =>
    cases w with
    | off => rfl
    | marks => rfl
    | address a =>
      have whole : decodeWatch (Request.watch (.address a)).fields = some (.watch (.address (word4
          (a.extractLsb' 24 8) (a.extractLsb' 16 8) (a.extractLsb' 8 8) (a.extractLsb' 0 8)))) := rfl
      rw [word4_wordBytes] at whole
      exact whole
  | _ => rfl

/-- Settles O40: the channel takes the code, and the fields decode. -/
theorem requestsDecodeFromTheirEncodings : Obligations.RequestsDecodeFromTheirEncodings := by
  unfold Obligations.RequestsDecodeFromTheirEncodings
  intro ch r wf onChan
  have known : decodeRequest ch (encodeRequest r) =
      match decodeFields r.code.toNat r.fields with
      | some r => .ok r
      | none => .error .format := if_pos onChan
  rw [known, decodeFields_fields wf]

/-! ## The receiver (O41, O46) -/

theorem take_beBytes (n v : Nat) (rest : List Byte) : (beBytes n v ++ rest).take n = beBytes n v := by
  rw [List.take_left' (beBytes_length n v)]

theorem drop_beBytes (n v : Nat) (rest : List Byte) : (beBytes n v ++ rest).drop n = rest := by
  rw [List.drop_left' (beBytes_length n v)]

theorem chanOf_chanCode (ch : Chan) : chanOf (chanCode ch) = some ch := by
  rcases ch with - | - | ⟨- | -⟩ <;> rfl

/-- The length field stands in bytes 5 and 6 after the sync byte (R170). -/
theorem lengthOf_eq (kind chan tag flags hi lo : Byte) (rest : List Byte) :
    lengthOf (kind :: chan :: tag :: flags :: hi :: lo :: rest) = 256 * hi.toNat + lo.toNat := by
  simp [lengthOf, beNat]

/-- At a frame boundary or while hunting, a sync byte opens a frame (R171). -/
theorem rxByte_sync {l : Lnk} (h : l.rx = .boundary ∨ l.rx = .hunting) :
    l.rxByte 0xC5 = { l with rx := .inFrame [] } := by
  unfold Lnk.rxByte
  obtain h | h := h <;> rw [h] <;> rfl

/-- Inside a frame a byte that neither completes it nor shows a length that is too great joins the bytes taken (R171). -/
theorem rxByte_inFrame (l : Lnk) {have_ : List Byte} {b : Byte}
    (h : (have_ ++ [b]).length < 6 ∨ (lengthOf (have_ ++ [b]) ≤ 4096 ∧ (have_ ++ [b]).length < 8 + lengthOf (have_ ++ [b]))) :
    ({ l with rx := .inFrame have_ } : Lnk).rxByte b = { l with rx := .inFrame (have_ ++ [b]) } := by
  unfold Lnk.rxByte
  dsimp only
  obtain h | ⟨fits, more⟩ := h
  · rw [if_pos h]
  · by_cases early : (have_ ++ [b]).length < 6
    · rw [if_pos early]
    · rw [if_neg early, if_neg fun long => absurd long.2 (Nat.not_lt.mpr fits), if_pos more]

/-- The first six bytes of a frame are its header (R170). -/
theorem rxByte_header (l : Lnk) (h : l.rx = .boundary ∨ l.rx = .hunting) (kind chan tag flags hi : Byte) :
    [0xC5, kind, chan, tag, flags, hi].foldl Lnk.rxByte l = { l with rx := .inFrame [kind, chan, tag, flags, hi] } := by
  simp only [List.foldl_cons, List.foldl_nil]
  rw [rxByte_sync h, rxByte_inFrame l (.inl (by simp)), rxByte_inFrame l (.inl (by simp)), rxByte_inFrame l (.inl (by simp)),
    rxByte_inFrame l (.inl (by simp)), rxByte_inFrame l (.inl (by simp))]
  rfl

/-- Bytes behind the header are taken until the frame is whole (R171). -/
theorem foldl_rxByte_payload (l : Lnk) {kind chan tag flags hi lo : Byte} (fits : 256 * hi.toNat + lo.toNat ≤ 4096)
    (rest taken : List Byte) (short : taken.length + rest.length < 2 + (256 * hi.toNat + lo.toNat)) :
    rest.foldl Lnk.rxByte { l with rx := .inFrame (kind :: chan :: tag :: flags :: hi :: lo :: taken) } =
      { l with rx := .inFrame (kind :: chan :: tag :: flags :: hi :: lo :: (taken ++ rest)) } := by
  induction rest generalizing taken with
  | nil => simp
  | cons b rest ih =>
    rw [List.length_cons] at short
    have joins : ({ l with rx := .inFrame (kind :: chan :: tag :: flags :: hi :: lo :: taken) } : Lnk).rxByte b =
        { l with rx := .inFrame (kind :: chan :: tag :: flags :: hi :: lo :: (taken ++ [b])) } := by
      refine rxByte_inFrame l (.inr ?_)
      simp only [List.cons_append, lengthOf_eq, List.length_cons, List.length_append, List.length_nil]
      omega
    rw [List.foldl_cons, joins, ih _ (by simp; omega)]
    simp

/-- The test of a whole frame does not depend on the bytes taken before it (R171). -/
theorem wholeFrame_rx (l : Lnk) (rx : Receiver) (bs : List Byte) (len : Nat) :
    ({ l with rx } : Lnk).wholeFrame bs len = l.wholeFrame bs len := by
  unfold Lnk.wholeFrame Lnk.buffer Lnk.linkError
  split
  · split <;> rfl
  · rfl

/-- The bytes of a whole frame of a length that fits are tested as one frame (R171). -/
theorem foldl_rxByte_frame {l : Lnk} (h : l.rx = .boundary ∨ l.rx = .hunting) (kind chan tag flags hi lo : Byte)
    (rest : List Byte) (fits : 256 * hi.toNat + lo.toNat ≤ 4096) (whole : rest.length = 2 + (256 * hi.toNat + lo.toNat)) :
    (0xC5 :: kind :: chan :: tag :: flags :: hi :: lo :: rest).foldl Lnk.rxByte l =
      l.wholeFrame (kind :: chan :: tag :: flags :: hi :: lo :: rest) (256 * hi.toNat + lo.toNat) := by
  obtain ⟨init, last, rfl⟩ : ∃ init last, rest = init ++ [last] :=
    ⟨_, _, (List.dropLast_concat_getLast (List.ne_nil_of_length_pos (by omega))).symm⟩
  have header := rxByte_header l h kind chan tag flags hi
  have length : ({ l with rx := .inFrame [kind, chan, tag, flags, hi] } : Lnk).rxByte lo =
      { l with rx := .inFrame [kind, chan, tag, flags, hi, lo] } := by
    refine rxByte_inFrame l (.inr ?_)
    simp only [List.cons_append, List.nil_append, lengthOf_eq, List.length_cons, List.length_nil]
    omega
  simp only [List.length_append, List.length_cons, List.length_nil] at whole
  have payload := foldl_rxByte_payload l (kind := kind) (chan := chan) (tag := tag) (flags := flags) fits init [] (by simp; omega)
  have split_bytes : (0xC5 :: kind :: chan :: tag :: flags :: hi :: lo :: (init ++ [last])) =
      [0xC5, kind, chan, tag, flags, hi] ++ (lo :: (init ++ [last])) := rfl
  rw [split_bytes, List.foldl_append, header, List.foldl_cons, length, List.foldl_append, payload]
  simp only [List.foldl_cons, List.foldl_nil, List.nil_append]
  unfold Lnk.rxByte
  simp only [List.cons_append, lengthOf_eq]
  rw [if_neg (by simp), if_neg (by rintro ⟨-, hbad⟩; unfold Config.chunkBytes at hbad; omega),
    if_neg (by simp; omega), wholeFrame_rx]

/-- A length above 4096 is a link error at the length field (R171). -/
theorem foldl_rxByte_too_long {l : Lnk} (h : l.rx = .boundary ∨ l.rx = .hunting) (kind chan tag flags hi lo : Byte)
    (long : 4096 < 256 * hi.toNat + lo.toNat) :
    [0xC5, kind, chan, tag, flags, hi, lo].foldl Lnk.rxByte l = { l.linkError with rx := .hunting } := by
  have header := rxByte_header l h kind chan tag flags hi
  have split_bytes : [0xC5, kind, chan, tag, flags, hi, lo] = [0xC5, kind, chan, tag, flags, hi] ++ [lo] := rfl
  rw [split_bytes, List.foldl_append, header, List.foldl_cons, List.foldl_nil]
  unfold Lnk.rxByte
  simp only [List.cons_append, List.nil_append, lengthOf_eq]
  rw [if_neg (by simp), if_pos ⟨rfl, long⟩]
  rfl

/-- Bytes other than the sync byte are passed over while hunting (R171). -/
theorem foldl_rxByte_noise {l : Lnk} (h : l.rx = .hunting) {bs : List Byte} (noise : ∀ b ∈ bs, b ≠ 0xC5) :
    bs.foldl Lnk.rxByte l = l := by
  induction bs with
  | nil => rfl
  | cons b bs ih =>
    have passed : l.rxByte b = l := by
      unfold Lnk.rxByte
      rw [h]
      exact if_neg (noise b (List.mem_cons_self ..))
    rw [List.foldl_cons, passed, ih fun b hb => noise b (List.mem_cons_of_mem _ hb)]

/-- A length field gives its number (R170). -/
theorem length_field (v : Nat) (h : v < 65536) :
    256 * (BitVec.ofNat 8 (v / 256)).toNat + (BitVec.ofNat 8 v).toNat = v := by
  simp
  omega

/-- What bytes 1 to the check of a whole frame spell (R170, R171). -/
theorem inFrameOf_eq (kind chan tag flags : Byte) (payload : List Byte) (check : List Byte) :
    inFrameOf (linkBody kind chan tag flags payload ++ check) payload.length =
      match chanOf chan with
      | none => none
      | some ch =>
        if beNat check = (crc16 (linkBody kind chan tag flags payload)).toNat ∧
            (kind = 1 ∨ (kind = 4 ∧ (match ch with | .transport _ => true | _ => false) = true)) then
          some { dataIn := decide (kind = 4), chan := ch, tag, payload }
        else none := by
  have length : (linkBody kind chan tag flags payload).length = 6 + payload.length := by simp [linkBody]; omega
  have body : (linkBody kind chan tag flags payload ++ check).take (6 + payload.length) = linkBody kind chan tag flags payload :=
    List.take_left' length
  have rest : (linkBody kind chan tag flags payload ++ check).drop (6 + payload.length) = check := List.drop_left' length
  have content : (linkBody kind chan tag flags payload).drop 6 = payload := by simp [linkBody, beBytes]
  unfold inFrameOf
  rw [body, rest]
  dsimp only
  rw [content]
  have first : (linkBody kind chan tag flags payload ++ check).getD 0 0 = kind := rfl
  have second : (linkBody kind chan tag flags payload ++ check).getD 1 0 = chan := rfl
  have third : (linkBody kind chan tag flags payload ++ check).getD 2 0 = tag := rfl
  rw [first, second, third] <;> rcases chanOf chan with - | ⟨- | - | t⟩ <;> rfl

theorem receive_eq (s : State) (bytes : List Byte) :
    s.receive bytes = { s with lnk := bytes.foldl Lnk.rxByte s.lnk } := rfl

/-- The bytes of a whole link frame, at a frame boundary or while hunting, are tested as one frame (R170, R171). -/
theorem receive_frame {s : State} (h : s.lnk.rx = .boundary ∨ s.lnk.rx = .hunting) (kind chan tag flags : Byte)
    (payload check : List Byte) (fits : payload.length ≤ 4096) (two : check.length = 2) :
    s.receive (0xC5 :: linkBody kind chan tag flags payload ++ check) =
      { s with lnk := s.lnk.wholeFrame (linkBody kind chan tag flags payload ++ check) payload.length } := by
  have frame := foldl_rxByte_frame h kind chan tag flags (BitVec.ofNat 8 (payload.length / 256))
    (BitVec.ofNat 8 payload.length) (payload ++ check)
  rw [length_field _ (by omega)] at frame
  have bytes : 0xC5 :: linkBody kind chan tag flags payload ++ check =
      0xC5 :: kind :: chan :: tag :: flags :: BitVec.ofNat 8 (payload.length / 256) :: BitVec.ofNat 8 payload.length ::
        (payload ++ check) := by
    simp [linkBody, beBytes]
  have taken := frame fits (by simp; omega)
  rw [← bytes] at taken
  rw [receive_eq, taken]
  simp [linkBody, beBytes]

theorem crc16_fits (bs : List Byte) : (crc16 bs).toNat < 256 ^ 2 := by
  have := (crc16 bs).isLt
  omega

/-- A frame that passes its tests joins the inbound buffer; the receiver stands at a frame boundary (R169, R171). -/
theorem receive_inFrame {s : State} {f : InFrame} (h : s.lnk.rx = .boundary ∨ s.lnk.rx = .hunting)
    (fits : f.payload.length ≤ 4096) (routed : f.dataIn = true → ∃ t, f.chan = .transport t) :
    s.receive (encodeInFrame f) = { s with lnk := { s.lnk.buffer f with rx := .boundary } } := by
  have frame := receive_frame h (if f.dataIn then 4 else 1) (chanCode f.chan) f.tag 0 f.payload
    (beBytes 2 (crc16 (linkBody (if f.dataIn then 4 else 1) (chanCode f.chan) f.tag 0 f.payload)).toNat) fits (by simp)
  refine frame.trans (congrArg (fun l => { s with lnk := l }) ?_)
  have spelled : inFrameOf (linkBody (if f.dataIn then 4 else 1) (chanCode f.chan) f.tag 0 f.payload ++
      beBytes 2 (crc16 (linkBody (if f.dataIn then 4 else 1) (chanCode f.chan) f.tag 0 f.payload)).toNat)
      f.payload.length = some f := by
    rw [inFrameOf_eq, chanOf_chanCode, beNat_beBytes (crc16_fits _)]
    obtain ⟨dataIn, chan, tag, payload⟩ := f
    cases dataIn with
    | false => simp
    | true =>
      obtain ⟨t, rfl⟩ := routed rfl
      simp
  unfold Lnk.wholeFrame
  rw [spelled]

theorem buffer_of_room {l : Lnk} (f : InFrame) (room : l.inbound.length < 2) :
    l.buffer f =
      { l with inbound := l.inbound ++ [f], inboundHold := l.inboundHold || decide (l.inbound.length = 1) } := by
  have last : decide (Config.inboundMax ≤ l.inbound.length + 1) = decide (l.inbound.length = 1) := by
    unfold Config.inboundMax
    exact decide_eq_decide.mpr (by omega)
  have space : ¬Config.inboundMax ≤ l.inbound.length := Nat.not_le.mpr room
  unfold Lnk.buffer
  rw [if_neg space, last]

theorem buffer_of_full {l : Lnk} (f : InFrame) (full : 2 ≤ l.inbound.length) : l.buffer f = l.linkError := if_pos full

/-- Settles O41: the frame passes its tests, and the buffer has room for it or has not. -/
theorem receiverTakesWholeFrames : Obligations.ReceiverTakesWholeFrames := by
  unfold Obligations.ReceiverTakesWholeFrames
  intro s f fits routed rx
  have taken := receive_inFrame rx fits routed
  refine ⟨fun room => congrArg State.answer (taken.trans ?_), fun full => congrArg State.answer (taken.trans ?_)⟩
  · rw [buffer_of_room f room]
  · rw [buffer_of_full f full]
    rfl

theorem chanOf_none {b : Byte} (h : 3 < b.toNat) : chanOf b = none := by
  have apart : ∀ c : Byte, c.toNat ≤ 3 → b ≠ c := fun c hc e => by rw [e] at h; omega
  unfold chanOf
  rw [if_neg (apart 0 (by decide)), if_neg (apart 1 (by decide)), if_neg (apart 2 (by decide)), if_neg (apart 3 (by decide))]

/-- A channel of a transport has a number of 2 or 3 (R170). -/
theorem chanOf_transport {b : Byte} {t : Tr} (h : chanOf b = some (.transport t)) : 2 ≤ b.toNat := by
  unfold chanOf at h
  split at h
  · cases h
  · split at h
    · cases h
    · split at h
      · next e => rw [e]; decide
      · split at h
        · next e => rw [e]; decide
        · cases h

/-- A frame with a bad check, a kind that is no inbound one, a channel above 3 or a DATA_IN on channel 0 or 1 is faulty
(R171). -/
theorem inFrameOf_faulty {kind chan tag flags : Byte} {payload : List Byte} {check : Nat} (small : check < 65536)
    (h : check ≠ (crc16 (linkBody kind chan tag flags payload)).toNat ∨ (kind ≠ 1 ∧ kind ≠ 4) ∨ 3 < chan.toNat ∨
      (kind = 4 ∧ chan.toNat < 2)) :
    inFrameOf (linkBody kind chan tag flags payload ++ beBytes 2 check) payload.length = none := by
  rw [inFrameOf_eq, beNat_beBytes (by omega)]
  split
  · rfl
  · next ch known =>
    refine if_neg ?_
    rintro ⟨good, inbound⟩
    obtain h | ⟨h1, h4⟩ | h | ⟨h, low⟩ := h
    · exact h good
    · exact inbound.elim h1 fun h => h4 h.1
    · rw [chanOf_none h] at known
      cases known
    · obtain one | ⟨-, routed⟩ := inbound
      · rw [h] at one
        exact absurd one (by decide)
      · split at routed
        · exact absurd (chanOf_transport known) (by omega)
        · cases routed

/-- Settles O46: the lines one by one, then what the receiver makes of noise, of a length that is too great, and of a
faulty frame. -/
theorem linkLinesAreFollowed : Obligations.LinkLinesAreFollowed := by
  unfold Obligations.LinkLinesAreFollowed
  intro s
  refine ⟨rfl, rfl, fun sens going => ?_, fun bs noise => ⟨fun hunting => ?_, fun b hb boundary => ?_⟩, fun rx => ⟨?_, ?_⟩⟩
  · refine congrArg State.answer ?_
    unfold State.frameEnd
    cases lane : s.lnk.lane with
    | none => simp [← lane]
    | some f => simp [going, State.modLnk]
  · refine congrArg State.answer ?_
    rw [receive_eq, foldl_rxByte_noise hunting noise]
  · refine congrArg State.answer ?_
    have lost : s.lnk.rxByte b = { s.lnk.linkError with rx := .hunting } := by
      unfold Lnk.rxByte
      rw [boundary]
      exact if_neg hb
    rw [receive_eq, List.foldl_cons, lost, foldl_rxByte_noise rfl noise]
    rfl
  · intro kind chan tag flags hi lo long
    refine congrArg State.answer ?_
    rw [receive_eq, foldl_rxByte_too_long rx kind chan tag flags hi lo long]
    rfl
  · rintro kind chan tag flags payload body check fits small rfl faulty
    refine congrArg State.answer ?_
    have taken := receive_frame rx kind chan tag flags payload (beBytes 2 check) fits (by simp)
    refine taken.trans ?_
    unfold Lnk.wholeFrame
    rw [inFrameOf_faulty small faulty]
    rfl

end Sys2Proof.Proofs
end

section
/-! PROOFS. Tape frames as written and read back (R73 to R78), and the image of a cartridge note (R16 to R21). -/

open Sys2Proof Sys2Proof.Machine Sys2Proof.Claims

namespace Sys2Proof.Proofs

-- One declaration at a time: elaborated in parallel, the joined text needs more threads than the memory limit holds.
set_option Elab.async false

/-! ## Fields of a run of bytes -/

/-- A field behind another one. -/
theorem field_skip {n start : Nat} (h : n ≤ start) (v size : Nat) (rest : List Byte) :
    field (beBytes n v ++ rest) start size = field rest (start - n) size := by
  unfold field
  rw [List.drop_append, beBytes_length, List.drop_eq_nil_of_le (by simpa using h), List.nil_append]

/-- A number that fits its field is read from it. -/
theorem field_head {n v : Nat} (h : v < 256 ^ n) (rest : List Byte) : field (beBytes n v ++ rest) 0 n = v := by
  unfold field
  rw [List.drop_zero, take_beBytes, beNat_beBytes h]

/-! ## Written frames (O43) -/

/-- The fields of a header fit their bytes (R73). -/
structure HeaderFits (h : Header) : Prop where
  kind : h.kind < 256
  pass : h.pass < 256
  frame : h.frame < 2 ^ 32
  addr : h.addr < 2 ^ 32
  file : h.file < 2 ^ 32
  rawLen : h.rawLen < 2 ^ 32
  payLen : h.payLen < 65536
  slices : h.slices < 256

theorem body_length (h : Header) : h.body.length = 25 := by simp [Header.body]

theorem bytes_length (h : Header) : h.bytes.length = 27 := by simp [Header.bytes, body_length]

theorem headerFields_bytes {h : Header} (fits : HeaderFits h) : headerFields h.bytes = h := by
  obtain ⟨kind, pass, frame, addr, file, rawLen, payLen, slices⟩ := fits
  have check : h.payCheck.toNat < 256 ^ 4 := h.payCheck.isLt
  unfold headerFields Header.bytes Header.body
  simp (disch := omega) only [List.append_assoc, field_skip, field_head, Nat.reduceSub, BitVec.ofNat_toNat,
    BitVec.setWidth_eq]

theorem headerGood_bytes (h : Header) : headerGood h.bytes = true := by
  have body : h.bytes.take 25 = h.body := List.take_left' (body_length h)
  have check : field h.bytes 25 2 = (crc16 h.body).toNat := by
    have rest : h.bytes.drop 25 = beBytes 2 (crc16 h.body).toNat := List.drop_left' (body_length h)
    rw [field, rest, List.take_of_length_le (by simp), beNat_beBytes (crc16_fits _)]
  simp [headerGood, bytes_length, body, check]

theorem kind_fits (k : FrameKind) : k.byte < 256 := by
  cases k <;> decide

/-- A frame as written reads back with its header, its payload and a good payload check (R76, R77). -/
theorem readFrame_bytes {h : Header} (fits : HeaderFits h) {payload : List Byte} (length : h.payLen = payload.length)
    (check : h.payCheck = crc32 payload) (rest : List Byte) :
    readFrame (.bytes h.bytes (payload ++ rest)) = some { hdr := h, payload := payload, payGood := true } := by
  have taken : (payload ++ rest).take h.payLen = payload := List.take_left' length.symm
  unfold readFrame
  dsimp only
  rw [if_pos (headerGood_bytes h), headerFields_bytes fits, taken]
  simp [length, check]

theorem mkHeader_fits {kind : FrameKind} {pass frame addr file rawLen slices : Nat} {payload : List Byte}
    (hpass : pass < 256) (hframe : frame < 2 ^ 32) (haddr : addr < 2 ^ 32) (hfile : file < 2 ^ 32) (hraw : rawLen < 2 ^ 32)
    (hslices : slices < 256) (hpayload : payload.length ≤ 32768) :
    HeaderFits (mkHeader kind pass frame addr file rawLen slices payload) :=
  ⟨kind_fits kind, hpass, hframe, haddr, hfile, hraw, by simp only [mkHeader]; omega, hslices⟩

/-- Other header bytes than those written are judged BAD (R78). -/
theorem judge_of_ne {h : Header} {hb : List Byte} (p : List Byte) (ne : hb ≠ h.bytes) : judge h (.bytes hb p) = false := by
  unfold judge
  dsimp only
  split
  · rfl
  · rw [decide_eq_false ne, Bool.false_and]

/-- Settles O43: the fields fit their bytes, so the header reads back, and the judgement compares it. -/
theorem writtenFramesReadBack : Obligations.WrittenFramesReadBack := by
  unfold Obligations.WrittenFramesReadBack
  rintro kind pass frame addr file rawLen slices payload rest hpass hframe haddr hfile hraw hslices hpayload h rfl
  have read := readFrame_bytes (mkHeader_fits (kind := kind) hpass hframe haddr hfile hraw hslices hpayload) rfl rfl rest
  refine ⟨bytes_length _, read, ?_, rfl, fun hb p ne => judge_of_ne p ne⟩
  unfold judge
  dsimp only
  rw [read]
  simp

/-! ## Note images (O42) -/

theorem noteField_add (img : List Byte) (pos k size : Nat) : noteField img (pos + k) size = field (img.drop pos) k size := by
  rw [noteField, field, List.drop_drop]

theorem noteByte_add (img : List Byte) (pos k : Nat) : noteByte img (pos + k) = ((img.drop pos).getD k 0).toNat := by
  simp [noteByte, List.getD_eq_getElem?_getD]

theorem noteByte_eq (img : List Byte) (pos : Nat) : noteByte img pos = ((img.drop pos).getD 0 0).toNat :=
  noteByte_add img pos 0

/-- The bytes of a map entry (R16). -/
def entryBytes (e : MapEntry) : List Byte := beBytes 4 e.addr ++ beBytes 4 e.frame

/-- An entry whose fields fit their bytes (R11). -/
def EntryFits (e : MapEntry) : Prop := e.addr ≤ Config.max32 ∧ e.frame ≤ Config.max32

theorem entryBytes_length (m : List MapEntry) : (m.map entryBytes).flatten.length = 8 * m.length := by
  induction m with
  | nil => rfl
  | cons e m ih => simp [ih, entryBytes]; omega

/-- The entries of a FILE MAP section are read back (R16). -/
theorem mapEntries_eq (img : List Byte) {m : List MapEntry} (fits : ∀ e ∈ m, EntryFits e) {start : Nat}
    {rest : List Byte} (at_ : img.drop start = (m.map entryBytes).flatten ++ rest) : mapEntries img start m.length = m := by
  induction m generalizing start with
  | nil => rfl
  | cons e m ih =>
    obtain ⟨addr, frame⟩ := fits e (List.mem_cons_self ..)
    unfold Config.max32 at addr frame
    have bytes : img.drop start = beBytes 4 e.addr ++ (beBytes 4 e.frame ++ ((m.map entryBytes).flatten ++ rest)) := by
      simp [at_, entryBytes]
    have next : img.drop (start + 8) = (m.map entryBytes).flatten ++ rest := by
      rw [← List.drop_drop, bytes, ← List.append_assoc, List.drop_left' (by simp)]
    rw [List.length_cons, mapEntries, ih (fun e he => fits e (List.mem_cons_of_mem _ he)) next]
    refine congrArg (· :: m) ?_
    rw [noteField_add img start 4, ← Nat.add_zero start, noteField_add img start 0, Nat.add_zero, bytes]
    simp (disch := omega) only [field_skip, field_head, Nat.reduceSub]

/-- What an EOD section tells (R16). -/
def eodFound : Eod → Option (Nat × Nat × Nat)
  | .known a f n => some (a, f, n)
  | _ => none

/-- An end of data whose fields fit their bytes (R16). -/
def EodFits (e : Eod) : Prop := ∀ a f n, e = .known a f n → a ≤ Config.max32 ∧ f ≤ Config.max32 ∧ n ≤ Config.max32

/-- The walk goes on to a position, at the cost of at most one unit of its bound. -/
def WalksOn (img : List Byte) (fuel pos : Nat) (acc : Sections) (pos' : Nat) (acc' : Sections) : Prop :=
  ∃ fuel', fuel ≤ fuel' + 1 ∧ walkSections img fuel pos acc = walkSections img fuel' pos' acc'

theorem Sections.with_no_eod {acc : Sections} (h : acc.eod = none) : { acc with eod := none } = acc := by rw [← h]

theorem walk_eodSection {img : List Byte} {e : Eod} {pos fuel : Nat} {acc : Sections} {rest : List Byte} (fits : EodFits e)
    (at_ : img.drop pos = eodSection e ++ rest) (room : pos + 14 ≤ 2048) (first : acc.eod = none) (more : 0 < fuel) :
    WalksOn img fuel pos acc (pos + (eodSection e).length) { acc with eod := eodFound e } := by
  obtain ⟨fuel, rfl⟩ := Nat.exists_eq_succ_of_ne_zero (Nat.ne_of_gt more)
  cases e with
  | known a f n =>
    obtain ⟨ha, hf, hn⟩ := fits a f n rfl
    unfold Config.max32 at ha hf hn
    refine ⟨fuel, Nat.le_refl _, ?_⟩
    have bytes : img.drop pos = 1 :: 1 :: (beBytes 4 a ++ (beBytes 4 f ++ (beBytes 4 n ++ rest))) := by
      simp [at_, eodSection]
    have behind : img.drop (pos + 2) = beBytes 4 a ++ (beBytes 4 f ++ (beBytes 4 n ++ rest)) := by
      rw [← List.drop_drop, bytes]
      rfl
    have fields : noteField img (pos + 2) 4 = a ∧ noteField img (pos + 6) 4 = f ∧ noteField img (pos + 10) 4 = n := by
      have h0 := noteField_add img (pos + 2) 0 4
      have h4 := noteField_add img (pos + 2) 4 4
      have h8 := noteField_add img (pos + 2) 8 4
      rw [behind] at h0 h4 h8
      simp (disch := omega) only [field_skip, field_head, Nat.reduceSub] at h0 h4 h8
      exact ⟨h0, h4, h8⟩
    have kind : noteByte img pos = 1 := by rw [noteByte_eq, bytes]; rfl
    have count : noteByte img (pos + 1) = 1 := by rw [noteByte_add, bytes]; rfl
    have length : (eodSection (.known a f n)).length = 14 := by simp [eodSection]
    have inside : ¬Config.noteBytes ≤ pos := by unfold Config.noteBytes; omega
    rw [walkSections, if_neg inside, kind, length]
    refine (if_pos ⟨room, count, first⟩).trans ?_
    rw [fields.1, fields.2.1, fields.2.2]
    rfl
  | opened => exact ⟨_, Nat.le_succ _, congrArg (walkSections img _ pos) (Sections.with_no_eod first).symm⟩
  | unknown => exact ⟨_, Nat.le_succ _, congrArg (walkSections img _ pos) (Sections.with_no_eod first).symm⟩

theorem walk_mapSection {img : List Byte} {m : List MapEntry} {pos fuel : Nat} {acc : Sections} {rest : List Byte}
    (fits : ∀ e ∈ m, EntryFits e) (few : m.length ≤ 64) (at_ : img.drop pos = mapSection m ++ rest)
    (room : pos + 2 + 8 * m.length ≤ 2048) (more : 0 < fuel) :
    WalksOn img fuel pos acc (pos + (mapSection m).length) { acc with map := acc.map ++ m } := by
  obtain ⟨fuel, rfl⟩ := Nat.exists_eq_succ_of_ne_zero (Nat.ne_of_gt more)
  cases m with
  | nil => exact ⟨_, Nat.le_succ _, congrArg (walkSections img _ pos) (by rw [List.append_nil])⟩
  | cons e m =>
    refine ⟨fuel, Nat.le_refl _, ?_⟩
    have section_eq : mapSection (e :: m) = 2 :: BitVec.ofNat 8 (e :: m).length :: ((e :: m).map entryBytes).flatten := rfl
    have bytes : img.drop pos = 2 :: BitVec.ofNat 8 (e :: m).length :: (((e :: m).map entryBytes).flatten ++ rest) := by
      rw [at_, section_eq]
      rfl
    have behind : img.drop (pos + 2) = ((e :: m).map entryBytes).flatten ++ rest := by
      rw [← List.drop_drop, bytes]
      rfl
    have kind : noteByte img pos = 2 := by rw [noteByte_eq, bytes]; rfl
    have count : noteByte img (pos + 1) = (e :: m).length := by
      have small : (e :: m).length % 2 ^ 8 = (e :: m).length := Nat.mod_eq_of_lt (by omega)
      rw [noteByte_add, bytes]
      exact (BitVec.toNat_ofNat _ _).trans small
    have length : (mapSection (e :: m)).length = 2 + 8 * (e :: m).length := by
      rw [section_eq, List.length_cons, List.length_cons, entryBytes_length]
      omega
    have inside : ¬Config.noteBytes ≤ pos := by unfold Config.noteBytes; omega
    have fit : pos + 2 ≤ Config.noteBytes ∧ pos + 2 + 8 * (e :: m).length ≤ Config.noteBytes :=
      ⟨by unfold Config.noteBytes; omega, room⟩
    rw [walkSections, if_neg inside, kind, count, length, ← Nat.add_assoc]
    refine (if_pos fit).trans ?_
    rw [mapEntries_eq img fits behind]

theorem walk_totalsSection {img : List Byte} {r : CartRecord} {pos fuel : Nat} {acc : Sections} {rest : List Byte}
    (raw : r.rawTotal ≤ Config.max64) (coded : r.codedTotal ≤ Config.max64)
    (at_ : img.drop pos = totalsSection r ++ rest) (room : pos + 18 ≤ 2048) (first : acc.totals = none) (more : 0 < fuel) :
    WalksOn img fuel pos acc (pos + 18) { acc with totals := some (r.rawTotal, r.codedTotal) } := by
  obtain ⟨fuel, rfl⟩ := Nat.exists_eq_succ_of_ne_zero (Nat.ne_of_gt more)
  unfold Config.max64 at raw coded
  refine ⟨fuel, Nat.le_refl _, ?_⟩
  have bytes : img.drop pos = 3 :: 1 :: (beBytes 8 r.rawTotal ++ (beBytes 8 r.codedTotal ++ rest)) := by
    simp [at_, totalsSection]
  have behind : img.drop (pos + 2) = beBytes 8 r.rawTotal ++ (beBytes 8 r.codedTotal ++ rest) := by
    rw [← List.drop_drop, bytes]
    rfl
  have fields : noteField img (pos + 2) 8 = r.rawTotal ∧ noteField img (pos + 10) 8 = r.codedTotal := by
    have h0 := noteField_add img (pos + 2) 0 8
    have h8 := noteField_add img (pos + 2) 8 8
    rw [behind] at h0 h8
    simp (disch := omega) only [field_skip, field_head, Nat.reduceSub] at h0 h8
    exact ⟨h0, h8⟩
  have kind : noteByte img pos = 3 := by rw [noteByte_eq, bytes]; rfl
  have count : noteByte img (pos + 1) = 1 := by rw [noteByte_add, bytes]; rfl
  have inside : ¬Config.noteBytes ≤ pos := by unfold Config.noteBytes; omega
  rw [walkSections, if_neg inside, kind]
  refine (if_pos ⟨room, count, first⟩).trans ?_
  rw [fields.1, fields.2]

/-- The end-of-list byte ends the walk (R19). -/
theorem walk_end {img : List Byte} {pos fuel : Nat} {acc : Sections} {rest : List Byte} (at_ : img.drop pos = 0 :: rest)
    (room : pos < 2048) (more : 0 < fuel) : walkSections img fuel pos acc = some acc := by
  obtain ⟨fuel, rfl⟩ := Nat.exists_eq_succ_of_ne_zero (Nat.ne_of_gt more)
  have kind : noteByte img pos = 0 := by rw [noteByte_eq, at_]; rfl
  have inside : ¬Config.noteBytes ≤ pos := by unfold Config.noteBytes; omega
  rw [walkSections, if_neg inside, kind]
  rfl

theorem eodSection_length (e : Eod) : (eodSection e).length ≤ 14 := by
  cases e <;> simp [eodSection]

theorem mapSection_length (m : List MapEntry) : (mapSection m).length ≤ 2 + 8 * m.length := by
  cases m with
  | nil => simp [mapSection]
  | cons e m =>
    have := entryBytes_length (e :: m)
    have section_eq : mapSection (e :: m) = 2 :: BitVec.ofNat 8 (e :: m).length :: ((e :: m).map entryBytes).flatten := rfl
    rw [section_eq, List.length_cons, List.length_cons]
    omega

/-- The walk of the sections that R21 composes finds what they were made from (R19). -/
theorem walkSections_composed {img : List Byte} {r : CartRecord} {rest : List Byte}
    (at_ : img.drop 16 = eodSection r.eod ++ (mapSection r.map ++ (totalsSection r ++ (0 :: rest))))
    (eod : EodFits r.eod) (map : ∀ e ∈ r.map, EntryFits e) (few : r.map.length ≤ 64) (raw : r.rawTotal ≤ Config.max64)
    (coded : r.codedTotal ≤ Config.max64) :
    walkSections img 2048 16 {} =
      some { eod := eodFound r.eod, map := r.map, totals := some (r.rawTotal, r.codedTotal) } := by
  have eod_length := eodSection_length r.eod
  have map_length := mapSection_length r.map
  obtain ⟨n1, h1, e1⟩ := walk_eodSection (acc := {}) (fuel := 2048) eod at_ (by omega) rfl (by omega)
  have at1 : img.drop (16 + (eodSection r.eod).length) = mapSection r.map ++ (totalsSection r ++ (0 :: rest)) := by
    rw [← List.drop_drop, at_, List.drop_left]
  obtain ⟨n2, h2, e2⟩ := walk_mapSection (acc := { eod := eodFound r.eod }) (fuel := n1) map few at1 (by omega) (by omega)
  have at2 : img.drop (16 + (eodSection r.eod).length + (mapSection r.map).length) = totalsSection r ++ (0 :: rest) := by
    rw [← List.drop_drop, at1, List.drop_left]
  obtain ⟨n3, h3, e3⟩ := walk_totalsSection (acc := { eod := eodFound r.eod, map := [] ++ r.map }) (fuel := n2) raw coded at2
    (by omega) rfl (by omega)
  have at3 : img.drop (16 + (eodSection r.eod).length + (mapSection r.map).length + 18) = 0 :: rest := by
    rw [← List.drop_drop, at2, List.drop_left' (by simp [totalsSection])]
  rw [e1, e2, e3, walk_end at3 (by omega) (by omega), List.nil_append]

/-- The twelve label bytes of an image: the label's characters, or zeros (R21). -/
def labelBytes (r : CartRecord) : List Byte := (r.label.map (·.chars)).getD (List.replicate 12 0)

/-- The zeros of an image behind its end-of-list byte (R21). -/
def noteRest (r : CartRecord) : List Byte := List.replicate (Config.noteBytes - (noteContent r).length) 0

theorem noteContent_eq {r : CartRecord} {c : CartClass} (cls : r.cls = some c) :
    noteContent r = 0x3C :: (labelBytes r ++ (CartClass.byte c :: (beBytes 2 r.loadCount ++
      (eodSection r.eod ++ (mapSection r.map ++ (totalsSection r ++ [0])))))) := by
  unfold noteContent labelBytes
  rw [cls]
  cases r.label <;> simp

/-- An image as its parts (R16, R21). -/
theorem composeNote_eq {r : CartRecord} {c : CartClass} (cls : r.cls = some c) :
    composeNote r = 0x3C :: (labelBytes r ++ (CartClass.byte c :: (beBytes 2 r.loadCount ++
      (eodSection r.eod ++ (mapSection r.map ++ (totalsSection r ++ (0 :: noteRest r))))))) := by
  unfold composeNote
  rw [← noteRest, noteContent_eq cls]
  simp

theorem isLabel_length {cs : List Byte} (h : isLabel cs = true) : cs.length = 12 := by
  unfold isLabel at h
  exact of_decide_eq_true (Bool.and_eq_true_iff.mp h).1

section
variable {r : CartRecord} {c : CartClass}

theorem labelBytes_length (labelled : ∀ l, r.label = some l → isLabel l.chars = true) : (labelBytes r).length = 12 := by
  unfold labelBytes
  cases h : r.label with
  | none => simp
  | some l => exact isLabel_length (labelled l h)

theorem composeNote_length (cls : r.cls = some c) (labelled : ∀ l, r.label = some l → isLabel l.chars = true)
    (few : r.map.length ≤ 64) : (composeNote r).length = 2048 := by
  have label := labelBytes_length labelled
  have eod := eodSection_length r.eod
  have map := mapSection_length r.map
  have content : (noteContent r).length ≤ 2048 := by
    rw [noteContent_eq cls]
    simp only [List.length_append, List.length_cons, List.length_nil, beBytes_length, totalsSection]
    omega
  unfold composeNote Config.noteBytes
  rw [List.length_append, List.length_replicate]
  omega

/-- Twelve zeros are no label (R18). -/
theorem zeros_no_label : isLabel (List.replicate 12 0) = false := by decide

theorem noteLabel_composed (cls : r.cls = some c) (labelled : ∀ l, r.label = some l → isLabel l.chars = true) :
    noteLabel (composeNote r) = r.label.map fun l => { chars := l.chars, source := .note } := by
  have bytes : ((composeNote r).drop 1).take 12 = labelBytes r := by
    rw [composeNote_eq cls]
    exact List.take_left' (labelBytes_length labelled)
  unfold noteLabel
  rw [bytes]
  unfold labelBytes
  cases h : r.label with
  | none => exact if_neg (by rw [Option.map_none, Option.getD_none, zeros_no_label]; exact Bool.false_ne_true)
  | some l => simp [labelled l h]

theorem header_composed (cls : r.cls = some c) (labelled : ∀ l, r.label = some l → isLabel l.chars = true) :
    noteByte (composeNote r) 0 = 0x3C ∧ (composeNote r).drop 13 = CartClass.byte c :: (beBytes 2 r.loadCount ++
      (eodSection r.eod ++ (mapSection r.map ++ (totalsSection r ++ (0 :: noteRest r))))) := by
  rw [composeNote_eq cls]
  exact ⟨rfl, List.drop_left' (labelBytes_length labelled)⟩

theorem classOfByte_byte (c : CartClass) : classOfByte (CartClass.byte c).toNat = some c := by
  cases c <;> rfl

/-- The conditions on a record's navigation under which R19's checks pass. -/
structure Navigable (r : CartRecord) (c : CartClass) : Prop where
  raw : r.rawTotal ≤ Config.max64
  coded : r.codedTotal ≤ Config.max64
  few : r.map.length ≤ 64
  rising : risingMap r.map = true
  entries : ∀ e ∈ r.map, EntryFits e
  eod : ∀ a f n, r.eod = .known a f n → a < Config.max32 ∧ 0 < f ∧ f < Config.capacity c ∧ n ≤ Config.max32 ∧
    r.map.length ≤ n ∧ ∀ e ∈ r.map, e.addr < a

theorem Navigable.eodFits (h : Navigable r c) : EodFits r.eod := by
  intro a f n known
  obtain ⟨addr, -, frame, files, -⟩ := h.eod a f n known
  have capacity : Config.capacity c ≤ Config.max32 := by cases c <;> decide
  exact ⟨Nat.le_of_lt addr, by omega, files⟩

theorem noteSections_composed (cls : r.cls = some c) (labelled : ∀ l, r.label = some l → isLabel l.chars = true)
    (nav : Navigable r c) :
    noteSections (composeNote r) c =
      some { eod := eodFound r.eod, map := r.map, totals := some (r.rawTotal, r.codedTotal) } := by
  have at16 : (composeNote r).drop 16 =
      eodSection r.eod ++ (mapSection r.map ++ (totalsSection r ++ (0 :: noteRest r))) := by
    have at13 := (header_composed cls labelled).2
    have more : (composeNote r).drop 16 = ((composeNote r).drop 13).drop 3 := by rw [List.drop_drop]
    rw [more, at13]
    exact drop_beBytes 2 r.loadCount _
  have kept : r.map.take Config.mapMax = r.map := List.take_of_length_le nav.few
  unfold noteSections
  have walked := walkSections_composed at16 nav.eodFits nav.entries nav.few nav.raw nav.coded
  rw [show walkSections (composeNote r) Config.noteBytes 16 {} = _ from walked, Option.bind_some]
  unfold Sections.check
  dsimp only
  rw [kept, nav.rising, Bool.true_and, if_pos]
  cases known : r.eod with
  | known a f n =>
    obtain ⟨addr, frame, inside, -, files, below⟩ := nav.eod a f n known
    simp only [eodFound, Bool.and_eq_true, decide_eq_true_eq, List.all_eq_true]
    exact ⟨⟨⟨⟨by omega, by omega⟩, inside⟩, below⟩, files⟩
  | opened => rfl
  | unknown => rfl

end

/-- Settles O42: each part of the image reads back as the field it was made from. -/
theorem noteImagesReadBackAsTheRecord : Obligations.NoteImagesReadBackAsTheRecord := by
  unfold Obligations.NoteImagesReadBackAsTheRecord
  intro r c cls labelled load raw coded few rising entries eod
  have nav : Navigable r c := ⟨raw, coded, few, rising, entries, eod⟩
  refine ⟨composeNote_length cls labelled few, ?_⟩
  obtain ⟨marker, at13⟩ := header_composed cls labelled
  have class_byte : noteByte (composeNote r) 13 = (CartClass.byte c).toNat := by
    rw [noteByte_eq, at13]
    rfl
  have load_field : noteField (composeNote r) 14 2 = r.loadCount := by
    have at14 := noteField_add (composeNote r) 13 1 2
    rw [at13] at at14
    refine at14.trans ?_
    exact field_head (n := 2) (by omega) _
  unfold rebuild
  dsimp only
  rw [if_neg (not_not_intro marker), class_byte, classOfByte_byte]
  dsimp only
  rw [noteSections_composed cls labelled nav, noteLabel_composed cls labelled, load_field]
  cases r.eod <;> rfl

end Sys2Proof.Proofs
end

section
/-! PROOFS. Compression (R92 to R94, R97, R98): what the matcher emits decodes to what it was made from. -/

open Sys2Proof Sys2Proof.Machine Sys2Proof.Claims

namespace Sys2Proof.Proofs

-- One declaration at a time: elaborated in parallel, the joined text needs more threads than the memory limit holds.
set_option Elab.async false

/-- Tokens `out` take the decoder from `made` bytes, with window `w`, to `made'` bytes and window `w'`, whatever tokens
follow and with any bound that covers them. -/
def Decodes (raw before : Nat) (out : List Byte) (made : Nat) (w : List Byte) (made' : Nat) (w' : List Byte) : Prop :=
  ∀ n rest, out.length + rest.length ≤ n → ∃ n', rest.length ≤ n' ∧
    decodeTokens raw before n (out ++ rest) made w = decodeTokens raw before n' rest made' w'

theorem Decodes.nil (raw before made : Nat) (w : List Byte) : Decodes raw before [] made w made w :=
  fun n _ h => ⟨n, by simpa using h, rfl⟩

theorem Decodes.append {raw before made made' made'' : Nat} {out out' w w' w'' : List Byte}
    (h : Decodes raw before out made w made' w') (h' : Decodes raw before out' made' w' made'' w'') :
    Decodes raw before (out ++ out') made w made'' w'' := by
  intro n rest bound
  rw [List.length_append] at bound
  obtain ⟨n1, b1, e1⟩ := h n (out' ++ rest) (by rw [List.length_append]; omega)
  obtain ⟨n2, b2, e2⟩ := h' n1 rest (by rw [List.length_append] at b1; omega)
  exact ⟨n2, b2, by rw [List.append_assoc, e1, e2]⟩

/-- A literal run token decodes to its literals (R93, R98). -/
theorem decodes_literalToken {raw before made : Nat} {lits w : List Byte} (few : lits.length ≤ 128)
    (fits : made + lits.length ≤ raw) :
    Decodes raw before (literalToken lits) made w (made + lits.length) (lits.reverse ++ w) := by
  cases lits with
  | nil => exact Decodes.nil raw before made w
  | cons b lits =>
    intro n rest bound
    have token : literalToken (b :: lits) = BitVec.ofNat 8 lits.length :: (b :: lits) := rfl
    rw [token] at bound ⊢
    simp only [List.length_cons] at few fits bound
    obtain ⟨n, rfl⟩ := Nat.exists_eq_succ_of_ne_zero (show n ≠ 0 by omega)
    have run : (BitVec.ofNat 8 lits.length).toNat = lits.length := by
      rw [BitVec.toNat_ofNat]
      omega
    refine ⟨n, by omega, ?_⟩
    rw [List.cons_append, decodeTokens, run, if_pos (by omega), if_neg (by simp; omega)]
    rw [← List.length_cons (a := b), List.take_left, List.drop_left]

/-! ## Matches (R92, R98) -/

theorem matchLen_le (n : Nat) (xs ys : List Byte) : matchLen n xs ys ≤ n := by
  induction n generalizing xs ys with
  | zero => simp [matchLen]
  | succ n ih =>
    cases xs with
    | nil => simp [matchLen]
    | cons x xs =>
      cases ys with
      | nil => simp [matchLen]
      | cons y ys =>
        have rest := ih xs ys
        rw [matchLen]
        split <;> omega

/-- Two runs agree over their match length (R92). -/
theorem matchLen_agree (n : Nat) (xs ys : List Byte) {j : Nat} (h : j < matchLen n xs ys) :
    ∃ b, xs[j]? = some b ∧ ys[j]? = some b := by
  induction n generalizing xs ys j with
  | zero => simp [matchLen] at h
  | succ n ih =>
    cases xs with
    | nil => simp [matchLen] at h
    | cons x xs =>
      cases ys with
      | nil => simp [matchLen] at h
      | cons y ys =>
        rw [matchLen] at h
        split at h
        · next same =>
          cases j with
          | zero => exact ⟨x, rfl, by rw [same]; rfl⟩
          | succ j => exact ih xs ys (by omega)
        · omega

/-- The bytes up to a place, newest first: the window of the decoder there (R98). -/
def window (buf : List Byte) (q : Nat) : List Byte := (buf.take q).reverse

theorem window_succ {buf : List Byte} {q : Nat} {b : Byte} (h : buf[q]? = some b) : window buf (q + 1) = b :: window buf q := by
  unfold window
  rw [List.take_add_one, h]
  simp

theorem window_getD {buf : List Byte} {q d : Nat} {b : Byte} (h : buf[q - d]? = some b) (back : 0 < d) (reach : d ≤ q)
    (inside : q ≤ buf.length) : (window buf q).getD (d - 1) 0 = b := by
  have place : (buf.take q).reverse[d - 1]? = some b := by
    have length : (buf.take q).length = q := by rw [List.length_take, Nat.min_eq_left inside]
    rw [List.getElem?_reverse (by rw [length]; omega), length, List.getElem?_take_of_lt (by omega), ← h]
    congr 1
    omega
  rw [window, List.getD_eq_getElem?_getD, place, Option.getD_some]

/-- Bytes copied from `dist` back are those of a run that agrees with itself `dist` later (R98). -/
theorem copyBack_window {buf : List Byte} {dist : Nat} (back : 0 < dist) (len q : Nat) (reach : dist ≤ q)
    (agree : ∀ j, j < len → ∃ b, buf[q - dist + j]? = some b ∧ buf[q + j]? = some b) :
    copyBack dist len (window buf q) = window buf (q + len) := by
  induction len generalizing q with
  | zero => rfl
  | succ len ih =>
    obtain ⟨b, source, target⟩ := agree 0 (Nat.succ_pos len)
    have inside : q < buf.length := (List.getElem?_eq_some_iff.mp target).1
    rw [copyBack, window_getD (b := b) source back reach (Nat.le_of_lt inside), ← window_succ (q := q) target, ih (q + 1) (by omega)]
    · rw [Nat.add_assoc, Nat.add_comm 1]
    · intro j hj
      obtain ⟨b, source, target⟩ := agree (j + 1) (by omega)
      refine ⟨b, ?_, ?_⟩
      · rw [← source]
        congr 1
        omega
      · rw [← target]
        congr 1
        omega

/-- A match token decodes to the bytes it stands for (R93, R98). -/
theorem decodes_matchToken {raw before made len dist q : Nat} {buf : List Byte} (long : 3 ≤ len) (short : len ≤ 66)
    (back : 0 < dist) (near : dist ≤ 4096) (known : dist ≤ before + made) (reach : dist ≤ q) (fits : made + len ≤ raw)
    (agree : ∀ j, j < len → ∃ b, buf[q - dist + j]? = some b ∧ buf[q + j]? = some b) :
    Decodes raw before (matchToken len dist) made (window buf q) (made + len) (window buf (q + len)) := by
  intro n rest bound
  have token : matchToken len dist ++ rest = BitVec.ofNat 8 (0x80 + (len - 3)) :: BitVec.ofNat 8 ((dist - 1) / 256) ::
      BitVec.ofNat 8 (dist - 1) :: rest := by
    simp [matchToken, beBytes]
  have token_length : (matchToken len dist).length = 3 := by simp [matchToken]
  rw [token_length] at bound
  obtain ⟨n, rfl⟩ := Nat.exists_eq_succ_of_ne_zero (show n ≠ 0 by omega)
  have kind : (BitVec.ofNat 8 (0x80 + (len - 3))).toNat = 0x80 + (len - 3) := by
    rw [BitVec.toNat_ofNat]
    omega
  have value : beNat [BitVec.ofNat 8 ((dist - 1) / 256), BitVec.ofNat 8 (dist - 1)] = dist - 1 := by
    simp [beNat]
    omega
  refine ⟨n, by omega, ?_⟩
  rw [token, decodeTokens, kind, if_neg (by omega), if_pos (by omega)]
  dsimp only
  rw [value, if_neg (by omega), Nat.sub_add_cancel back]
  have length : 0x80 + (len - 3) - 0x80 + 3 = len := by omega
  rw [length, copyBack_window back len q reach agree]

/-! ## The matcher (R92, R93) -/

/-- A matcher that has visited v bytes of a slice behind h bytes of history: its tokens decode to the first e of them, and
the others are its pending literals. -/
def Emitted (buf : List Byte) (h p v : Nat) (m : Matcher) : Prop :=
  ∃ e, e ≤ v ∧ h + v ≤ buf.length ∧ m.pending = (buf.take (h + v)).drop (h + e) ∧ v - e < 128 ∧
    Decodes (buf.length - h) p m.out 0 (window buf h) e (window buf (h + e))

section
variable {buf : List Byte} {h p v : Nat} {m : Matcher}

/-- The window behind a run of literals. -/
theorem window_drop {a b : Nat} (le : a ≤ b) : ((buf.take b).drop a).reverse ++ window buf a = window buf b := by
  have before : (buf.take b).take a = buf.take a := by rw [List.take_take, Nat.min_eq_left le]
  unfold window
  rw [← List.reverse_append, ← before, List.take_append_drop]

/-- The pending literals, emitted, decode to the place visited (R93). -/
theorem Emitted.flush (em : Emitted buf h p v m) :
    Decodes (buf.length - h) p (m.out ++ literalToken m.pending) 0 (window buf h) v (window buf (h + v)) := by
  obtain ⟨e, le, inside, pending, few, out⟩ := em
  have length : m.pending.length = v - e := by
    rw [pending, List.length_drop, List.length_take]
    omega
  have literals := decodes_literalToken (raw := buf.length - h) (before := p) (made := e) (lits := m.pending)
    (w := window buf (h + e)) (by omega) (by omega)
  have reached : m.pending.reverse ++ window buf (h + e) = window buf (h + v) := by
    rw [pending]
    exact window_drop (by omega)
  rw [reached, length, Nat.add_sub_cancel' le] at literals
  exact out.append literals

/-- A byte that joins the pending literals (R93). -/
theorem Emitted.literal {b : Byte} (em : Emitted buf h p v m) (next : buf[h + v]? = some b) :
    Emitted buf h p (v + 1) (m.literal b) := by
  have flushed := em.flush
  obtain ⟨e, le, inside, pending, few, out⟩ := em
  have room : h + v < buf.length := (List.getElem?_eq_some_iff.mp next).1
  have joined : m.pending ++ [b] = (buf.take (h + (v + 1))).drop (h + e) := by
    rw [pending, ← Nat.add_assoc, List.take_add_one, next, List.drop_append_of_le_length (by rw [List.length_take]; omega)]
    rfl
  have length : (m.pending ++ [b]).length = v + 1 - e := by
    rw [joined, List.length_drop, List.length_take]
    omega
  have grown : ∀ {m' : Matcher}, m'.pending = m.pending ++ [b] → Decodes (buf.length - h) p (m.out ++ literalToken m'.pending) 0
      (window buf h) (v + 1) (window buf (h + (v + 1))) := by
    intro m' hm
    have literals := decodes_literalToken (raw := buf.length - h) (before := p) (made := e) (lits := m'.pending)
      (w := window buf (h + e)) (by rw [hm]; omega) (by rw [hm]; omega)
    have reached : m'.pending.reverse ++ window buf (h + e) = window buf (h + (v + 1)) := by
      rw [hm, joined]
      exact window_drop (by omega)
    rw [reached, hm, length, show e + (v + 1 - e) = v + 1 by omega] at literals
    rw [hm]
    exact out.append literals
  unfold Matcher.literal
  dsimp only
  split
  · exact ⟨v + 1, Nat.le_refl _, by omega, by simp, by omega, grown (m' := { m with pending := m.pending ++ [b] }) rfl⟩
  · next small => exact ⟨e, by omega, by omega, joined, by omega, out⟩

/-- A match emitted behind the pending literals (R92, R93). -/
theorem Emitted.matched {len dist : Nat} (em : Emitted buf h p v m) (long : 3 ≤ len) (short : len ≤ 66) (back : 0 < dist)
    (near : dist ≤ 4096) (known : dist ≤ p + v) (reach : dist ≤ h + v)
    (agree : ∀ j, j < len → ∃ b, buf[h + v - dist + j]? = some b ∧ buf[h + v + j]? = some b) :
    Emitted buf h p (v + len)
      { m with pending := [], out := m.out ++ literalToken m.pending ++ matchToken len dist } := by
  obtain ⟨b, -, last⟩ := agree (len - 1) (by omega)
  have inside := (List.getElem?_eq_some_iff.mp last).1
  refine ⟨v + len, Nat.le_refl _, by omega, by simp, by omega, em.flush.append ?_⟩
  rw [← Nat.add_assoc]
  exact decodes_matchToken long short back near known reach (by omega) agree

/-- A changed hash table leaves what has been emitted (R92). -/
theorem Emitted.withTable (em : Emitted buf h p v m) (tb : List (Nat × Nat)) : Emitted buf h p v { m with table := tb } := em

theorem Emitted.inside (em : Emitted buf h p v m) : h + v ≤ buf.length := by
  obtain ⟨e, -, inside, -⟩ := em
  exact inside

/-- With no byte left to visit the whole slice has been visited. -/
theorem Emitted.finished (em : Emitted buf h p v m) (empty : buf.drop (h + v) = []) : Emitted buf h p (buf.length - h) m := by
  have inside := em.inside
  have reached : buf.length ≤ h + v := List.drop_eq_nil_iff.mp empty
  rwa [show buf.length - h = v by omega]

/-- A match that the hash table proposes and the matcher accepts (R92). -/
theorem Emitted.accepted {base c : Nat} {rest : List Byte} (em : Emitted buf h p v m) (start : p = base + h)
    (history : h = min p 4096) (at_ : rest = buf.drop (h + v)) (before : c < p + v) (near : p + v - c ≤ 4096)
    (long : 3 ≤ matchLen 66 (buf.drop (c - base)) rest) :
    Emitted buf h p (v + matchLen 66 (buf.drop (c - base)) rest)
      { m with pending := [], out := m.out ++ literalToken m.pending ++
        matchToken (matchLen 66 (buf.drop (c - base)) rest) (p + v - c) } := by
  refine em.matched long (matchLen_le ..) (by omega) near (by omega) (by omega) fun j hj => ?_
  obtain ⟨b, source, target⟩ := matchLen_agree 66 _ _ hj
  rw [at_] at target
  rw [List.getElem?_drop] at source target
  exact ⟨b, by rw [← source]; congr 1; omega, target⟩

/-- A run of the matcher to the end of the slice, whatever the hash table proposes (R92). -/
theorem matchRun_emitted {base : Nat} (start : p = base + h) (history : h = min p 4096) (n : Nat) (rest : List Byte)
    (at_ : rest = buf.drop (h + v)) (bound : rest.length ≤ n) (em : Emitted buf h p v m) :
    Emitted buf h p (buf.length - h) (matchRun buf base n (p + v) rest m) := by
  induction n generalizing v rest m with
  | zero => exact em.finished (at_ ▸ List.length_eq_zero_iff.mp (Nat.le_zero.mp bound))
  | succ n ih =>
    cases rest with
    | nil => exact em.finished at_.symm
    | cons b0 rest =>
      have first : buf[h + v]? = some b0 := by
        have head := congrArg (·[0]?) at_
        simpa [List.getElem?_drop] using head.symm
      have behind : rest = buf.drop (h + (v + 1)) := by
        have tail := congrArg List.tail at_
        simpa [List.tail_drop, Nat.add_assoc] using tail
      rw [List.length_cons] at bound
      have as_literal : ∀ {m' : Matcher}, Emitted buf h p v m' →
          Emitted buf h p (buf.length - h) (matchRun buf base n (p + v + 1) rest (m'.literal b0)) := fun em =>
        ih rest behind (by omega) (em.literal first)
      unfold matchRun
      split
      · next b1 b2 more =>
        dsimp only
        split
        · exact as_literal (em.withTable _)
        · next c proposed =>
          split
          · next accepted =>
            obtain ⟨before, near, long⟩ := accepted
            have em' := (em.withTable (tableSet m.table (hash3 b0 b1 b2) (p + v))).accepted start history at_ before near long
            have next_bytes := ih ((b0 :: b1 :: b2 :: more).drop (matchLen 66 (buf.drop (c - base)) (b0 :: b1 :: b2 :: more)))
              (by rw [at_, List.drop_drop, Nat.add_assoc]) (by rw [List.length_drop, List.length_cons]; omega) em'
            rwa [← Nat.add_assoc] at next_bytes
          · exact as_literal (em.withTable _)
      · exact as_literal em

end

/-- The tokens of a slice decode to the slice, behind the history that goes with it (R92, R93, R98). -/
theorem decodes_tokenize (table : List (Nat × Nat)) {history slice : List Byte} {p : Nat} (h : history.length = min p 4096) :
    Decodes slice.length p (tokenize table history slice p).out 0 history.reverse slice.length
      (history ++ slice).reverse := by
  have empty : Emitted (history ++ slice) history.length p 0 { table, pending := [], out := [] } :=
    ⟨0, Nat.le_refl _, by simp, by simp, by omega, Decodes.nil _ _ _ _⟩
  have run := matchRun_emitted (base := p - history.length) (by omega) h slice.length slice (by simp) (Nat.le_refl _) empty
  have length : (history ++ slice).length - history.length = slice.length := by simp
  have whole := run.flush
  have last : window (history ++ slice) (history.length + slice.length) = (history ++ slice).reverse := by
    rw [window, ← List.length_append, List.take_length]
  have first : window (history ++ slice) history.length = history.reverse := by rw [window, List.take_left]
  rw [length, last, first] at whole
  exact whole

/-! ## Slices (R87, R94, R97) -/

/-- A slice header as fields (R87). -/
theorem sliceBytes_append (mode : Byte) (raw coded rest : List Byte) :
    sliceBytes mode raw coded ++ rest = beBytes 1 mode.toNat ++ (beBytes 2 raw.length ++ (beBytes 2 coded.length ++
      (beBytes 4 (crc32 raw).toNat ++ (coded ++ rest)))) := by
  simp [sliceBytes, beBytes_one]

theorem sliceBytes_length (mode : Byte) (raw coded : List Byte) : (sliceBytes mode raw coded).length = 9 + coded.length := by
  simp only [sliceBytes, List.length_append, List.length_cons, beBytes_length]

/-- A slice header reads back (R87). -/
theorem sliceHeader_sliceBytes (mode : Byte) {raw coded : List Byte} (rest : List Byte) (hraw : raw.length < 65536)
    (hcoded : coded.length < 65536) :
    sliceHeader (sliceBytes mode raw coded ++ rest) =
      some { mode := mode.toNat, raw := raw.length, coded := coded.length, check := crc32 raw } := by
  have hmode : mode.toNat < 256 := mode.isLt
  have hcheck : (crc32 raw).toNat < 256 ^ 4 := (crc32 raw).isLt
  have nine : ¬(sliceBytes mode raw coded ++ rest).length < 9 := by
    rw [List.length_append, sliceBytes_length]
    omega
  have fields : ∀ bs : List Byte, ¬bs.length < 9 → sliceHeader bs =
      some { mode := field bs 0 1, raw := field bs 1 2, coded := field bs 3 2, check := BitVec.ofNat 32 (field bs 5 4) } :=
    fun bs long => if_neg long
  rw [fields _ nine, sliceBytes_append]
  simp (disch := omega) only [field_skip, field_head, Nat.reduceSub, BitVec.ofNat_toNat, BitVec.setWidth_eq]

theorem coded_sliceBytes (mode : Byte) (raw coded rest : List Byte) :
    ((sliceBytes mode raw coded ++ rest).drop 9).take coded.length = coded := by
  have header : (sliceBytes mode raw coded ++ rest).drop 9 = coded ++ rest := by simp [sliceBytes, beBytes]
  rw [header, List.take_left]

/-- A stored slice decodes to its bytes (R87, R98). -/
theorem decodeSlice_stored (j before : Nat) (history raw rest : List Byte) (hraw : raw.length < 65536) :
    decodeSlice j before history (sliceBytes 2 raw raw ++ rest) =
      { bytes := raw, size := (sliceBytes 2 raw raw).length, result := .good } := by
  unfold decodeSlice
  rw [sliceHeader_sliceBytes 2 rest hraw hraw]
  dsimp only
  rw [coded_sliceBytes, sliceBytes_length, if_pos (by decide), if_pos rfl]

/-- A compressed slice whose tokens decode to it decodes to it (R87, R98). -/
theorem decodeSlice_compressed {j before : Nat} {history raw tokens : List Byte} (rest : List Byte)
    (hraw : raw.length < 65536) (htokens : tokens.length < 65536)
    (decodes : Decodes raw.length before tokens 0 history.reverse raw.length (history ++ raw).reverse) :
    decodeSlice j before history (sliceBytes 1 raw tokens ++ rest) =
      { bytes := raw, size := (sliceBytes 1 raw tokens).length, result := .good } := by
  obtain ⟨n, -, stream⟩ := decodes tokens.length [] (by simp)
  have ended : decodeTokens raw.length before n [] raw.length (history ++ raw).reverse =
      (true, (history ++ raw).reverse, raw.length) := by
    unfold decodeTokens
    cases n <;> simp
  rw [List.append_nil, ended] at stream
  have made : ((history ++ raw).reverse.take raw.length).reverse = raw := by
    rw [List.reverse_append, List.take_left' (by simp), List.reverse_reverse]
  unfold decodeSlice
  rw [sliceHeader_sliceBytes 1 rest hraw htokens]
  dsimp only
  rw [coded_sliceBytes, sliceBytes_length, if_neg (by decide), stream]
  dsimp only
  rw [made, if_pos rfl, if_pos rfl]

/-- Settles O44: a stored slice is its own bytes, and the tokens of a compressed one decode to them. -/
theorem compressedSlicesDecodeBack : Obligations.CompressedSlicesDecodeBack := by
  unfold Obligations.CompressedSlicesDecodeBack
  intro table history slice rest p j _ few history_length
  unfold codeSlice
  split
  · exact decodeSlice_compressed rest (by omega) (by omega) (decodes_tokenize table history_length)
  · exact decodeSlice_stored j p history slice rest (by omega)

end Sys2Proof.Proofs
end

section
/-! PROOFS. Handling frames (R169, R172, R173): a frame runs as the request that its payload encodes, or is refused. -/

open Sys2Proof Sys2Proof.Machine Sys2Proof.Claims

namespace Sys2Proof.Proofs

-- One declaration at a time: elaborated in parallel, the joined text needs more threads than the memory limit holds.
set_option Elab.async false

/-! ## Payloads (R173) -/

theorem wordBytes_word4 (a b c d : Byte) : wordBytes (word4 a b c d) = [a, b, c, d] := by
  have skip : ∀ {n k : Nat} (x : BitVec n) (y : Byte), (x ++ y).extractLsb' (k + 8) 8 = x.extractLsb' k 8 := fun x y => by
    rw [BitVec.extractLsb'_append_eq_of_le (Nat.le_add_left ..), Nat.add_sub_cancel]
  unfold wordBytes word4
  rw [skip (k := 16), skip (k := 8), skip (k := 8), skip (k := 0), skip (k := 0), skip (k := 0)]
  simp only [BitVec.extractLsb'_append_eq_right, BitVec.extractLsb'_eq_self]

theorem halfBytes_half2 (a b : Byte) : halfBytes (half2 a b) = [a, b] := by
  unfold halfBytes half2
  rw [BitVec.extractLsb'_append_eq_left, BitVec.extractLsb'_append_eq_right]

/-- The codes of a channel are those that R173's table gives it. -/
theorem contains_codesOf (ch : Chan) (code : Nat) : (codesOf ch).contains code = true ↔ onItsChannel ch code := by
  cases ch <;> simp [codesOf, onItsChannel] <;> omega

/-- A payload spells a request: its length is that of its code, its modes are listed, and with its numbers that are not
examined set to zero it is the encoding of the request (R173). -/
structure Spells (p : List Byte) (r : Request) : Prop where
  wf : r.wf = true
  length : payloadLength (byteAt p 0) = some p.length
  listed : Claims.listed p
  encoding : examined p = encodeRequest r

/-- A payload whose numbers are all examined. -/
theorem examined_of_none {p : List Byte} (write : ¬(byteAt p 0 = 0x24 ∧ byteAt p 1 = 1))
    (verify : ¬(byteAt p 0 = 0x25 ∧ byteAt p 5 = 2)) (restore : ¬(byteAt p 0 = 0x26 ∧ byteAt p 10 ≠ 1))
    (watch : ¬(byteAt p 0 = 0x2D ∧ byteAt p 1 ≠ 1)) : examined p = p := by
  unfold examined
  rw [if_neg write, if_neg verify, if_neg restore, if_neg watch]

/-- A payload whose code has no number that may stay unexamined. -/
theorem examined_plain {p : List Byte} (h : byteAt p 0 ∉ [0x24, 0x25, 0x26, 0x2D]) : examined p = p := by
  simp only [List.mem_cons, List.not_mem_nil, or_false, not_or] at h
  obtain ⟨h24, h25, h26, h2D⟩ := h
  exact examined_of_none (fun c => h24 c.1) (fun c => h25 c.1) (fun c => h26 c.1) fun c => h2D c.1

theorem spells_bare {code : Byte} {fs : List Byte} {r q : Request} (h : decodeBare q fs = some r)
    (length : payloadLength code.toNat = some 1) (listed : Claims.listed [code])
    (plain : code.toNat ∉ [0x24, 0x25, 0x26, 0x2D]) (encoding : [code] = encodeRequest q) (wf : q.wf = true) :
    Spells (code :: fs) r := by
  unfold decodeBare at h
  split at h
  · cases h
    exact ⟨wf, length, listed, (examined_plain (p := [code]) plain).trans encoding⟩
  · cases h

theorem spells_write {fs : List Byte} {r : Request} (h : decodeWrite fs = some r) : Spells (0x24 :: fs) r := by
  unfold decodeWrite at h
  split at h
  · split at h
    · next m a b c d l one =>
      cases h
      subst one
      exact ⟨rfl, rfl, by simp [listed, byteAt], rfl⟩
    · split at h
      · next m a b c d l _ two =>
        cases h
        subst two
        exact ⟨rfl, rfl, by simp [listed, byteAt], by simp [encodeRequest, Request.fields, wordBytes_word4]; rfl⟩
      · cases h
  · cases h

/-- Four bytes of a payload set to zero. -/
theorem mapIdx_zeroed (pre four post : List Byte) (h : four.length = 4) :
    (pre ++ four ++ post).mapIdx (fun k b => if pre.length ≤ k ∧ k < pre.length + 4 then 0 else b) =
      pre ++ [0, 0, 0, 0] ++ post := by
  have outside : ∀ (bs : List Byte) (f : Nat → Byte → Byte), (∀ k b, k < bs.length → f k b = b) → bs.mapIdx f = bs := by
    intro bs f hf
    refine List.ext_getElem (by simp) fun k hk _ => ?_
    rw [List.getElem_mapIdx]
    exact hf k _ (by simpa using hk)
  have inside : four.mapIdx (fun k b => if pre.length ≤ k + pre.length ∧ k + pre.length < pre.length + 4 then 0 else b) =
      [0, 0, 0, 0] := by
    refine List.ext_getElem (by simp [h]) fun k hk _ => ?_
    have small : k < 4 := by simpa [h] using hk
    rw [List.getElem_mapIdx, if_pos (by omega)]
    obtain rfl | rfl | rfl | rfl : k = 0 ∨ k = 1 ∨ k = 2 ∨ k = 3 := by omega
    · rfl
    · rfl
    · rfl
    · rfl
  rw [List.mapIdx_append, List.mapIdx_append, outside pre, inside, outside post]
  · intro k b _
    rw [List.length_append, h, if_neg (by omega)]
  · intro k b hk
    rw [if_neg (by omega)]

/-- A payload with a number that is not examined, at place n (R173). -/
theorem examined_of_from {pre four post : List Byte} (h : four.length = 4)
    (from_ : ((byteAt (pre ++ four ++ post) 0 = 0x24 ∧ byteAt (pre ++ four ++ post) 1 = 1) ∧ pre.length = 2) ∨
      ((byteAt (pre ++ four ++ post) 0 = 0x25 ∧ byteAt (pre ++ four ++ post) 5 = 2) ∧ pre.length = 6) ∨
      ((byteAt (pre ++ four ++ post) 0 = 0x26 ∧ byteAt (pre ++ four ++ post) 10 ≠ 1) ∧ pre.length = 11) ∨
      ((byteAt (pre ++ four ++ post) 0 = 0x2D ∧ byteAt (pre ++ four ++ post) 1 ≠ 1) ∧ pre.length = 2)) :
    examined (pre ++ four ++ post) = pre ++ [0, 0, 0, 0] ++ post := by
  have zeroed := mapIdx_zeroed pre four post h
  unfold examined
  obtain ⟨c, len⟩ | ⟨c, len⟩ | ⟨c, len⟩ | ⟨c, len⟩ := from_
  · rw [if_pos c]
    rwa [len] at zeroed
  · rw [if_neg (fun h => by omega), if_pos c]
    rwa [len] at zeroed
  · rw [if_neg (fun h => by omega), if_neg (fun h => by omega), if_pos c]
    rwa [len] at zeroed
  · rw [if_neg (fun h => by omega), if_neg (fun h => by omega), if_neg (fun h => by omega), if_pos c]
    rwa [len] at zeroed

theorem spells_verify {fs : List Byte} {r : Request} (h : decodeVerify fs = some r) : Spells (0x25 :: fs) r := by
  unfold decodeVerify at h
  split at h
  · next a b c d range n3 n2 n1 n0 mode policy =>
    split at h
    · cases h
    · next range' ranged =>
      obtain ⟨modes, h⟩ := Option.ite_none_right_eq_some.mp h
      obtain ⟨policies, h⟩ := Option.ite_none_right_eq_some.mp h
      obtain rfl := Option.some.inj h
      have ranges : (range = 1 ∧ range' = .count (word4 n3 n2 n1 n0)) ∨ (range = 2 ∧ range' = .toEod) := by
        unfold decodeRange at ranged
        split at ranged
        · next one => exact .inl ⟨one, (Option.some.inj ranged).symm⟩
        · obtain ⟨two, ranged⟩ := Option.ite_none_right_eq_some.mp ranged
          exact .inr ⟨two, (Option.some.inj ranged).symm⟩
      have fields : ∀ v : VerifyRange, (Request.verify (word4 a b c d) v (if mode = 1 then .check else .compare)
          (if policy = 1 then .keepFirst else .keepLast)).fields =
          wordBytes (word4 a b c d) ++ (match v with | .count n => 1 :: wordBytes n | .toEod => [2, 0, 0, 0, 0]) ++
            [mode, policy] := by
        intro v
        obtain rfl | rfl := modes <;> obtain rfl | rfl := policies <;> cases v <;> rfl
      have twice : ∀ {b : Byte}, b = 1 ∨ b = 2 → 1 ≤ b.toNat ∧ b.toNat ≤ 2 := by
        rintro b (rfl | rfl) <;> decide
      rw [wordBytes_word4] at fields
      obtain ⟨rfl, rfl⟩ | ⟨rfl, rfl⟩ := ranges
      · refine ⟨rfl, rfl, by simp [listed, byteAt, twice modes, twice policies], ?_⟩
        rw [encodeRequest, fields]
        dsimp only
        rw [wordBytes_word4]
        exact examined_of_none (by simp [byteAt]) (by simp [byteAt]) (by simp [byteAt]) (by simp [byteAt])
      · refine ⟨rfl, rfl, by simp [listed, byteAt, twice modes, twice policies], ?_⟩
        rw [encodeRequest, fields]
        exact examined_of_from (pre := [0x25, a, b, c, d, 2]) (four := [n3, n2, n1, n0]) rfl (.inr (.inl ⟨⟨rfl, rfl⟩, rfl⟩))
  · cases h

theorem decodeStart_some {s : Byte} {n : Word} {start : RestoreStart} (h : decodeStart s n = some start) :
    (s = 1 ∧ start = .address n) ∨ (s = 2 ∧ start = .file n) := by
  unfold decodeStart at h
  split at h
  · next one => exact .inl ⟨one, (Option.some.inj h).symm⟩
  · obtain ⟨two, h⟩ := Option.ite_none_right_eq_some.mp h
    exact .inr ⟨two, (Option.some.inj h).symm⟩

theorem decodeEnd_some {e : Byte} {n : Word} {stop : RestoreEnd} (h : decodeEnd e n = some stop) :
    (e = 1 ∧ stop = .count n) ∨ (e = 2 ∧ stop = .toMark) ∨ (e = 3 ∧ stop = .toEod) := by
  unfold decodeEnd at h
  split at h
  · next one => exact .inl ⟨one, (Option.some.inj h).symm⟩
  · split at h
    · next two => exact .inr (.inl ⟨two, (Option.some.inj h).symm⟩)
    · obtain ⟨three, h⟩ := Option.ite_none_right_eq_some.mp h
      exact .inr (.inr ⟨three, (Option.some.inj h).symm⟩)

theorem spells_restore {fs : List Byte} {r : Request} (h : decodeRestore fs = some r) : Spells (0x26 :: fs) r := by
  unfold decodeRestore at h
  split at h
  · next s a b c d o3 o2 o1 o0 e n3 n2 n1 n0 =>
    split at h
    · next start stop started stopped =>
      obtain rfl := Option.some.inj h
      have fields : (Request.restore start (word4 o3 o2 o1 o0) stop).fields = s :: a :: b :: c :: d :: o3 :: o2 :: o1 :: o0 ::
          (match stop with | .count n => 1 :: wordBytes n | .toMark => [2, 0, 0, 0, 0] | .toEod => [3, 0, 0, 0, 0]) := by
        have whole : (Request.restore start (word4 o3 o2 o1 o0) stop).fields =
            (s :: wordBytes (word4 a b c d)) ++ wordBytes (word4 o3 o2 o1 o0) ++
            (match stop with | .count n => 1 :: wordBytes n | .toMark => [2, 0, 0, 0, 0] | .toEod => [3, 0, 0, 0, 0]) := by
          obtain ⟨rfl, rfl⟩ | ⟨rfl, rfl⟩ := decodeStart_some started <;> cases stop <;> rfl
        rw [whole, wordBytes_word4, wordBytes_word4]
        rfl
      have begins : 1 ≤ s.toNat ∧ s.toNat ≤ 2 := by
        obtain ⟨rfl, -⟩ | ⟨rfl, -⟩ := decodeStart_some started <;> decide
      obtain ⟨rfl, rfl⟩ | ⟨rfl, rfl⟩ | ⟨rfl, rfl⟩ := decodeEnd_some stopped
      · refine ⟨rfl, rfl, by simp [listed, byteAt, begins], ?_⟩
        rw [encodeRequest, fields]
        dsimp only
        rw [wordBytes_word4]
        exact examined_of_none (by simp [byteAt]) (by simp [byteAt]) (by simp [byteAt]) (by simp [byteAt])
      · refine ⟨rfl, rfl, by simp [listed, byteAt, begins], ?_⟩
        rw [encodeRequest, fields]
        exact examined_of_from (pre := [0x26, s, a, b, c, d, o3, o2, o1, o0, 2]) (four := [n3, n2, n1, n0]) (post := []) rfl
          (.inr (.inr (.inl ⟨⟨rfl, by simp [byteAt]⟩, rfl⟩)))
      · refine ⟨rfl, rfl, by simp [listed, byteAt, begins], ?_⟩
        rw [encodeRequest, fields]
        exact examined_of_from (pre := [0x26, s, a, b, c, d, o3, o2, o1, o0, 3]) (four := [n3, n2, n1, n0]) (post := []) rfl
          (.inr (.inr (.inl ⟨⟨rfl, by simp [byteAt]⟩, rfl⟩)))
    · cases h
  · cases h

theorem spells_abort {fs : List Byte} {r : Request} (h : decodeAbort fs = some r) : Spells (0x27 :: fs) r := by
  unfold decodeAbort at h
  split at h
  · next m =>
    split at h
    · next one =>
      cases h
      subst one
      exact ⟨rfl, rfl, by simp [listed, byteAt], rfl⟩
    · split at h
      · next two =>
        cases h
        subst two
        exact ⟨rfl, rfl, by simp [listed, byteAt], rfl⟩
      · split at h
        · next three =>
          cases h
          subst three
          exact ⟨rfl, rfl, by simp [listed, byteAt], rfl⟩
        · cases h
  · cases h

theorem spells_watch {fs : List Byte} {r : Request} (h : decodeWatch fs = some r) : Spells (0x2D :: fs) r := by
  unfold decodeWatch at h
  split at h
  · next m a b c d =>
    split at h
    · next zero =>
      cases h
      subst zero
      exact ⟨rfl, rfl, by simp [listed, byteAt], rfl⟩
    · split at h
      · next one =>
        cases h
        subst one
        refine ⟨rfl, rfl, by simp [listed, byteAt], ?_⟩
        rw [encodeRequest, Request.fields, wordBytes_word4]
        rfl
      · split at h
        · next two =>
          cases h
          subst two
          exact ⟨rfl, rfl, by simp [listed, byteAt], rfl⟩
        · cases h
  · cases h

theorem bit01_some {b : Byte} {v : Bool} (h : bit01 b = some v) : b.toNat ≤ 1 ∧ flagByte v = b := by
  unfold bit01 at h
  split at h
  · next zero =>
    cases h
    exact ⟨by rw [zero]; decide, zero.symm⟩
  · split at h
    · next one =>
      cases h
      exact ⟨by rw [one]; decide, one.symm⟩
    · cases h

theorem spells_move {fs : List Byte} {r : Request} (h : decodeMove fs = some r) : Spells (0x10 :: fs) r := by
  unfold decodeMove at h
  split at h
  · next src dst auto t1 t0 =>
    obtain ⟨v, bit, rfl⟩ := Option.map_eq_some_iff.mp h
    obtain ⟨small, flag⟩ := bit01_some bit
    refine ⟨rfl, rfl, by simpa [listed, byteAt] using small, ?_⟩
    rw [encodeRequest, Request.fields, halfBytes_half2, flag]
    rfl
  · cases h

theorem spells_status {fs : List Byte} {r : Request} (h : decodeStatus fs = some r) : Spells (0x02 :: fs) r := by
  unfold decodeStatus at h
  split at h
  · next c =>
    obtain ⟨v, bit, rfl⟩ := Option.map_eq_some_iff.mp h
    obtain ⟨small, flag⟩ := bit01_some bit
    refine ⟨rfl, rfl, by simpa [listed, byteAt] using small, ?_⟩
    rw [encodeRequest, Request.fields, flag]
    rfl
  · cases h

theorem spells_scan {fs : List Byte} {r : Request} (h : decodeScan fs = some r) : Spells (0x11 :: fs) r := by
  unfold decodeScan at h
  split at h
  · cases h
    exact ⟨rfl, rfl, by simp [listed, byteAt], rfl⟩
  · cases h

theorem spells_media {fs : List Byte} {r : Request} (h : decodeMedia fs = some r) : Spells (0x03 :: fs) r := by
  unfold decodeMedia at h
  split at h
  · cases h
    exact ⟨rfl, rfl, by simp [listed, byteAt], rfl⟩
  · cases h

theorem spells_label {fs : List Byte} {r : Request} (h : decodeLabel fs = some r) : Spells (0x23 :: fs) r := by
  unfold decodeLabel at h
  obtain ⟨twelve, h⟩ := Option.ite_none_right_eq_some.mp h
  obtain rfl := Option.some.inj h
  refine ⟨decide_eq_true twelve, ?_, by simp [listed, byteAt], examined_plain (by simp [byteAt])⟩
  rw [List.length_cons, twelve]
  rfl

theorem spells_governor {fs : List Byte} {r : Request} (h : decodeGovernor fs = some r) : Spells (0x2A :: fs) r := by
  unfold decodeGovernor at h
  split at h
  · cases h
    exact ⟨rfl, rfl, by simp [listed, byteAt], rfl⟩
  · cases h

/-- What decodes is spelled by the payload (R173). -/
theorem spells_of_decodeFields {code : Byte} {fs : List Byte} {r : Request} (h : decodeFields code.toNat fs = some r) :
    Spells (code :: fs) r := by
  have byte_eq : ∀ n : Byte, code.toNat = n.toNat → n = code := fun n e => (BitVec.eq_of_toNat_eq e).symm
  have bare : ∀ (n : Byte) (q : Request), decodeBare q fs = some r → code.toNat = n.toNat →
      payloadLength n.toNat = some 1 → Claims.listed [n] → n.toNat ∉ [0x24, 0x25, 0x26, 0x2D] → [n] = encodeRequest q →
      q.wf = true → Spells (code :: fs) r := fun n q h e length listed plain encoding wf =>
    byte_eq n e ▸ spells_bare h length listed plain encoding wf
  unfold decodeFields at h
  split at h
  · next e => exact bare 0x01 .ident h e rfl (by simp [listed, byteAt]) (by decide) rfl rfl
  · next e => exact byte_eq 0x02 e ▸ spells_status h
  · next e => exact byte_eq 0x03 e ▸ spells_media h
  · next e => exact bare 0x04 .resetEngine h e rfl (by simp [listed, byteAt]) (by decide) rfl rfl
  · next e => exact byte_eq 0x10 e ▸ spells_move h
  · next e => exact byte_eq 0x11 e ▸ spells_scan h
  · next e => exact bare 0x12 .cancel h e rfl (by simp [listed, byteAt]) (by decide) rfl rfl
  · next e => exact bare 0x13 .changerReset h e rfl (by simp [listed, byteAt]) (by decide) rfl rfl
  · next e => exact bare 0x20 .load h e rfl (by simp [listed, byteAt]) (by decide) rfl rfl
  · next e => exact bare 0x21 .unload h e rfl (by simp [listed, byteAt]) (by decide) rfl rfl
  · next e => exact bare 0x22 .rewind h e rfl (by simp [listed, byteAt]) (by decide) rfl rfl
  · next e => exact byte_eq 0x23 e ▸ spells_label h
  · next e => exact byte_eq 0x24 e ▸ spells_write h
  · next e => exact byte_eq 0x25 e ▸ spells_verify h
  · next e => exact byte_eq 0x26 e ▸ spells_restore h
  · next e => exact byte_eq 0x27 e ▸ spells_abort h
  · next e => exact bare 0x28 .mark h e rfl (by simp [listed, byteAt]) (by decide) rfl rfl
  · next e => exact bare 0x29 .close h e rfl (by simp [listed, byteAt]) (by decide) rfl rfl
  · next e => exact byte_eq 0x2A e ▸ spells_governor h
  · next e => exact bare 0x2B .apply h e rfl (by simp [listed, byteAt]) (by decide) rfl rfl
  · next e => exact bare 0x2C .getGovernor h e rfl (by simp [listed, byteAt]) (by decide) rfl rfl
  · next e => exact byte_eq 0x2D e ▸ spells_watch h
  · next e => exact bare 0x2E .transportReset h e rfl (by simp [listed, byteAt]) (by decide) rfl rfl
  · cases h

theorem byte_eq_of_toNat {b : Byte} (n : Byte) (h : b.toNat = n.toNat) : b = n := BitVec.eq_of_toNat_eq h

theorem one_or_two {b : Byte} (h : 1 ≤ b.toNat ∧ b.toNat ≤ 2) : b = 1 ∨ b = 2 := by
  obtain one | two : b.toNat = 1 ∨ b.toNat = 2 := by omega
  · exact .inl (byte_eq_of_toNat 1 one)
  · exact .inr (byte_eq_of_toNat 2 two)

theorem one_to_three {b : Byte} (h : 1 ≤ b.toNat ∧ b.toNat ≤ 3) : b = 1 ∨ b = 2 ∨ b = 3 := by
  obtain one | two | three : b.toNat = 1 ∨ b.toNat = 2 ∨ b.toNat = 3 := by omega
  · exact .inl (byte_eq_of_toNat 1 one)
  · exact .inr (.inl (byte_eq_of_toNat 2 two))
  · exact .inr (.inr (byte_eq_of_toNat 3 three))

theorem bit01_of_le {b : Byte} (h : b.toNat ≤ 1) : ∃ v, bit01 b = some v := by
  obtain zero | one : b.toNat = 0 ∨ b.toNat = 1 := by omega
  · exact ⟨_, by rw [byte_eq_of_toNat 0 zero]; rfl⟩
  · exact ⟨_, by rw [byte_eq_of_toNat 1 one]; rfl⟩

section
variable {fs : List Byte} {code : Byte}

theorem decodeBare_of_length (r : Request) (h : fs.length = 0) : ∃ q, decodeBare r fs = some q := by
  rw [List.length_eq_zero_iff.mp h]
  exact ⟨r, rfl⟩

theorem decodeStatus_of_listed (h : fs.length = 1) (listed : byteAt (code :: fs) 1 ≤ 1) :
    ∃ r, decodeStatus fs = some r := by
  match fs, h with
  | [c], _ =>
    obtain ⟨v, bit⟩ := bit01_of_le (b := c) listed
    exact ⟨.status v, by rw [decodeStatus, bit]; rfl⟩

theorem decodeMedia_of_length (h : fs.length = 1) : ∃ r, decodeMedia fs = some r := by
  match fs, h with
  | [l], _ => exact ⟨_, rfl⟩

theorem decodeMove_of_listed (h : fs.length = 5) (listed : byteAt (code :: fs) 3 ≤ 1) : ∃ r, decodeMove fs = some r := by
  match fs, h with
  | [src, dst, auto, t1, t0], _ =>
    obtain ⟨v, bit⟩ := bit01_of_le (b := auto) listed
    exact ⟨_, by rw [decodeMove, bit]; rfl⟩

theorem decodeScan_of_length (h : fs.length = 2) : ∃ r, decodeScan fs = some r := by
  match fs, h with
  | [f, l], _ => exact ⟨_, rfl⟩

theorem decodeLabel_of_length (h : fs.length = 12) : ∃ r, decodeLabel fs = some r := ⟨_, if_pos h⟩

theorem decodeWrite_of_listed (h : fs.length = 6) (listed : 1 ≤ byteAt (code :: fs) 1 ∧ byteAt (code :: fs) 1 ≤ 2) :
    ∃ r, decodeWrite fs = some r := by
  match fs, h with
  | [m, a, b, c, d, l], _ => obtain rfl | rfl := one_or_two listed <;> exact ⟨_, rfl⟩

theorem decodeVerify_of_listed (h : fs.length = 11)
    (listed : (1 ≤ byteAt (code :: fs) 5 ∧ byteAt (code :: fs) 5 ≤ 2) ∧
      (1 ≤ byteAt (code :: fs) 10 ∧ byteAt (code :: fs) 10 ≤ 2) ∧ 1 ≤ byteAt (code :: fs) 11 ∧ byteAt (code :: fs) 11 ≤ 2) :
    ∃ r, decodeVerify fs = some r := by
  match fs, h with
  | [a, b, c, d, range, n3, n2, n1, n0, m, p], _ =>
    obtain ⟨ranges, modes, policies⟩ := listed
    have decoded : ∀ v, decodeRange range (word4 n3 n2 n1 n0) = some v → ∃ r,
        decodeVerify [a, b, c, d, range, n3, n2, n1, n0, m, p] = some r := fun v hv => by
      rw [decodeVerify, hv]
      dsimp only
      rw [if_pos (one_or_two (b := m) modes), if_pos (one_or_two (b := p) policies)]
      exact ⟨_, rfl⟩
    obtain rfl | rfl := one_or_two (b := range) ranges
    · exact decoded _ rfl
    · exact decoded _ rfl

theorem decodeRestore_of_listed (h : fs.length = 14)
    (listed : (1 ≤ byteAt (code :: fs) 1 ∧ byteAt (code :: fs) 1 ≤ 2) ∧ 1 ≤ byteAt (code :: fs) 10 ∧
      byteAt (code :: fs) 10 ≤ 3) : ∃ r, decodeRestore fs = some r := by
  match fs, h with
  | [s, a, b, c, d, o3, o2, o1, o0, e, n3, n2, n1, n0], _ =>
    obtain ⟨starts, stops⟩ := listed
    obtain rfl | rfl := one_or_two starts <;> obtain rfl | rfl | rfl := one_to_three stops <;> exact ⟨_, rfl⟩

theorem decodeAbort_of_listed (h : fs.length = 1) (listed : 1 ≤ byteAt (code :: fs) 1 ∧ byteAt (code :: fs) 1 ≤ 3) :
    ∃ r, decodeAbort fs = some r := by
  match fs, h with
  | [m], _ => obtain rfl | rfl | rfl := one_to_three listed <;> exact ⟨_, rfl⟩

theorem decodeGovernor_of_length (h : fs.length = 14) : ∃ r, decodeGovernor fs = some r := by
  match fs, h with
  | [s, d, ea, ma, ed, md, lmin, lmax, lstart, filler, restart, resume, n, clear], _ => exact ⟨_, rfl⟩

theorem decodeWatch_of_listed (h : fs.length = 5) (listed : byteAt (code :: fs) 1 ≤ 2) : ∃ r, decodeWatch fs = some r := by
  match fs, h with
  | [m, a, b, c, d], _ =>
    by_cases zero : m.toNat = 0
    · rw [byte_eq_of_toNat 0 zero]
      exact ⟨_, rfl⟩
    · have small : m.toNat ≤ 2 := listed
      obtain rfl | rfl := one_or_two (b := m) (by omega) <;> exact ⟨_, rfl⟩

/-- A payload of its code's length whose modes are listed decodes (R173). -/
theorem decodeFields_of_listed (length : payloadLength code.toNat = some (code :: fs).length)
    (listed : Claims.listed (code :: fs)) : ∃ r, decodeFields code.toNat fs = some r := by
  obtain ⟨l02, l10, l24, l25, l26, l27, l2D⟩ := listed
  have long : ∀ {n k : Nat}, code.toNat = n → payloadLength n = some (k + 1) → fs.length = k := fun e h => by
    rw [e, h, Option.some.injEq, List.length_cons] at length
    omega
  unfold decodeFields
  split
  · next e => exact decodeBare_of_length _ (long e rfl)
  · next e => exact decodeStatus_of_listed (long e rfl) (l02 e)
  · next e => exact decodeMedia_of_length (long e rfl)
  · next e => exact decodeBare_of_length _ (long e rfl)
  · next e => exact decodeMove_of_listed (long e rfl) (l10 e)
  · next e => exact decodeScan_of_length (long e rfl)
  · next e => exact decodeBare_of_length _ (long e rfl)
  · next e => exact decodeBare_of_length _ (long e rfl)
  · next e => exact decodeBare_of_length _ (long e rfl)
  · next e => exact decodeBare_of_length _ (long e rfl)
  · next e => exact decodeBare_of_length _ (long e rfl)
  · next e => exact decodeLabel_of_length (long e rfl)
  · next e => exact decodeWrite_of_listed (long e rfl) (l24 e)
  · next e => exact decodeVerify_of_listed (long e rfl) (l25 e)
  · next e => exact decodeRestore_of_listed (long e rfl) (l26 e)
  · next e => exact decodeAbort_of_listed (long e rfl) (l27 e)
  · next e => exact decodeBare_of_length _ (long e rfl)
  · next e => exact decodeBare_of_length _ (long e rfl)
  · next e => exact decodeGovernor_of_length (long e rfl)
  · next e => exact decodeBare_of_length _ (long e rfl)
  · next e => exact decodeBare_of_length _ (long e rfl)
  · next e => exact decodeWatch_of_listed (long e rfl) (l2D e)
  · next e => exact decodeBare_of_length _ (long e rfl)
  · simp_all [payloadLength]

end

/-! ## The numbers that are not examined (R173) -/

/-- At most one number of a payload is set to zero, and its place depends on the code. -/
theorem examined_cases (p : List Byte) :
    examined p = p ∨ ∃ n, examined p = p.mapIdx (fun k b => if n ≤ k ∧ k < n + 4 then 0 else b) ∧
      ((byteAt p 0 = 0x24 ∧ n = 2) ∨ (byteAt p 0 = 0x25 ∧ n = 6) ∨ (byteAt p 0 = 0x26 ∧ n = 11) ∨
        (byteAt p 0 = 0x2D ∧ n = 2)) := by
  unfold examined
  split
  · next h => exact .inr ⟨2, rfl, .inl ⟨h.1, rfl⟩⟩
  · split
    · next h => exact .inr ⟨6, rfl, .inr (.inl ⟨h.1, rfl⟩)⟩
    · split
      · next h => exact .inr ⟨11, rfl, .inr (.inr (.inl ⟨h.1, rfl⟩))⟩
      · split
        · next h => exact .inr ⟨2, rfl, .inr (.inr (.inr ⟨h.1, rfl⟩))⟩
        · exact .inl rfl

theorem examined_length (p : List Byte) : (examined p).length = p.length := by
  obtain e | ⟨n, e, -⟩ := examined_cases p <;> rw [e]
  exact List.length_mapIdx

theorem byteAt_mapIdx {p : List Byte} {n k : Nat} (h : ¬(n ≤ k ∧ k < n + 4)) :
    byteAt (p.mapIdx fun k b => if n ≤ k ∧ k < n + 4 then 0 else b) k = byteAt p k := by
  unfold byteAt
  rw [List.getD_eq_getElem?_getD, List.getD_eq_getElem?_getD, List.getElem?_mapIdx]
  cases p[k]? with
  | none => rfl
  | some b => rw [Option.map_some, if_neg h]

theorem byteAt_examined_zero (p : List Byte) : byteAt (examined p) 0 = byteAt p 0 := by
  obtain e | ⟨n, e, h⟩ := examined_cases p <;> rw [e]
  exact byteAt_mapIdx (by omega)

/-- The bytes that must hold listed values are all examined. -/
theorem listed_examined (p : List Byte) : listed (examined p) ↔ listed p := by
  obtain e | ⟨n, e, h⟩ := examined_cases p
  · rw [e]
  · have kept : ∀ k, ¬(n ≤ k ∧ k < n + 4) → byteAt (examined p) k = byteAt p k := fun k hk => by
      rw [e]
      exact byteAt_mapIdx hk
    have code := kept 0 (by omega)
    have first := kept 1 (by omega)
    obtain ⟨c, rfl⟩ | ⟨c, rfl⟩ | ⟨c, rfl⟩ | ⟨c, rfl⟩ := h
    · simp [listed, code, first, c]
    · simp [listed, code, c, kept 5, kept 10, kept 11]
    · simp [listed, code, first, c, kept 10]
    · simp [listed, code, first, c]

theorem decodeRequest_some {ch : Chan} {code : Byte} {fs : List Byte} {r : Request}
    (known : (codesOf ch).contains code.toNat = true) (decoded : decodeFields code.toNat fs = some r) :
    decodeRequest ch (code :: fs) = .ok r := by
  unfold decodeRequest
  dsimp only
  rw [if_pos known, decoded]

theorem decodeRequest_none {ch : Chan} {code : Byte} {fs : List Byte}
    (known : (codesOf ch).contains code.toNat = true) (decoded : decodeFields code.toNat fs = none) :
    decodeRequest ch (code :: fs) = .error .format := by
  unfold decodeRequest
  dsimp only
  rw [if_pos known, decoded]

/-- A payload that differs from the encoding of a request in unexamined numbers only decodes to it (R173). -/
theorem decodeRequest_of_examined {ch : Chan} {p : List Byte} {r : Request} (wf : r.wf = true) (onChan : r.onChan ch = true)
    (h : examined p = encodeRequest r) : decodeRequest ch p = .ok r := by
  have encoded := spells_of_decodeFields (decodeFields_fields wf)
  have same_length : p.length = (r.code :: r.fields).length := by rw [← examined_length p, h, encodeRequest]
  obtain ⟨code, fs, rfl⟩ : ∃ code fs, p = code :: fs := List.exists_cons_of_length_eq_add_one same_length
  have same_code : code.toNat = r.code.toNat := by
    have first := byteAt_examined_zero (code :: fs)
    rw [h] at first
    exact first.symm
  have listed_p : listed (code :: fs) := by
    rw [← listed_examined, h]
    exact encoded.listed
  have length_p : payloadLength code.toNat = some (code :: fs).length := by
    rw [same_code, same_length]
    exact encoded.length
  obtain ⟨q, decoded⟩ := decodeFields_of_listed length_p listed_p
  have spelled := spells_of_decodeFields decoded
  obtain ⟨codes, fields⟩ := List.cons.inj (spelled.encoding.symm.trans h)
  have same : some q = some r := by
    rw [← decodeFields_fields spelled.wf, ← decodeFields_fields wf, codes, fields]
  have known : (codesOf ch).contains code.toNat = true := by
    rw [same_code]
    exact onChan
  exact decodeRequest_some known (decoded.trans same)

/-- An empty payload, and a code that is none of its channel's, decodes to no request (R173). -/
theorem decodeRequest_unknown {ch : Chan} {p : List Byte} (h : p = [] ∨ ¬onItsChannel ch (p.headD 0).toNat) :
    decodeRequest ch p = .error .unknown := by
  cases p with
  | nil => rfl
  | cons code fs =>
    obtain empty | foreign := h
    · cases empty
    · exact if_neg fun known => foreign ((contains_codesOf ch code.toNat).mp known)

/-- A payload of another length than its code's, or with a mode that is not listed, decodes to no request (R173). -/
theorem decodeRequest_format {ch : Chan} {p : List Byte} (some_ : p ≠ []) (known : onItsChannel ch (p.headD 0).toNat)
    (h : payloadLength (p.headD 0).toNat ≠ some p.length ∨ ¬listed p) : decodeRequest ch p = .error .format := by
  cases p with
  | nil => exact absurd rfl some_
  | cons code fs =>
    cases decoded : decodeFields code.toNat fs with
    | none => exact decodeRequest_none ((contains_codesOf ch code.toNat).mpr known) decoded
    | some r =>
      obtain ⟨-, length, listed, -⟩ := spells_of_decodeFields decoded
      obtain other | unlisted := h
      · exact absurd length other
      · exact absurd listed unlisted

/-- Every other payload spells a request of its channel (R173). -/
theorem exists_request {ch : Chan} {p : List Byte} (known : onItsChannel ch (p.headD 0).toNat)
    (length : payloadLength (p.headD 0).toNat = some p.length) (listed : Claims.listed p) :
    ∃ r : Request, r.wf = true ∧ r.onChan ch = true ∧ examined p = encodeRequest r := by
  cases p with
  | nil => cases ch <;> simp [onItsChannel] at known
  | cons code fs =>
    obtain ⟨r, decoded⟩ := decodeFields_of_listed length listed
    obtain ⟨wf, -, -, encoding⟩ : Spells (code :: fs) r := spells_of_decodeFields decoded
    have first := byteAt_examined_zero (code :: fs)
    rw [encoding] at first
    have same_code : r.code.toNat = code.toNat := first
    refine ⟨r, wf, (contains_codesOf ch _).mpr ?_, encoding⟩
    rw [same_code]
    exact known

/-! ## Handling (O45) -/

/-- A command that is a request is handed straight to its block, behind the gate (log entry 5). -/
theorem exec_commandOf {ch : Chan} {r : Request} (h : r.onChan ch = true) (tag : Byte) (bay : BaySense) (s : State) :
    exec (commandOf ch tag bay r) s = (s.gate fun s => s.takeRequest ch tag bay r).answer := by
  cases ch <;> cases r <;> first | exact Bool.noConfusion h | rfl

theorem gate_full {s : State} (take : State → State) (going : s.lnk.resetting = false) (full : 16 ≤ s.lnk.replies.length) :
    s.gate take = { s with lnk := { s.lnk with errors := min 4294967295 (s.lnk.errors + 1) } } := by
  obtain ⟨resetting, -⟩ | ⟨-, -, e⟩ | ⟨-, room, -⟩ := s.gate_cases take
  · rw [going] at resetting
    cases resetting
  · exact e
  · omega

theorem handle_eq {s : State} {f : InFrame} {rest : List InFrame} (bay : BaySense) (going : s.lnk.resetting = false)
    (oldest : s.lnk.inbound = f :: rest) : s.handle bay = (frameTaken s rest).route f bay := by
  unfold State.handle
  rw [going, oldest]
  rfl

theorem route_request {f : InFrame} (s : State) (bay : BaySense) (request : f.dataIn = false) :
    s.route f bay = s.gate fun s => s.handRequest f bay := by
  unfold State.route
  rw [request]
  rfl

theorem handRequest_ok {f : InFrame} {r : Request} (s : State) (bay : BaySense)
    (h : decodeRequest f.chan f.payload = .ok r) : s.handRequest f bay = s.takeRequest f.chan f.tag bay r := by
  unfold State.handRequest
  rw [h]

theorem handRequest_error {f : InFrame} {why : Reason} (s : State) (bay : BaySense)
    (h : decodeRequest f.chan f.payload = .error why) :
    s.handRequest f bay = replied s f.chan f.tag (f.payload.headD 0) (.refused why) := by
  have code : codeByte f.payload = f.payload.headD 0 := by cases f.payload <;> rfl
  unfold State.handRequest
  rw [h, code]
  rfl

/-- Settles O45: the frame is routed behind the gate, and what its payload decodes to decides the rest. -/
theorem handlingRunsTheFrameTaken : Obligations.HandlingRunsTheFrameTaken := by
  unfold Obligations.HandlingRunsTheFrameTaken
  refine ⟨fun s ch tag bay r going full onChan => ?_, fun s f rest bay going oldest full request => ?_,
    fun s f rest bay going oldest => ⟨fun r request wf onChan encoding => ?_, ?_, fun t data chan => ?_⟩⟩
  · unfold Runs
    rw [exec_commandOf onChan, gate_full _ going full, State.answer]
  · refine congrArg State.answer ?_
    rw [handle_eq bay going oldest, route_request _ bay request]
    exact gate_full _ going full
  · refine ⟨_, congrArg State.answer ((handle_eq bay going oldest).trans (route_request _ bay request)), ?_⟩
    have decoded := decodeRequest_of_examined wf onChan encoding
    have same : (fun s : State => s.handRequest f bay) = fun s => s.takeRequest f.chan f.tag bay r :=
      funext fun s => handRequest_ok s bay decoded
    rw [exec_commandOf onChan, same, State.answer]
  · rintro code request rfl room
    have refused : ∀ {why : Reason}, decodeRequest f.chan f.payload = .error why →
        Runs (.handlingCompletion bay) s
          (replied (frameTaken s rest) f.chan f.tag (f.payload.headD 0) (.refused why)) := by
      intro why decoded
      refine congrArg State.answer ?_
      rw [handle_eq bay going oldest, route_request _ bay request]
      exact (State.gate_open (s := frameTaken s rest) (fun s => s.handRequest f bay) going room).trans
        (handRequest_error _ bay decoded)
    exact ⟨fun h => refused (decodeRequest_unknown h), fun some_ known h => refused (decodeRequest_format some_ known h),
      exists_request⟩
  · refine ⟨_, congrArg State.answer (handle_eq bay going oldest), ?_⟩
    have data_in : (frameTaken s rest).route f bay = (frameTaken s rest).takeDataIn t f.payload := by
      unfold State.route
      rw [data, chan]
      rfl
    have not_resetting : (frameTaken s rest).lnk.resetting = false := going
    rw [data_in]
    exact congrArg State.answer (if_neg (by rw [not_resetting]; exact Bool.false_ne_true))

end Sys2Proof.Proofs
end

section
/-! PROOFS. The ends of orders and the changer's requests and timers (R24, R27 to R29, R33, R36, R40, R46). -/

open Sys2Proof Sys2Proof.Machine Sys2Proof.Claims

namespace Sys2Proof.Proofs

-- One declaration at a time: elaborated in parallel, the joined text needs more threads than the memory limit holds.
set_option Elab.async false

/-- An event completes with the effect of its operation. -/
theorem runs_of_eq {c : Instr} {s v u : State} (arm : exec c s = v.answer) (h : v = u) : Runs c s u := h ▸ arm

/-! ## The ends of orders (R28) -/

theorem moveEndOf_started (s : State) (o : Order) (res : MoveResult) (loc : Option Loc) :
    Notice.moveEnd (s.moveEndOf o res (if o.isScan then none else loc) true) = orderEnd s o res loc := by
  cases o with
  | scan f l => rfl
  | move src dst auto tag =>
    show Notice.moveEnd (s.moveEndOf (.move src dst auto tag) res loc true) = _
    unfold State.moveEndOf orderEnd
    cases loc.bind s.mtb.get <;> rfl

/-- The end of the head order: its MOVE_END, and the orders behind it wait (R28, R44). -/
theorem endHead_eq {s : State} {o : Order} {rest : List Order} (h : s.chg.queue = o :: rest) (res : MoveResult)
    (loc : Option Loc) :
    s.endHead res loc =
      { s with lnk := queued s.lnk [orderEnd s o res loc], chg := withOrders s.chg rest } := by
  unfold State.endHead
  rw [h]
  dsimp only
  rw [moveEndOf_started]
  rfl

/-- The end of the head order and of those behind it (R28). -/
theorem endHead_cancelRest {s : State} {o : Order} {rest : List Order} (h : s.chg.queue = o :: rest) (res : MoveResult)
    (loc : Option Loc) :
    (s.endHead res loc).cancelRest =
      { s with lnk := queued s.lnk (orderEnd s o res loc :: cancelled rest), chg := withOrders s.chg [] } := by
  rw [endHead_eq h]
  unfold State.cancelRest
  rw [cancelOrders_eq]
  rfl

/-- Where a started order reports its record: at its source until the grip, in H from then on (R28). -/
theorem endRunning_eq_endHead {s : State} {o : Order} {rest : List Order} {st : OrderStep} {l : Loc}
    (h : s.chg.queue = o :: rest) (hs : s.chg.step = some st)
    (hl : ∀ src dst auto tag, o = .move src dst auto tag → stepLoc src st = l) (res : MoveResult) :
    s.endRunning res = s.endHead res (some l) := by
  unfold State.endRunning
  rw [h, hs]
  cases o with
  | scan f n =>
    rw [endHead_eq h, endHead_eq h]
    rfl
  | move src dst auto tag => rw [← hl src dst auto tag rfl]

theorem endRunning_eq {s : State} {o : Order} {rest : List Order} {st : OrderStep} {l : Loc}
    (h : s.chg.queue = o :: rest) (hs : s.chg.step = some st)
    (hl : ∀ src dst auto tag, o = .move src dst auto tag → stepLoc src st = l) (res : MoveResult) :
    s.endRunning res =
      { s with lnk := queued s.lnk [orderEnd s o res (some l)], chg := withOrders s.chg rest } := by
  rw [endRunning_eq_endHead h hs hl, endHead_eq h]

/-- A fault of the picker ends every order, FAULTED (R29, R33, R36). -/
theorem chgFault_eq {s : State} {o : Order} {rest : List Order} {st : OrderStep} {l : Loc}
    (h : s.chg.queue = o :: rest) (hs : s.chg.step = some st)
    (hl : ∀ src dst auto tag, o = .move src dst auto tag → stepLoc src st = l) (res : MoveResult) :
    s.chgFault res =
      { s with
        lnk := queued s.lnk (orderEnd s o res (some l) :: cancelled rest)
        chg := { withOrders s.chg [] with st := .faulted } } := by
  unfold State.chgFault
  rw [endRunning_eq_endHead h hs hl, endHead_cancelRest h]
  rfl

/-- A MOVE that has not gripped reports its record at its source (R28). -/
theorem stepLoc_gripLoc {c : Chg} {o : Order} {st : OrderStep} (src dst : Loc) (auto : Bool) (tag : Half)
    (ho : o = .move src dst auto tag) (h : stepLoc src st = src) : stepLoc src st = c.gripLoc o := by
  subst ho
  exact h

/-- Settles O20: each fault is the end of every order with the picker or the hand as the fault leaves it. -/
theorem pickerFaultsStopTheChanger : Obligations.PickerFaultsStopTheChanger := by
  unfold Obligations.PickerFaultsStopTheChanger
  refine ⟨fun s o rest st queue step travel => ?_, fun s o rest queue => ⟨fun step => ?_, fun a b step => ?_⟩⟩
  · refine runs_of_eq (v := s.travelLost) rfl ?_
    unfold State.travelLost
    rw [step]
    obtain rfl | rfl := travel
    · dsimp only
      rw [chgFault_eq queue step fun src dst auto tag ho => stepLoc_gripLoc (c := s.chg) src dst auto tag ho rfl]
      rfl
    · dsimp only
      rw [chgFault_eq (l := .hand) queue step fun _ _ _ _ _ => rfl]
      rfl
  · refine runs_of_eq (v := s.gripLost) rfl ?_
    unfold State.gripLost
    rw [step, queue]
    dsimp only
    rw [chgFault_eq queue step fun src dst auto tag ho => stepLoc_gripLoc (c := s.chg) src dst auto tag ho rfl]
    rfl
  · refine runs_of_eq (v := s.placeLost) rfl ?_
    unfold State.placeLost
    rw [step, queue]
    dsimp only
    rw [chgFault_eq (l := .hand) queue step fun _ _ _ _ _ => rfl]
    rfl

/-! ## MOVE and SCAN (R27) -/

theorem idx_ofCode {n : Nat} {l : Loc} (h : Loc.ofCode n = some l) : l.idx.val = n := by
  unfold Loc.ofCode at h
  split at h
  · cases h
    rfl
  · repeat' split at h
    all_goals first | (cases h; simp only [Loc.idx]; omega) | exact absurd h (by simp)

theorem ofCode_ofIdx {n : Nat} (h : n ≤ 19) : ∃ l, Loc.ofCode n = some l := by
  unfold Loc.ofCode
  repeat' split
  all_goals first | exact ⟨_, rfl⟩ | omega

theorem ofCode_hand {n : Nat} (h : Loc.ofCode n = some .hand) : n = 19 := (idx_ofCode h).symm

theorem ofCode_inj {a b : Byte} {l : Loc} (ha : Loc.ofCode a.toNat = some l) (hb : Loc.ofCode b.toNat = some l) :
    a = b :=
  BitVec.eq_of_toNat_eq ((idx_ofCode ha).symm.trans (idx_ofCode hb))

/-- The codes of a MOVE that is refused RANGE (R27). -/
theorem moveOrder_none {src dst : Byte} (auto : Bool) (tag : Half)
    (h : 19 < src.toNat ∨ 18 < dst.toNat ∨ src = dst) : moveOrder src dst auto tag = none := by
  unfold moveOrder
  split
  next a b ha hb =>
    have no_order : b = .hand ∨ a = b := by
      obtain high | high | rfl := h
      · exact absurd (ofCode_some ha) (by omega)
      · have in_range := ofCode_some hb
        have code : dst.toNat = 19 := by omega
        rw [code] at hb
        exact .inl (Option.some.inj hb).symm
      · exact .inr (Option.some.inj (ha.symm.trans hb))
    rw [if_pos no_order]
  next => rfl

/-- The codes of a MOVE that asks for an order (R27). -/
theorem moveOrder_some {src dst : Byte} (auto : Bool) (tag : Half) (hs : src.toNat ≤ 19) (hd : dst.toNat ≤ 18)
    (hne : src ≠ dst) :
    ∃ a b, Loc.ofCode src.toNat = some a ∧ moveOrder src dst auto tag = some (.move a b auto tag) := by
  obtain ⟨a, ha⟩ := ofCode_ofIdx hs
  obtain ⟨b, hb⟩ := ofCode_ofIdx (n := dst.toNat) (by omega)
  have order : ¬ (b = .hand ∨ a = b) := by
    rintro (rfl | rfl)
    · have := ofCode_hand hb
      omega
    · exact hne (ofCode_inj ha hb)
  refine ⟨a, b, ha, ?_⟩
  unfold moveOrder
  rw [ha, hb]
  exact if_neg order

/-- The states that R27 lets no MOVE and SCAN in: a changer that is homing, halted or faulted. -/
theorem refuses_iff (st : ChgState) : st.refuses = true ↔ st = .homing ∨ st = .halted ∨ st = .faulted := by
  cases st <;> simp [ChgState.refuses]

theorem bayMayGive_iff (s : State) (l : Loc) :
    s.bayMayGive l = true ↔ ∀ t, l = .bay t → (s.tc t).st = .seated ∨ (s.tc t).job = some .unload := by
  unfold State.bayMayGive
  cases l with
  | bay t =>
    have unloads : (match (s.tc t).job with | some .unload => true | _ => false) = true ↔
        (s.tc t).job = some .unload := by
      split
      next h => simp [h]
      next h => simp only [Bool.false_eq_true, false_iff]; exact h
    simp only [Bool.or_eq_true, decide_eq_true_eq, Loc.bay.injEq, forall_eq']
    exact or_congr_right unloads
  | slot i => simp
  | mail => simp
  | hand => simp

theorem takeMove_range {s : State} {tag src dst : Byte} {auto : Bool} {o : Half}
    (h : 19 < src.toNat ∨ 18 < dst.toNat ∨ src = dst) :
    s.takeMove tag src dst auto o = replied s .changer tag 0x10 (.refused .range) := by
  unfold State.takeMove
  rw [moveOrder_none auto o h]
  rfl

/-- What a MOVE in range does: R27's checks of it, in their order. -/
theorem takeMove_eq {s : State} {tag src dst : Byte} {auto : Bool} {o : Half} {a b : Loc}
    (h : moveOrder src dst auto o = some (.move a b auto o)) :
    s.takeMove tag src dst auto o =
      if s.chg.st.refuses = true ∨ (s.chg.st = .held ∧ a ≠ .hand) ∨ s.bayMayGive a = false then
        replied s .changer tag 0x10 (.refused .state)
      else if 8 ≤ s.chg.queue.length then replied s .changer tag 0x10 (.refused .queueFull)
      else { replied s .changer tag 0x10 .accepted with chg := joined s.chg (.move a b auto o) } := by
  unfold State.takeMove
  rw [h]
  show (if s.chg.st.refuses then _ else if s.chg.st = .held ∧ a ≠ .hand then _ else if !s.bayMayGive a then _ else _) = _
  by_cases refuses : s.chg.st.refuses = true
  · rw [if_pos refuses, if_pos (.inl refuses)]
    rfl
  by_cases held : s.chg.st = .held ∧ a ≠ .hand
  · rw [if_neg refuses, if_pos held, if_pos (.inr (.inl held))]
    rfl
  by_cases gives : s.bayMayGive a = true
  · have passes : ¬ (s.chg.st.refuses = true ∨ (s.chg.st = .held ∧ a ≠ .hand) ∨ s.bayMayGive a = false) := by
      rw [gives]
      simp only [Bool.true_eq_false, or_false]
      exact not_or.mpr ⟨refuses, held⟩
    have given : ¬ (!s.bayMayGive a) = true := by
      rw [gives]
      decide
    rw [if_neg refuses, if_neg held, if_neg given, if_neg passes]
    rfl
  · have none_given := Bool.eq_false_iff.mpr gives
    rw [if_neg refuses, if_neg held, if_pos (by rw [none_given]; rfl), if_pos (.inr (.inr none_given))]
    rfl

theorem takeScan_range {s : State} {tag first last : Byte}
    (h : 16 < first.toNat ∨ 16 < last.toNat ∨ last.toNat < first.toNat) :
    s.takeScan tag first last = replied s .changer tag 0x11 (.refused .range) := if_pos h

/-- What a SCAN in range does: R27's checks of it, in their order. -/
theorem takeScan_eq {s : State} {tag first last : Byte} (hf : first.toNat ≤ last.toNat) (hl : last.toNat ≤ 16) :
    s.takeScan tag first last =
      if s.chg.st.refuses = true ∨ s.chg.st = .held then replied s .changer tag 0x11 (.refused .state)
      else if 8 ≤ s.chg.queue.length then replied s .changer tag 0x11 (.refused .queueFull)
      else { replied s .changer tag 0x11 .accepted with chg := joined s.chg (.scan first.toNat last.toNat) } :=
  if_neg (by omega)

/-- A state that is none of those in which orders join the queue. -/
theorem not_refuses {st : ChgState} (h : st = .idle ∨ st = .running ∨ st = .waitBay ∨ st = .waitMail ∨ st = .held) :
    ¬ st.refuses = true := by
  rw [refuses_iff]
  rintro (rfl | rfl | rfl) <;> simp at h

/-- Settles O14: R27's checks, one after another. -/
theorem moveAndScanJoinTheQueueOrAreRefused : Obligations.MoveAndScanJoinTheQueueOrAreRefused := by
  unfold Obligations.MoveAndScanJoinTheQueueOrAreRefused
  have moves : ∀ {s u : State} {tag src dst : Byte} {auto : Bool} {o : Half}, Takes s →
      s.takeMove tag src dst auto o = u → Runs (.move tag src dst auto o) s u := fun {s u tag src dst auto o} takes e =>
    e ▸ runs_of_gate (take := fun s => s.takeMove tag src dst auto o) rfl takes
  have scans : ∀ {s u : State} {tag first last : Byte}, Takes s →
      s.takeScan tag first last = u → Runs (.scan tag first last) s u := fun {s u tag first last} takes e =>
    e ▸ runs_of_gate (take := fun s => s.takeScan tag first last) rfl takes
  refine ⟨fun s tag src dst auto o takes => ⟨fun a b ha hb accepted => ?_, fun range => moves takes (takeMove_range range),
    fun hs hd hne refused => ?_, fun t ha hd hne not_seated no_unload => ?_, fun a ha hd hne full st gives => ?_⟩,
    fun s tag first last takes => ⟨fun hf hl st room => ?_, fun range => scans takes (takeScan_range range),
      fun hf hl refused => ?_, fun hf hl st full => ?_⟩⟩
  · obtain ⟨not_hand, differ, st, gives, room⟩ := accepted
    have order : moveOrder src dst auto o = some (.move a b auto o) := by
      unfold moveOrder
      rw [ha, hb]
      exact if_neg (not_or.mpr ⟨not_hand, differ⟩)
    refine moves takes ((takeMove_eq order).trans ((if_neg ?_).trans (if_neg (by omega))))
    rintro (refuses | ⟨held, not_h⟩ | none_given)
    · refine not_refuses ?_ refuses
      obtain h | h | h | h | ⟨h, -⟩ := st <;> simp [h]
    · simp [held, not_h] at st
    · rw [(bayMayGive_iff s a).mpr gives] at none_given
      exact Bool.noConfusion none_given
  · obtain ⟨a, b, ha, order⟩ := moveOrder_some auto o hs hd hne
    refine moves takes ((takeMove_eq order).trans (if_pos ?_))
    obtain h | h | h | ⟨held, not_h⟩ := refused
    · exact .inl ((refuses_iff _).mpr (.inl h))
    · exact .inl ((refuses_iff _).mpr (.inr (.inl h)))
    · exact .inl ((refuses_iff _).mpr (.inr (.inr h)))
    · refine .inr (.inl ⟨held, ?_⟩)
      rintro rfl
      exact not_h (BitVec.eq_of_toNat_eq (ofCode_hand ha))
  · obtain ⟨a, b, ha', order⟩ := moveOrder_some auto o (ofCode_some ha) hd hne
    obtain rfl := Option.some.inj (ha'.symm.trans ha)
    refine moves takes ((takeMove_eq order).trans (if_pos (.inr (.inr (Bool.eq_false_iff.mpr ?_)))))
    rw [Ne, bayMayGive_iff]
    exact fun gives => (gives t rfl).elim not_seated no_unload
  · obtain ⟨a', b, ha', order⟩ := moveOrder_some auto o (ofCode_some ha) hd hne
    obtain rfl := Option.some.inj (ha'.symm.trans ha)
    refine moves takes ((takeMove_eq order).trans ((if_neg ?_).trans (if_pos full)))
    rintro (refuses | ⟨held, not_h⟩ | none_given)
    · refine not_refuses ?_ refuses
      obtain h | h | h | h | ⟨h, -⟩ := st <;> simp [h]
    · simp [held, not_h] at st
    · rw [(bayMayGive_iff s a').mpr gives] at none_given
      exact Bool.noConfusion none_given
  · refine scans takes ((takeScan_eq hf hl).trans ((if_neg ?_).trans (if_neg (by omega))))
    rw [refuses_iff]
    obtain h | h | h | h := st <;> simp [h]
  · refine scans takes ((takeScan_eq hf hl).trans (if_pos ?_))
    rw [refuses_iff, or_assoc, or_assoc]
    exact refused
  · refine scans takes ((takeScan_eq hf hl).trans ((if_neg ?_).trans (if_pos full)))
    rw [refuses_iff]
    obtain h | h | h | h := st <;> simp [h]

end Sys2Proof.Proofs
end

section
/-! PROOFS. The changer's resets, doors, timers and homing (R24, R31, R32, R40 to R47). -/

open Sys2Proof Sys2Proof.Machine Sys2Proof.Claims

namespace Sys2Proof.Proofs

-- One declaration at a time: elaborated in parallel, the joined text needs more threads than the memory limit holds.
set_option Elab.async false

/-! ## Cutting off what runs (R24, R28, R40, R46) -/

theorem queued_append (l : Lnk) (ms ns : List Notice) : queued l (ms ++ ns) = queued (queued l ms) ns :=
  List.foldl_append

/-- A note operation is ended with the record of a write INVALID, and the image discarded (R24). -/
theorem cutNote_eq (s : State) :
    s.cutNote =
      { s with
        mtb := noteCut s
        chg := { s.chg with noteOp := none, image := if s.chg.noteOp = none then s.chg.image else none } } := by
  unfold State.cutNote noteCut
  cases hn : s.chg.noteOp with
  | none =>
    have same : { s.chg with noteOp := none, image := s.chg.image } = s.chg := by rw [← hn]
    cases s.chg.queue <;> exact (congrArg (fun c => { s with chg := c }) same).symm
  | some op => cases op <;> cases s.chg.queue <;> rfl

theorem cutHand_eq (c : Chg) : c.cutHand = handCut c := by
  unfold Chg.cutHand handCut
  cases c.queue with
  | nil => rfl
  | cons o os =>
    cases c.step with
    | none => cases o <;> rfl
    | some st => cases o <;> cases st <;> rfl

/-- The changer with every order cut off: the hand, the note operation and its image as they then are (R24, R39), and
the counts of the order that ran. -/
def cutOff (c : Chg) (scanAt visited notesRead : Nat) (noteFault : Bool) : Chg :=
  { c with
    queue := [], step := none, mailLock := false, noteOp := none, hand := handCut c
    image := if c.noteOp = none then c.image else none
    scanAt, visited, notesRead, noteFault }

theorem cutEnds_of_none {s : State} (h : s.chg.step = none) (res : MoveResult) :
    cutEnds s res = cancelled s.chg.queue := by
  unfold cutEnds
  rw [h]
  cases s.chg.queue <;> rfl

theorem cutEnds_of_nil {s : State} (h : s.chg.queue = []) (res : MoveResult) : cutEnds s res = [] := by
  unfold cutEnds
  rw [h]
  rfl

/-- A started order ends where its step has left the record (R28). -/
theorem cutEnds_of_cons {s : State} {o : Order} {rest : List Order} {st : OrderStep} (hq : s.chg.queue = o :: rest)
    (hs : s.chg.step = some st) (res : MoveResult) :
    ∃ l, (∀ src dst auto tag, o = .move src dst auto tag → stepLoc src st = l) ∧
      cutEnds s res = orderEnd { s with mtb := noteCut s } o res (some l) :: cancelled rest := by
  unfold cutEnds
  rw [hq, hs]
  refine ⟨_, fun src dst auto tag ho => ?_, rfl⟩
  subst ho
  cases st <;> rfl

/-- Cutting off the orders: their ends, a note operation ended, the hand as the cut-off step leaves it (R28, R40). -/
theorem cutOrders_eq (s : State) (res : MoveResult) :
    ∃ a v n f, s.cutOrders res =
      { s with lnk := queued s.lnk (cutEnds s res), mtb := noteCut s, chg := cutOff s.chg a v n f } := by
  have hand : s.cutNote.chg.cutHand = handCut s.chg := by
    rw [cutHand_eq, cutNote_eq]
    rfl
  have started : s.cutNote.chg.step = s.chg.step := by rw [cutNote_eq]
  have waiting : s.cutNote.chg.queue = s.chg.queue := by rw [cutNote_eq]
  have stays : s.chg.queue = [] → s.cutNote.endRunning res = s.cutNote := fun hq => by
    unfold State.endRunning State.endHead
    rw [waiting, hq]
  unfold State.cutOrders State.cancelRest
  dsimp only
  rw [hand, started, cancelOrders_eq]
  cases hs : s.chg.step with
  | none =>
    refine ⟨s.chg.scanAt, s.chg.visited, s.chg.notesRead, s.chg.noteFault, ?_⟩
    rw [cutEnds_of_none hs, if_neg (by simp), cutNote_eq]
    rfl
  | some st =>
    rw [if_pos (by simp)]
    cases hq : s.chg.queue with
    | nil =>
      refine ⟨s.chg.scanAt, s.chg.visited, s.chg.notesRead, s.chg.noteFault, ?_⟩
      rw [cutEnds_of_nil hq, stays hq, cutNote_eq]
      simp only [State.modChg, hq]
      rfl
    | cons o rest =>
      obtain ⟨l, hl, ends⟩ := cutEnds_of_cons hq hs res
      refine ⟨0, 0, 0, false, ?_⟩
      rw [ends, endRunning_eq (l := l) (waiting.trans hq) (started.trans hs) hl, cutNote_eq]
      rfl

/-- Notices reach the notices and the LOST mark of the link, and nothing else (R176). -/
theorem queued_eq (l : Lnk) (ns : List Notice) : ∃ ms lost, queued l ns = { l with notices := ms, lost := lost } := by
  induction ns generalizing l with
  | nil => exact ⟨l.notices, l.lost, rfl⟩
  | cons n ns ih =>
    obtain ⟨ms, lost, e⟩ := ih (l.pushNotice n)
    obtain ⟨-, first⟩ | ⟨-, first⟩ := l.pushNotice_cases n
    · exact ⟨ms, lost, e.trans (first ▸ rfl)⟩
    · exact ⟨ms, lost, e.trans (first ▸ rfl)⟩

/-- Settles O16: every order cut off behind the DONE, and the homing started or owed. -/
theorem changerResetEndsEveryOrder : Obligations.ChangerResetEndsEveryOrder := by
  unfold Obligations.ChangerResetEndsEveryOrder
  intro s tag takes
  refine ⟨_, runs_of_gate (take := fun s => s.takeChangerReset tag) rfl takes, ?_⟩
  obtain ⟨a, v, n, f, cut⟩ := cutOrders_eq (s.chgReply tag 0x13 (.done [])) .reset
  have ends : cutEnds (s.chgReply tag 0x13 (.done [])) .reset = cutEnds s .reset := rfl
  have table : noteCut (s.chgReply tag 0x13 (.done [])) = noteCut s := rfl
  rw [ends, table] at cut
  obtain ⟨ms, lost, link⟩ := queued_eq (withReply s.lnk .changer tag 0x13 (.done [])) (cutEnds s .reset)
  unfold State.takeChangerReset
  rw [cut]
  have main : (cutOff (s.chgReply tag 0x13 (.done [])).chg a v n f).mainOpen = s.chg.mainOpen := rfl
  dsimp only
  rw [main]
  have inbound : ∀ c, InboundKept s { s with
      lnk := queued (withReply s.lnk .changer tag 0x13 (.done [])) (cutEnds s .reset), mtb := noteCut s, chg := c } := by
    intro c
    rw [link]
    exact inboundKept_refl s
  cases door : s.chg.mainOpen
  · rw [if_neg (by simp)]
    exact ⟨rfl, rfl, rfl, rfl, rfl, rfl, rfl, rfl, rfl, rfl, door, rfl, rfl, rfl, rfl, rfl, rfl, rfl, rfl, inbound _⟩
  · rw [if_pos rfl]
    exact ⟨rfl, rfl, rfl, rfl, rfl, rfl, rfl, rfl, rfl, rfl, door, rfl, rfl, rfl, rfl, rfl, rfl, rfl, rfl, inbound _⟩

/-! ## The main door (R40, R41) -/

theorem get_doubtAll_map (m : Mtb) (l : Loc) :
    m.doubtAll.get l = (m.get l).map fun r =>
      { r with presence := match l with | .slot _ | .mail => .unknown | .bay _ | .hand => r.presence } := by
  rw [Mtb.get_doubtAll]
  cases l with
  | slot i => exact if_pos (by simp only [Loc.idx]; omega)
  | mail => rfl
  | bay t => cases t <;> exact Option.map_id'.symm ▸ rfl
  | hand => exact Option.map_id'.symm ▸ rfl

/-- A settled hand, by the grip sensor: held or empty, without a take-hold (R42). -/
theorem settleHand_eq {s : State} {l : Loc} (h : s.chg.hand = .unsettledGrip l ∨ s.chg.hand = .unsettledPlace l)
    (grip : Bool) :
    s.settleHand grip =
      { s with
        mtb := (s.settleHand grip).mtb
        chg :=
          { s.chg with
            hand := if grip then .holding else .empty
            image := if grip then s.chg.image else none
            takeHold := none } } := by
  have records : ∀ k, ∃ m, s.settleRecords k grip = { s with mtb := m } := by
    intro k
    unfold State.settleRecords State.createRecord
    split
    · split <;> exact ⟨_, rfl⟩
    · exact ⟨_, rfl⟩
    · exact ⟨_, rfl⟩
    · exact ⟨s.mtb, rfl⟩
  obtain ⟨m, hm⟩ := records s.chg.hand
  unfold State.settleHand
  obtain hand | hand := h <;> rw [hand] at hm ⊢ <;> dsimp only <;> rw [hm] <;> rfl

theorem settleHand_of_settled {s : State} (h : s.chg.hand = .empty ∨ s.chg.hand = .holding) (grip : Bool) :
    s.settleHand grip = s := by
  unfold State.settleHand
  obtain hand | hand := h <;> rw [hand]

theorem createRecord_mtb (s : State) (l : Loc) :
    (s.createRecord l).mtb = if (s.mtb.get l).isSome then s.mtb else s.mtb.put l (some {}) :=
  apply_ite State.mtb ..

/-- What settles the hand is read from the table, the hand and the jobs, which a notice and a door leave as they are. -/
theorem settleHand_mtb_congr {s v : State} (hm : v.mtb = s.mtb) (hh : v.chg.hand = s.chg.hand)
    (hj : v.hasJob = s.hasJob) (grip : Bool) : (v.settleHand grip).mtb = (s.settleHand grip).mtb := by
  have records : ∀ k, (v.settleRecords k grip).mtb = (s.settleRecords k grip).mtb := by
    intro k
    unfold State.settleRecords
    rw [hm]
    split
    · simp only [createRecord_mtb, State.passRecord, State.modMtb, hm, hj]
    · simp only [State.passRecord, State.modMtb, hm, hj]
    · simp only [State.passRecord, State.modMtb, hm, hj]
    · exact hm
  unfold State.settleHand
  rw [hh]
  cases s.chg.hand with
  | empty => exact hm
  | holding => exact hm
  | unsettledGrip l => exact records _
  | unsettledPlace l => exact records _

/-- Settles O25: the opening cuts off every order and doubts the records; the closing settles a hand or starts what is
owed. -/
theorem mainDoorHaltsAndResumesTheChanger : Obligations.MainDoorHaltsAndResumesTheChanger := by
  unfold Obligations.MainDoorHaltsAndResumesTheChanger
  refine ⟨fun s closed => ?_, fun s grip main_open => ?_⟩
  · refine ⟨_, rfl, ?_⟩
    obtain ⟨a, v, n, f, cut⟩ := cutOrders_eq s .doorOpen
    unfold State.mainOpened
    rw [if_neg (by simp [closed]), cut]
    exact ⟨rfl, rfl, rfl, rfl, rfl, rfl, rfl, rfl, rfl, rfl, rfl, rfl, get_doubtAll_map (noteCut s),
      (queued_append s.lnk (cutEnds s .doorOpen) [.door true]).symm, rfl, rfl, rfl, rfl, rfl⟩
  have closes : s.mainClosed grip =
      (if s.chg.st = .halted then
        if s.chg.homingOwed then
          ((s.notify (.door false)).modChg fun c => { c with mainOpen := false }).startHoming
        else
          (((s.notify (.door false)).modChg fun c => { c with mainOpen := false }).settleHand grip).chgGoto
            (((s.notify (.door false)).modChg fun c => { c with mainOpen := false }).settleHand grip).chg.rest
      else (s.notify (.door false)).modChg fun c => { c with mainOpen := false }) := by
    unfold State.mainClosed
    rw [if_neg (by simp [main_open])]
  refine ⟨fun not_halted => ?_, fun halted owed => ?_, fun halted not_owed settled => ?_,
    fun l halted not_owed unsettled => ?_⟩
  · exact runs_of_eq (v := s.mainClosed grip) rfl (closes.trans (if_neg not_halted))
  · exact runs_of_eq (v := s.mainClosed grip) rfl (closes.trans ((if_pos halted).trans (if_pos owed)))
  · refine runs_of_eq (v := s.mainClosed grip) rfl (closes.trans ((if_pos halted).trans ((if_neg (by simp [not_owed])).trans ?_)))
    rw [settleHand_of_settled (s := (s.notify (.door false)).modChg fun c => { c with mainOpen := false }) settled]
    rfl
  · refine runs_of_eq (v := s.mainClosed grip) rfl (closes.trans ((if_pos halted).trans ((if_neg (by simp [not_owed])).trans ?_)))
    have table := settleHand_mtb_congr (s := s)
      (v := (s.notify (.door false)).modChg fun c => { c with mainOpen := false }) rfl rfl rfl grip
    rw [settleHand_eq (s := (s.notify (.door false)).modChg fun c => { c with mainOpen := false }) unsettled, table]
    cases grip <;> rfl

/-! ## Homing (R42, R47) -/

theorem get_pass_src (m : Mtb) (jobs : Tr → Bool) {src dst : Loc} (h : dst ≠ src) :
    (m.pass jobs src dst).get src = none := by
  unfold Mtb.pass
  split
  next absent => exact absent
  next =>
    rw [Mtb.get_settle, Mtb.get_put_of_ne _ _ h.symm, Mtb.get_put]
    rfl

/-- The record that has passed, as it enters, but for DUPLICATE (R1, R52). -/
theorem get_pass_dst {m : Mtb} {src : Loc} {r : CartRecord} (h : m.get src = some r) (jobs : Tr → Bool) (dst : Loc) :
    ∃ d, (m.pass jobs src dst).get dst = some { m.entering jobs r dst with duplicate := d } := by
  unfold Mtb.pass
  rw [h]
  dsimp only
  rw [Mtb.get_settle, Mtb.get_put]
  exact ⟨_, rfl⟩

/-- A passing reaches two records; of the others it settles DUPLICATE (R1, R6). -/
theorem get_pass_other (m : Mtb) (jobs : Tr → Bool) (src dst k : Loc) (hs : k ≠ src) (hd : k ≠ dst) :
    (((m.pass jobs src dst).get k).map fun q => { q with duplicate := false }) =
      (m.get k).map fun q => { q with duplicate := false } := by
  unfold Mtb.pass
  split
  next => rfl
  next r _ =>
    rw [Mtb.get_settle, Mtb.get_put_of_ne _ _ hd, Mtb.get_put_of_ne _ _ hs]
    cases m.get k <;> rfl

theorem pass_of_none {m : Mtb} {src : Loc} (h : m.get src = none) (jobs : Tr → Bool) (dst : Loc) :
    m.pass jobs src dst = m := by
  unfold Mtb.pass
  rw [h]

@[simp] theorem bayValues_settle (m : Mtb) (t : Tr) : m.settle.bayValues t = m.bayValues t := by
  cases t <;> simp only [Mtb.bayValues, Mtb.settle]

@[simp] theorem bayValues_put (m : Mtb) (l : Loc) (r : Option CartRecord) (t : Tr) :
    (m.put l r).bayValues t = m.bayValues t := by
  cases t <;> simp only [Mtb.bayValues, Mtb.put]

@[simp] theorem bayValues_pass (m : Mtb) (jobs : Tr → Bool) (src dst : Loc) (t : Tr) :
    (m.pass jobs src dst).bayValues t = m.bayValues t := by
  unfold Mtb.pass
  split
  · rfl
  · rw [bayValues_settle, bayValues_put, bayValues_put]

theorem withBay_keeps (r : CartRecord) (v : Option BayValues) :
    (r.withBay v).label = r.label ∧ (r.withBay v).presence = r.presence := by
  cases v <;> exact ⟨rfl, rfl⟩

/-- What a record keeps when it enters a location: all but class, protect and binding (R8, R14). -/
theorem entering_keeps (m : Mtb) (jobs : Tr → Bool) (r : CartRecord) (l : Loc) :
    (m.entering jobs r l).label = r.label ∧ (m.entering jobs r l).presence = r.presence := by
  unfold Mtb.entering
  split
  next t =>
    dsimp only
    have kept := withBay_keeps r (m.bayValues t)
    split
    · exact kept
    · exact kept
  next => exact ⟨rfl, rfl⟩

/-- A record that stands at l passes to k, with its label and presence (R1). -/
theorem pass_takes {m : Mtb} {l k : Loc} {r : CartRecord} (h : m.get l = some r) (hne : k ≠ l) (jobs : Tr → Bool) :
    (m.pass jobs l k).get l = none ∧
      ∃ r', (m.pass jobs l k).get k = some r' ∧ r'.label = r.label ∧ r'.presence = r.presence := by
  obtain ⟨d, taken⟩ := get_pass_dst h jobs k
  obtain ⟨label, presence⟩ := entering_keeps m jobs r k
  exact ⟨get_pass_src m jobs hne, _, taken, label, presence⟩

/-- R42's table: the records as the settling of an unsettled hand leaves them. -/
theorem settleHand_mtb {s : State} {l : Loc} (h : s.chg.hand = .unsettledGrip l ∨ s.chg.hand = .unsettledPlace l)
    (grip : Bool) : (s.settleHand grip).mtb = (s.settleRecords s.chg.hand grip).mtb := by
  unfold State.settleHand
  obtain hand | hand := h <;> rw [hand] <;> rfl

theorem settleRecords_of_grip {s : State} (l : Loc) (h : s.mtb.get .hand = none) :
    (s.settleRecords (.unsettledGrip l) true) = (s.passRecord l .hand).createRecord .hand := by
  unfold State.settleRecords
  rw [h]
  rfl

theorem settleRecords_of_release {s : State} {r : CartRecord} (l : Loc) (h : s.mtb.get .hand = some r) :
    s.settleRecords (.unsettledPlace l) false = s.passRecord .hand l := by
  unfold State.settleRecords
  rw [h]
  rfl

theorem settleRecords_of_kept {s : State} (l : Loc) (h : s.mtb.get .hand = none) :
    s.settleRecords (.unsettledPlace l) true = s.passRecord l .hand := by
  unfold State.settleRecords
  rw [h]
  rfl

theorem createRecord_of_some {s : State} {l : Loc} {r : CartRecord} (h : s.mtb.get l = some r) : s.createRecord l = s := by
  unfold State.createRecord
  rw [if_pos (by simp [h])]

theorem createRecord_of_none {s : State} {l : Loc} (h : s.mtb.get l = none) :
    s.createRecord l = { s with mtb := s.mtb.put l (some {}) } := by
  unfold State.createRecord
  rw [if_neg (by simp [h])]
  rfl

/-- Settles O26: the end of a homing by the state of the hand, and R42's table case by case. -/
theorem homingSettlesTheHand : Obligations.HomingSettlesTheHand := by
  unfold Obligations.HomingSettlesTheHand
  refine ⟨fun s grip homing => ⟨fun settled => ?_, fun l unsettled => ?_, ?_⟩, fun s l not_hand =>
    ⟨fun hand empty => ⟨fun r record => ?_, fun no_record => ?_, ?_⟩, fun hand => ⟨fun r record => ⟨?_, ?_⟩, fun empty => ⟨?_, fun r record => ?_⟩⟩⟩⟩
  · refine runs_of_eq (v := s.homed grip) rfl ((if_pos homing).trans ?_)
    rw [settleHand_of_settled (s := s.modChg fun c => { c with picker := .home }) settled]
    rfl
  · refine runs_of_eq (v := s.homed grip) rfl ((if_pos homing).trans ?_)
    have table := settleHand_mtb_congr (s := s) (v := s.modChg fun c => { c with picker := .home }) rfl rfl rfl grip
    rw [settleHand_eq (s := s.modChg fun c => { c with picker := .home }) unsettled, table]
    cases grip <;> rfl
  · exact runs_of_eq (v := s.homingLost) rfl (if_pos homing)
  · obtain ⟨gone, r', taken, label, presence⟩ := pass_takes record (Ne.symm not_hand) s.hasJob
    rw [settleHand_mtb (.inl hand), hand, settleRecords_of_grip l empty, createRecord_of_some (r := r') taken]
    exact ⟨r', taken, label, presence, gone⟩
  · have same : s.passRecord l .hand = s := congrArg (fun m => { s with mtb := m }) (pass_of_none no_record s.hasJob .hand)
    rw [settleHand_mtb (.inl hand), hand, settleRecords_of_grip l empty, same, createRecord_of_none empty]
    exact Mtb.get_put ..
  · rw [settleHand_mtb (.inl hand), hand]
    rfl
  · rw [settleHand_mtb (.inr hand), hand]
    unfold State.settleRecords
    rw [record]
    rfl
  · obtain ⟨gone, taken⟩ := pass_takes record not_hand s.hasJob
    rw [settleHand_mtb (.inr hand), hand, settleRecords_of_release l record]
    exact ⟨gone, taken⟩
  · rw [settleHand_mtb (.inr hand), hand]
    unfold State.settleRecords
    rw [empty]
    rfl
  · obtain ⟨gone, taken⟩ := pass_takes record (Ne.symm not_hand) s.hasJob
    rw [settleHand_mtb (.inr hand), hand, settleRecords_of_kept l empty]
    exact ⟨gone, taken⟩

/-! ## The mail door (R32, R43, R44) -/

theorem mailResume_of_ne {s : State} (h : s.chg.st ≠ .waitMail) (present : Bool) : s.mailResume present = s := by
  unfold State.mailResume
  split
  next st _ => exact absurd st h
  next st _ => exact absurd st h
  next => rfl

theorem mailTaken_arrived {s : State} (h : s.mtb.get .mail = none) :
    s.mailTaken true = (s.modMtb fun m => m.put .mail (some {})).notify .mailArrived := by
  unfold State.mailTaken
  rw [h]
  rfl

theorem mailTaken_none {s : State} (h : s.mtb.get .mail = none) : s.mailTaken false = s := by
  unfold State.mailTaken
  rw [h]
  rfl

theorem mailTaken_doubt {s : State} {r : CartRecord} (h : s.mtb.get .mail = some r) :
    s.mailTaken true = s.modMtb fun m => m.put .mail (some { r with presence := .unknown }) := by
  have put : s.mtb.modify .mail CartRecord.doubt = s.mtb.put .mail (some { r with presence := .unknown }) := by
    unfold Mtb.modify
    rw [h]
    rfl
  unfold State.mailTaken
  rw [h]
  exact congrArg (fun m => { s with mtb := m }) put

theorem mailTaken_gone {s : State} {r : CartRecord} (h : s.mtb.get .mail = some r) :
    s.mailTaken false = (s.modMtb (·.remove .mail)).notify .mailTaken := by
  unfold State.mailTaken
  rw [h]
  rfl

/-- The sensor decides whether M has a record, and the changer sees nothing of it (R43). -/
theorem mailTaken_frame (s : State) (present : Bool) :
    (s.mailTaken present).chg = s.chg ∧ ((s.mailTaken present).mtb.get .mail).isSome = present := by
  cases h : s.mtb.get .mail with
  | none =>
    cases present
    · rw [mailTaken_none h, h]
      exact ⟨rfl, rfl⟩
    · rw [mailTaken_arrived h, State.notify_mtb, State.modMtb_mtb, Mtb.get_put]
      exact ⟨rfl, rfl⟩
  | some r =>
    cases present
    · rw [mailTaken_gone h, State.notify_mtb, State.modMtb_mtb, Mtb.get_remove, State.notify_chg, State.modMtb_chg]
      exact ⟨rfl, rfl⟩
    · rw [mailTaken_doubt h, State.modMtb_mtb, Mtb.get_put]
      exact ⟨rfl, rfl⟩

/-- Settles O27: R43's cases of the closing. -/
theorem mailDoorClosingTakesTheMailSlot : Obligations.MailDoorClosingTakesTheMailSlot := by
  unfold Obligations.MailDoorClosingTakesTheMailSlot
  intro s
  refine ⟨fun free => ?_, fun mail_open not_waiting => ?_⟩
  · exact runs_of_eq (v := s.mailOpened) rfl (if_neg (by simp [free]))
  have closes : ∀ present, s.mailClosed present = ((s.modChg fun c => { c with mailOpen := false }).mailTaken present) := by
    intro present
    refine (if_neg (by simp [mail_open])).trans (mailResume_of_ne ?_ present)
    rw [(mailTaken_frame _ present).1]
    exact not_waiting
  have runs : ∀ present u, (s.modChg fun c => { c with mailOpen := false }).mailTaken present = u →
      Runs (.mailDoorClose present) s u := fun present u h => runs_of_eq (v := s.mailClosed present) rfl ((closes present).trans h)
  refine ⟨fun none => ⟨runs _ _ (mailTaken_arrived none), runs _ _ (mailTaken_none none)⟩, fun r record =>
    ⟨runs _ _ (mailTaken_doubt record), _, runs _ _ (mailTaken_gone record), ?_, rfl, rfl⟩⟩
  rw [State.notify_mtb, State.modMtb_mtb, Mtb.get_remove]

end Sys2Proof.Proofs
end

section
/-! PROOFS. Travels, sensing and waiting orders (R29 to R32, R35, R38). -/

open Sys2Proof Sys2Proof.Machine Sys2Proof.Claims

namespace Sys2Proof.Proofs

-- One declaration at a time: elaborated in parallel, the joined text needs more threads than the memory limit holds.
set_option Elab.async false

/-! ## Sources and destinations (R30, R35, R38) -/

theorem orderEnd_of_absent {s : State} {l : Loc} (h : s.mtb.get l = none) (o : Order) (res : MoveResult) :
    orderEnd s o res (some l) = orderEnd s o res none := by
  cases o with
  | scan f n => rfl
  | move src dst auto tag =>
    unfold orderEnd
    simp only [Option.bind_some, h, Option.bind_none]

/-- An end reads the records of the table and the counts of the changer. -/
theorem orderEnd_congr {s v : State} (at_ : Option Loc) (hm : at_.bind v.mtb.get = at_.bind s.mtb.get)
    (hc : v.chg.visited = s.chg.visited ∧ v.chg.notesRead = s.chg.notesRead) (o : Order) (res : MoveResult) :
    orderEnd v o res at_ = orderEnd s o res at_ := by
  obtain ⟨visited, notes⟩ := hc
  unfold orderEnd
  rw [hm, visited, notes]

/-- A source found empty: no record stands there, the MOVE has ended SOURCE_EMPTY, the next may start (R30). -/
theorem sourceEmpty_eq {s : State} {o : Order} {rest : List Order} (h : s.chg.queue = o :: rest) (l : Loc) :
    ∃ m : Mtb, m.get l = none ∧ (s.mtb.get l = none → m = s.mtb) ∧
      s.sourceEmpty l =
        { s with
          mtb := m
          lnk := queued s.lnk [orderEnd s o .sourceEmpty none]
          chg := { withOrders s.chg rest with st := .running } } := by
  obtain ⟨m, gone, same, removed⟩ : ∃ m : Mtb, m.get l = none ∧ (s.mtb.get l = none → m = s.mtb) ∧
      (if (s.mtb.get l).isSome then s.modMtb (·.remove l) else s) = { s with mtb := m } := by
    cases record : s.mtb.get l with
    | none => exact ⟨s.mtb, record, fun _ => rfl, rfl⟩
    | some r => exact ⟨s.mtb.remove l, Mtb.get_remove .., fun absent => absurd absent (by simp), rfl⟩
  refine ⟨m, gone, same, ?_⟩
  unfold State.sourceEmpty
  rw [removed, endHead_eq (s := { s with mtb := m }) h, orderEnd_of_absent gone]
  rfl

theorem destOccupied_eq {s : State} {o : Order} {rest : List Order} (h : s.chg.queue = o :: rest) :
    s.destOccupied =
      { s with
        lnk := queued s.lnk (orderEnd s o .destOccupied (some .hand) :: cancelled rest)
        chg := { withOrders s.chg [] with st := .held } } := by
  unfold State.destOccupied
  rw [endHead_cancelRest h]
  rfl

theorem senseDest_bay (s : State) (t : Tr) (present : Bool) :
    s.senseDest (.bay t) present = if (s.tc t).st ≠ .empty then s.destOccupied else s.beginPlace := by
  unfold State.senseDest
  by_cases h : (s.tc t).st = .empty <;> simp [h]

theorem senseDest_other {s : State} {l : Loc} (h : ∀ t, l ≠ .bay t) (present : Bool) :
    s.senseDest l present = if present then s.destOccupied else s.beginPlace := by
  cases l with
  | bay t => exact absurd rfl (h t)
  | _ => rfl

theorem arriveDest_eq {s : State} {l : Loc} (h : l = .mail → s.chg.mailOpen = false) (present : Bool) :
    s.arriveDest l present = s.senseDest l present := by
  refine if_neg ?_
  rintro ⟨mail, door⟩
  rw [h mail] at door
  exact Bool.noConfusion door

theorem travelSource_away {s : State} {l : Loc} (h : s.chg.picker ≠ .atLoc l) :
    s.travelSource l = { s with chg := { s.chg with st := .running, step := some .travelSource, picker := .inTravel } } :=
  if_neg h

theorem travelDest_away {s : State} {l : Loc} (h : s.chg.picker ≠ .atLoc l) :
    s.travelDest l = { s with chg := { s.chg with st := .running, step := some .travelDest, picker := .inTravel } } :=
  if_neg h

theorem arriveSource_open {s : State} (h : s.chg.mailOpen = true) :
    s.arriveSource .mail = { s with chg := { s.chg with st := .waitMail, step := some .waitMailSource } } :=
  if_pos h

theorem arriveSource_closed {s : State} (h : s.chg.mailOpen = false) :
    s.arriveSource .mail = { s with chg := { s.chg with st := .running, step := some .senseSource } } :=
  if_neg (by simp [h])

theorem readBay_seated {s : State} {t : Tr} (h : (s.tc t).st = .seated) :
    s.readBay t = { s with chg := { s.chg with st := .running, step := some .grip, takeHold := some t } } := by
  unfold State.readBay
  rw [h]
  rfl

theorem readBay_empty {s : State} {t : Tr} (h : (s.tc t).st = .empty) : s.readBay t = s.sourceEmpty (.bay t) := by
  unfold State.readBay
  rw [h]

theorem readBay_waits {s : State} {t : Tr} (hs : (s.tc t).st ≠ .seated) (he : (s.tc t).st ≠ .empty) :
    s.readBay t = { s with chg := { s.chg with st := .waitBay, step := some (.waitBay t) } } := by
  unfold State.readBay
  split
  next h => exact absurd h he
  next h => exact absurd h hs
  next => rfl

/-! ## The start of an order and the end of a travel (O17) -/

/-- A head that has started is all that a drive of one order starts (R26). -/
theorem chgDrive_one {s : State} {o : Order} {c : Chg} (running : s.chg.st = .running) (none_runs : s.chg.step = none)
    (queue : s.chg.queue = [o]) (starts : s.beginHead = { s with chg := c }) (step : c.step ≠ none) :
    s.chgDrive = { s with chg := c } := by
  unfold State.chgDrive State.chgDriveN
  rw [if_pos ⟨running, none_runs⟩, queue, starts]
  exact if_neg fun h => step h.2

theorem beginHead_move {s : State} {src dst : Loc} {auto : Bool} {tag : Half} {rest : List Order}
    (h : s.chg.queue = .move src dst auto tag :: rest) :
    s.beginHead = if src = .hand then s.arriveSource .hand else s.travelSource src := by
  unfold State.beginHead
  rw [h]

theorem beginHead_scan {s : State} {first last : Nat} {rest : List Order}
    (h : s.chg.queue = .scan first last :: rest) :
    s.beginHead =
      (s.modChg fun c => { c with scanAt := first, visited := 0, notesRead := 0 }).travelSource (scanLoc first) := by
  unfold State.beginHead
  rw [h]

theorem arrived_source {s : State} {o : Order} {rest : List Order} (h : s.chg.queue = o :: rest)
    (step : s.chg.step = some .travelSource) (present : Bool) :
    s.arrived present =
      (s.modChg fun c => { c with picker := .atLoc (s.chg.gripLoc o) }).arriveSource (s.chg.gripLoc o) := by
  unfold State.arrived
  rw [step, h]

theorem arrived_dest {s : State} {o : Order} {rest : List Order} (h : s.chg.queue = o :: rest)
    (step : s.chg.step = some .travelDest) (present : Bool) :
    s.arrived present =
      (s.modChg fun c => { c with picker := .atLoc (s.chg.placeLoc o) }).arriveDest (s.chg.placeLoc o) present := by
  unfold State.arrived
  rw [step, h]

/-- Settles O17: the start of an order by its source, and the arrivals by the location reached. -/
theorem ordersStartAndTravelEnds : Obligations.OrdersStartAndTravelEnds := by
  unfold Obligations.OrdersStartAndTravelEnds
  refine ⟨fun s o running none_runs queue => ⟨fun src dst auto tag ho => ?_, fun first last ho away => ?_⟩,
    fun s o rest present queue => ⟨fun l step loc => ?_, fun l step loc => ?_⟩⟩
  · subst ho
    refine ⟨fun not_hand away => ?_, fun i slot here => ?_, fun hand => ?_⟩
    · refine chgDrive_one running none_runs queue ((beginHead_move queue).trans ?_) (by simp)
      rw [if_neg not_hand, travelSource_away away, ← running]
    · subst slot
      refine chgDrive_one running none_runs queue ((beginHead_move queue).trans ?_) (by simp)
      refine (if_neg (by simp)).trans ((if_pos here).trans ?_)
      unfold State.arriveSource
      rw [← running]
      rfl
    · subst hand
      refine chgDrive_one running none_runs queue ((beginHead_move queue).trans ?_) (by simp)
      refine (if_pos rfl).trans ?_
      unfold State.arriveSource
      rw [← running]
      rfl
  · subst ho
    refine chgDrive_one running none_runs queue ((beginHead_scan queue).trans ?_) (by simp)
    rw [travelSource_away (s := s.modChg fun c => { c with scanAt := first, visited := 0, notesRead := 0 }) away,
      ← running]
    rfl
  · have runs : ∀ u, (s.modChg fun c => { c with picker := .atLoc l }).arriveSource l = u →
        Runs (.travelComplete present) s u := fun u e =>
      runs_of_eq (v := s.arrived present) rfl ((arrived_source queue step present).trans (loc ▸ e))
    refine ⟨fun free => runs _ ?_, fun mail door => runs _ ?_, fun t bay =>
      ⟨fun seated => runs _ ?_, fun not_seated not_empty => runs _ ?_⟩⟩
    · obtain ⟨i, slot⟩ | ⟨mail, door⟩ := free
      · rw [slot]
        rfl
      · rw [mail]
        exact arriveSource_closed (s := s.modChg fun c => { c with picker := .atLoc .mail }) door
    · rw [mail]
      exact arriveSource_open (s := s.modChg fun c => { c with picker := .atLoc .mail }) door
    · rw [bay]
      exact readBay_seated (by rw [State.modChg_tc]; exact seated)
    · rw [bay]
      exact readBay_waits (by rw [State.modChg_tc]; exact not_seated) (by rw [State.modChg_tc]; exact not_empty)
  · have runs : ∀ u, (s.modChg fun c => { c with picker := .atLoc l }).arriveDest l present = u →
        Runs (.travelComplete present) s u := fun u e =>
      runs_of_eq (v := s.arrived present) rfl ((arrived_dest queue step present).trans (loc ▸ e))
    refine ⟨fun mail door => runs _ (if_pos ⟨mail, door⟩), fun closed => ⟨fun free => runs _ ?_, fun taken => runs _ ?_⟩⟩
    · rw [arriveDest_eq (s := s.modChg fun c => { c with picker := .atLoc l }) closed]
      obtain ⟨no_bay, absent⟩ | ⟨t, bay, empty⟩ := free
      · rw [senseDest_other no_bay, absent]
        rfl
      · rw [bay, senseDest_bay, State.modChg_tc, if_neg (by simp [empty])]
        rfl
    · rw [arriveDest_eq (s := s.modChg fun c => { c with picker := .atLoc l }) closed]
      have ends := destOccupied_eq (s := s.modChg fun c => { c with picker := .atLoc l }) queue
      obtain ⟨no_bay, there⟩ | ⟨t, bay, full⟩ := taken
      · rw [senseDest_other no_bay, there, if_pos rfl, ends]
        rfl
      · subst bay
        rw [senseDest_bay, State.modChg_tc, if_pos full, ends]
        rfl

/-! ## Waiting orders (O24) -/

theorem chgWatch_waiting {s : State} {t : Tr} (st : s.chg.st = .waitBay) (step : s.chg.step = some (.waitBay t)) :
    s.chgWatch = match (s.tc t).st with
      | .seated => s.beginGrip (.bay t)
      | .empty => s.sourceEmpty (.bay t)
      | _ => s := by
  unfold State.chgWatch
  rw [st, step] <;> rfl

theorem mailResume_source {s : State} (st : s.chg.st = .waitMail) (step : s.chg.step = some .waitMailSource)
    (present : Bool) : s.mailResume present = s.arriveSource .mail := by
  unfold State.mailResume
  rw [st, step]

theorem mailResume_dest {s : State} (st : s.chg.st = .waitMail) (step : s.chg.step = some .waitMailDest)
    (present : Bool) : s.mailResume present = if present then s.destOccupied else s.beginPlace := by
  unfold State.mailResume
  rw [st, step]
  exact senseDest_other (by simp) present

/-- The closing's notice, and the records but that of M (R43). -/
theorem mailTaken_hand (s : State) (present : Bool) :
    ∃ m : Mtb, (m.get .mail).isSome = present ∧ (present = true → m.get .hand = s.mtb.get .hand) ∧
      s.mailTaken present =
        { s with
          mtb := m
          lnk := queued s.lnk
            (if present then if s.mtb.get .mail = none then [.mailArrived] else []
              else if s.mtb.get .mail = none then [] else [.mailTaken]) } := by
  cases h : s.mtb.get .mail with
  | none =>
    cases present
    · exact ⟨s.mtb, congrArg Option.isSome h, fun _ => rfl, mailTaken_none h⟩
    · exact ⟨s.mtb.put .mail (some {}), by rw [Mtb.get_put]; rfl,
        fun _ => Mtb.get_put_of_ne _ _ (by simp), mailTaken_arrived h⟩
  | some r =>
    cases presence : present
    · refine ⟨s.mtb.remove .mail, by rw [Mtb.get_remove]; rfl, fun absurdity => Bool.noConfusion absurdity, ?_⟩
      rw [mailTaken_gone h]
      dsimp only [State.notify, State.modLnk, State.modMtb]
      rfl
    · refine ⟨s.mtb.put .mail (some { r with presence := .unknown }), by rw [Mtb.get_put]; rfl,
        fun _ => Mtb.get_put_of_ne _ _ (by simp), ?_⟩
      rw [mailTaken_doubt h]
      rfl

/-- The mail door has closed: M's record by the sensor, and the notice of it (R43). -/
theorem mailClosed_eq {s : State} (h : s.chg.mailOpen = true) (present : Bool) :
    ∃ v : State, (v.mtb.get .mail).isSome = present ∧ (present = true → v.mtb.get .hand = s.mtb.get .hand) ∧
      v.chg = { s.chg with mailOpen := false } ∧
      v.lnk = queued s.lnk
        (if present then if s.mtb.get .mail = none then [.mailArrived] else []
          else if s.mtb.get .mail = none then [] else [.mailTaken]) ∧
      s.mailClosed present = v.mailResume present := by
  obtain ⟨m, sensed, hand, taken⟩ := mailTaken_hand (s.modChg fun c => { c with mailOpen := false }) present
  refine ⟨_, ?_, ?_, ?_, ?_, (if_neg (by simp [h])).trans (congrArg (State.mailResume · present) taken)⟩
  · exact sensed
  · exact hand
  · rfl
  · rfl

/-- Settles O24: what a waiting order waits for, and its timers. -/
theorem waitingOrdersResumeOrTimeOut : Obligations.WaitingOrdersResumeOrTimeOut := by
  unfold Obligations.WaitingOrdersResumeOrTimeOut
  intro s o rest queue
  refine ⟨fun t st step => ⟨fun seated => ?_, fun empty _ => ?_, fun not_seated not_empty => ?_, ?_⟩,
    fun st step => ⟨?_, fun present door => ?_⟩, fun st step => ⟨?_, fun door => ⟨?_, ?_⟩⟩⟩
  · rw [chgWatch_waiting st step, seated]
    rfl
  · obtain ⟨m, gone, -, ends⟩ := sourceEmpty_eq queue (.bay t)
    have watch : s.chgWatch = s.sourceEmpty (.bay t) := by rw [chgWatch_waiting st step, empty]
    rw [watch, ends]
    exact ⟨gone, rfl, rfl⟩
  · rw [chgWatch_waiting st step]
    split
    next h => exact absurd h not_seated
    next h => exact absurd h not_empty
    next => rfl
  · refine runs_of_eq (v := s.bayLost) rfl ((if_pos st).trans ?_)
    rw [endRunning_eq queue step fun src dst auto tag ho => stepLoc_gripLoc (c := s.chg) src dst auto tag ho rfl]
    rfl
  · refine runs_of_eq (v := s.mailLost) rfl ((if_pos st).trans ?_)
    rw [step]
    dsimp only
    rw [endRunning_eq queue step fun src dst auto tag ho => stepLoc_gripLoc (c := s.chg) src dst auto tag ho rfl]
    rfl
  · obtain ⟨v, sensed, -, chg, -, closes⟩ := mailClosed_eq door present
    refine ⟨_, runs_of_eq (v := s.mailClosed present) rfl closes, ?_⟩
    rw [mailResume_source (by rw [chg]; exact st) (by rw [chg]; exact step), arriveSource_closed (by rw [chg]), chg]
    exact ⟨sensed, rfl⟩
  · refine runs_of_eq (v := s.mailLost) rfl ((if_pos st).trans ?_)
    rw [step]
    dsimp only
    rw [endRunning_eq_endHead (l := .hand) queue step fun _ _ _ _ _ => rfl, endHead_cancelRest queue]
    rfl
  · obtain ⟨v, sensed, -, chg, -, closes⟩ := mailClosed_eq door false
    refine ⟨_, runs_of_eq (v := s.mailClosed false) rfl closes, ?_⟩
    rw [mailResume_dest (by rw [chg]; exact st) (by rw [chg]; exact step), if_neg (by simp)]
    refine ⟨?_, ?_⟩
    · exact Option.not_isSome_iff_eq_none.mp (by rw [show v.beginPlace.mtb = v.mtb from rfl, sensed]; simp)
    · unfold State.beginPlace
      rw [State.modChg_chg, chg]
  · obtain ⟨v, sensed, hand, chg, link, closes⟩ := mailClosed_eq door true
    refine ⟨_, runs_of_eq (v := s.mailClosed true) rfl closes, ?_⟩
    rw [mailResume_dest (by rw [chg]; exact st) (by rw [chg]; exact step), if_pos rfl,
      destOccupied_eq (by rw [chg]; exact queue), chg, link]
    refine ⟨fun absent => ?_, rfl, ?_⟩
    · rw [absent] at sensed
      exact Bool.noConfusion sensed
    · rw [orderEnd_congr (s := s) (some .hand) (hand rfl) (by rw [chg]; exact ⟨rfl, rfl⟩)]
      exact (queued_append ..).symm

/-! ## What is sensed at a source (O18) -/

theorem sensed_move {s : State} {src dst : Loc} {auto : Bool} {tag : Half} {rest : List Order}
    (queue : s.chg.queue = .move src dst auto tag :: rest) (step : s.chg.step = some .senseSource) (present : Bool) :
    s.sensed present =
      if src = .hand then s.handSensed dst present
      else if present then s.beginGrip src
      else s.sourceEmpty src := by
  unfold State.sensed
  rw [step, queue]

theorem sensed_scan {s : State} {first last : Nat} {rest : List Order}
    (queue : s.chg.queue = .scan first last :: rest) (step : s.chg.step = some .senseSource) (present : Bool) :
    s.sensed present = s.scanSensed last present := by
  unfold State.sensed
  rw [step, queue]

/-- The grip of a slot or of M places no take-hold (R31, R33). -/
theorem beginGrip_other {s : State} {l : Loc} (h : ∀ t, l ≠ .bay t) :
    s.beginGrip l = { s with chg := { s.chg with st := .running, step := some .grip } } := by
  cases l with
  | bay t => exact absurd rfl (h t)
  | _ => rfl

theorem needsReading_iff (r : CartRecord) :
    needsReading (some r) = true ↔ r.presence = .unknown ∨ r.noteState = .unread := by
  simp [needsReading]

theorem scanLoc_slot (i : Fin 16) : scanLoc i.val = .slot i := dif_pos i.isLt

theorem scanLoc_ne_bay (n : Nat) (t : Tr) : scanLoc n ≠ .bay t := by
  unfold scanLoc
  split <;> simp

/-- A travel to a slot or to M reaches the changer only. -/
theorem travelSource_mtb (s : State) {l : Loc} (h : ∀ t, l ≠ .bay t) : (s.travelSource l).mtb = s.mtb := by
  unfold State.travelSource State.arriveSource
  split
  · split
    · exact absurd rfl (h _)
    · split <;> rfl
    · rfl
  · rfl

theorem scanNext_last {s : State} {o : Order} {rest : List Order} (queue : s.chg.queue = o :: rest) {last : Nat}
    (h : last ≤ s.chg.scanAt) :
    s.scanNext last =
      { s with
        lnk := queued s.lnk [orderEnd s o .ok none]
        chg := { withOrders s.chg rest with st := .running } } := by
  unfold State.scanNext
  rw [if_pos h, endHead_eq queue]
  rfl

theorem scanNext_away {s : State} {last : Nat} (h : s.chg.scanAt < last)
    (away : s.chg.picker ≠ .atLoc (scanLoc (s.chg.scanAt + 1))) :
    s.scanNext last =
      { s with chg :=
        { s.chg with scanAt := s.chg.scanAt + 1, st := .running, step := some .travelSource, picker := .inTravel } } := by
  unfold State.scanNext
  rw [if_neg (by omega)]
  exact travelSource_away (s := s.modChg fun c => { c with scanAt := c.scanAt + 1, st := .running, step := none }) away

theorem scanNext_mtb {s : State} {o : Order} {rest : List Order} (queue : s.chg.queue = o :: rest) (last : Nat) :
    (s.scanNext last).mtb = s.mtb := by
  by_cases h : last ≤ s.chg.scanAt
  · rw [scanNext_last queue h]
  · unfold State.scanNext
    rw [if_neg h]
    exact travelSource_mtb _ (scanLoc_ne_bay _)

/-- A SCAN that does not grip: the location counts as visited, its record goes where none is sensed, and the SCAN goes
on (R2, R38). -/
theorem scanSensed_passes {s : State} {i : Fin 16} (at_ : s.chg.scanAt = i.val) (last : Nat) {present : Bool}
    (h : present = false ∨ ∃ r, s.mtb.get (.slot i) = some r ∧ r.presence = .present ∧ r.noteState ≠ .unread) :
    ∃ v : State, (present = true → v.mtb = s.mtb) ∧ (present = false → v.mtb.get (.slot i) = none) ∧
      v.chg = { s.chg with visited := s.chg.visited + 1 } ∧ v.lnk = s.lnk ∧
      s.scanSensed last present = v.scanNext last := by
  have ended : ∀ m : Mtb, (present = true → m = s.mtb) → (present = false → m.get (.slot i) = none) →
      s.scanSensed last present =
        State.scanNext { s with mtb := m, chg := { s.chg with visited := s.chg.visited + 1 } } last →
      ∃ v : State, (present = true → v.mtb = s.mtb) ∧ (present = false → v.mtb.get (.slot i) = none) ∧
        v.chg = { s.chg with visited := s.chg.visited + 1 } ∧ v.lnk = s.lnk ∧
        s.scanSensed last present = v.scanNext last := fun m kept gone next =>
    ⟨{ s with mtb := m, chg := { s.chg with visited := s.chg.visited + 1 } }, kept, gone, rfl, rfl, next⟩
  cases present with
  | false =>
    cases record : s.mtb.get (.slot i) with
    | none =>
      refine ended s.mtb (fun _ => rfl) (fun _ => record) ?_
      unfold State.scanSensed
      rw [at_, scanLoc_slot]
      refine (if_neg (by simp)).trans ?_
      rw [if_neg (by rw [State.modChg_mtb, record]; simp)]
      rfl
    | some r =>
      refine ended (s.mtb.remove (.slot i)) (fun absurdity => Bool.noConfusion absurdity) (fun _ => Mtb.get_remove ..) ?_
      unfold State.scanSensed
      rw [at_, scanLoc_slot]
      refine (if_neg (by simp)).trans ?_
      rw [if_pos (by rw [State.modChg_mtb, record]; rfl)]
      rfl
  | true =>
    obtain absurdity | ⟨r, record, known, read⟩ := h
    · exact Bool.noConfusion absurdity
    · refine ended s.mtb (fun _ => rfl) (fun absurdity => Bool.noConfusion absurdity) ?_
      unfold State.scanSensed
      rw [at_, scanLoc_slot]
      refine (if_pos rfl).trans ((if_neg ?_).trans rfl)
      rw [State.modChg_mtb, record, needsReading_iff]
      simp [known, read]

/-- A SCAN that senses a cartridge that needs reading grips it (R38). -/
theorem scanSensed_grips {s : State} {i : Fin 16} (at_ : s.chg.scanAt = i.val) (last : Nat)
    (h : needsReading (s.mtb.get (.slot i)) = true) :
    s.scanSensed last true =
      ((s.modChg fun c => { c with visited := c.visited + 1 }).createRecord (.slot i)).beginGrip (.slot i) := by
  unfold State.scanSensed
  rw [at_, scanLoc_slot]
  exact (if_pos rfl).trans (if_pos h)

/-- Settles O18: what the sensor decides for a MOVE, and for a SCAN. -/
theorem presenceDecidesTheGrip : Obligations.PresenceDecidesTheGrip := by
  unfold Obligations.PresenceDecidesTheGrip
  refine ⟨fun s rest src dst auto tag o ho queue => ⟨fun step => ⟨fun not_hand no_bay => ⟨?_, fun absent => ?_, fun _ => ?_⟩,
    fun hand => ⟨fun i slot away => ?_, ?_⟩⟩, fun t present step bay empty => ?_⟩,
    fun s rest first last i o c ho queue step at_ hc => ⟨fun r record unread => ?_, fun absent => ?_, fun present passes => ?_⟩⟩
  · subst ho
    refine runs_of_eq (v := s.sensed true) rfl ((sensed_move queue step true).trans ((if_neg not_hand).trans ((if_pos rfl).trans ?_)))
    exact beginGrip_other no_bay
  · subst ho
    refine runs_of_eq (v := s.sensed false) rfl ((sensed_move queue step false).trans ((if_neg not_hand).trans ((if_neg (by simp)).trans ?_)))
    obtain ⟨m, -, same, ends⟩ := sourceEmpty_eq queue src
    rw [ends, same absent]
  · subst ho
    obtain ⟨m, gone, -, ends⟩ := sourceEmpty_eq queue src
    refine ⟨_, runs_of_eq (v := s.sensed false) rfl
      ((sensed_move queue step false).trans ((if_neg not_hand).trans ((if_neg (by simp)).trans ends))), gone, rfl, rfl⟩
  · subst ho slot
    refine runs_of_eq (v := s.sensed true) rfl ((sensed_move queue step true).trans ((if_pos hand).trans ((if_pos rfl).trans ?_)))
    exact travelDest_away (s := s.modChg fun c => { c with hand := .holding }) away
  · subst ho hand
    obtain ⟨m, gone, -, ends⟩ := sourceEmpty_eq (s := s.modChg fun c => { c with hand := .empty, image := none }) queue .hand
    refine ⟨_, runs_of_eq (v := s.sensed false) rfl
      ((sensed_move queue step false).trans ((if_pos rfl).trans ((if_neg (by simp)).trans ends))), gone, rfl, rfl⟩
  · subst ho bay
    obtain ⟨m, gone, -, ends⟩ := sourceEmpty_eq (s := s.modChg fun c => { c with picker := .atLoc (.bay t) }) queue (.bay t)
    refine ⟨_, runs_of_eq (v := s.arrived present) rfl ((arrived_source queue step present).trans
      ((readBay_empty (by rw [State.modChg_tc]; exact empty)).trans ends)), gone, rfl, rfl⟩
  · subst ho hc
    have reads : needsReading (s.mtb.get (.slot i)) = true := by
      rw [record, needsReading_iff]
      exact unread
    refine runs_of_eq (v := s.sensed true) rfl ((sensed_scan queue step true).trans ((scanSensed_grips at_ last reads).trans ?_))
    rw [createRecord_of_some (s := s.modChg fun c => { c with visited := c.visited + 1 }) record]
    rfl
  · subst ho hc
    have reads : needsReading (s.mtb.get (.slot i)) = true := by
      rw [absent]
      rfl
    refine runs_of_eq (v := s.sensed true) rfl ((sensed_scan queue step true).trans ((scanSensed_grips at_ last reads).trans ?_))
    rw [createRecord_of_none (s := s.modChg fun c => { c with visited := c.visited + 1 }) absent]
    rfl
  · subst ho hc
    obtain ⟨v, kept, removed, chg, link, next⟩ := scanSensed_passes at_ last passes
    refine ⟨_, runs_of_eq (v := s.sensed present) rfl ((sensed_scan queue step present).trans next), ?_⟩
    have waits : v.chg.queue = .scan first last :: rest := by
      rw [chg]
      exact queue
    have reached : v.chg.scanAt = i.val := by
      rw [chg]
      exact at_
    rw [scanNext_mtb waits]
    refine ⟨kept, removed, fun more away => ?_, fun finished => ?_⟩
    · rw [scanNext_away (by rw [reached]; exact more) (by rw [reached, chg]; exact away), reached, chg]
      exact ⟨rfl, link⟩
    · rw [scanNext_last waits (by rw [reached]; exact finished), chg, link]
      refine ⟨rfl, ?_⟩
      have counts : v.chg.visited = s.chg.visited + 1 ∧ v.chg.notesRead = s.chg.notesRead := by
        rw [chg]
        exact ⟨rfl, rfl⟩
      exact congrArg (fun n => queued s.lnk [n])
        (orderEnd_congr (v := v) (s := { s with chg := { s.chg with visited := s.chg.visited + 1 } }) none rfl counts ..)

end Sys2Proof.Proofs
end

section
/-! PROOFS. Grips, note operations and places (R16 to R23, R33 to R38), seating and unseating (R52). -/

open Sys2Proof Sys2Proof.Machine Sys2Proof.Claims

namespace Sys2Proof.Proofs

-- One declaration at a time: elaborated in parallel, the joined text needs more threads than the memory limit holds.
set_option Elab.async false

/-! ## The grip (O19) -/

/-- The note choice does not read DUPLICATE. -/
theorem noteChoice_duplicate (r : CartRecord) (d : Bool) : noteChoice { r with duplicate := d } = noteChoice r := rfl

theorem noteChoice_read {r : CartRecord} (h : r.presence = .unknown ∨ (r.dirty = false ∧ r.noteState = .unread)) :
    noteChoice r = .read := by
  unfold noteChoice
  obtain h | ⟨clean, unread⟩ := h
  · rw [h]
  · cases r.presence with
    | unknown => rfl
    | present => simp [clean, unread]

theorem noteChoice_write {r : CartRecord} (hp : r.presence = .present) (hd : r.dirty = true) (hs : r.protect ≠ some .set) :
    noteChoice r = .write := by
  unfold noteChoice
  rw [hp, hd]
  dsimp only
  rw [if_pos rfl]
  split
  next h => exact absurd h hs
  next => rfl

theorem noteChoice_rest {r : CartRecord} (hp : r.presence = .present) (hd : r.dirty = true → r.protect = some .set)
    (hn : r.dirty = false → r.noteState ≠ .unread) :
    noteChoice r = if r.dirty then .clearDirty else .nothing := by
  unfold noteChoice
  rw [hp]
  dsimp only
  cases dirty : r.dirty with
  | true =>
    rw [hd dirty]
    rfl
  | false => simp [hn dirty]

/-- The end of the note step of a MOVE whose picker stands elsewhere (R34). -/
theorem noteDone_move {s : State} {src dst : Loc} {auto : Bool} {tag : Half} {rest : List Order}
    (queue : s.chg.queue = .move src dst auto tag :: rest) (away : s.chg.picker ≠ .atLoc dst) :
    s.noteDone =
      { s with chg :=
        { s.chg with st := .running, step := some .travelDest, picker := .inTravel, noteOp := none } } := by
  unfold State.noteDone
  dsimp only
  rw [show (s.modChg fun c => { c with noteOp := none }).chg.queue = .move src dst auto tag :: rest from queue]
  exact travelDest_away (s := s.modChg fun c => { c with noteOp := none }) away

/-- A cartridge held in the hand with record r: what R17 starts for it, or the travel to the destination (R17, R34). -/
structure NoteStarted (s u : State) (r q : CartRecord) : Prop where
  frame : ∃ m c, u = { s with mtb := m, chg := c }
  record : u.mtb.get .hand = some q
  others : ∀ k, k ≠ .hand → u.mtb.get k = s.mtb.get k
  values : ∀ t, u.mtb.bayValues t = s.mtb.bayValues t
  chg : u.chg.hand = s.chg.hand ∧ u.chg.queue = s.chg.queue ∧ u.chg.takeHold = s.chg.takeHold
  read : (r.presence = .unknown ∨ (r.dirty = false ∧ r.noteState = .unread)) →
    q = r ∧ u.chg.step = some .note ∧ u.chg.noteOp = some .read ∧ u.chg.image = s.chg.image
  write : r.presence = .present → r.dirty = true → r.protect ≠ some .set →
    q = r ∧ u.chg.step = some .note ∧ u.chg.noteOp = some (.write r .unlock) ∧ u.chg.image = some (composeNote r)
  rest : r.presence = .present → (r.dirty = true → r.protect = some .set) → (r.dirty = false → r.noteState ≠ .unread) →
    q = { r with dirty := false } ∧ u.chg.noteOp = none ∧ u.chg.image = s.chg.image ∧
      u.chg.step = some .travelDest ∧ u.chg.picker = .inTravel

theorem startNote_move {s : State} {src dst : Loc} {auto : Bool} {tag : Half} {rest : List Order} {r : CartRecord}
    (queue : s.chg.queue = .move src dst auto tag :: rest) (away : s.chg.picker ≠ .atLoc dst)
    (record : s.mtb.get .hand = some r) : ∃ q, NoteStarted s (s.startNote .hand r) r q := by
  have choice : ∀ {c : NoteChoice}, noteChoice r = c → ∀ {d : NoteChoice}, noteChoice r = d → c = d :=
    fun h _ h' => h.symm.trans h'
  unfold State.startNote
  cases chosen : noteChoice r with
  | read =>
    refine ⟨r, ⟨⟨_, _, rfl⟩, record, fun _ _ => rfl, fun _ => rfl, ⟨rfl, rfl, rfl⟩, fun _ => ⟨rfl, rfl, rfl, rfl⟩,
      fun hp hd hs => ?_, fun hp hd hn => ?_⟩⟩
    · exact NoteChoice.noConfusion (choice chosen (noteChoice_write hp hd hs))
    · have other := choice chosen (noteChoice_rest hp hd hn)
      split at other <;> exact NoteChoice.noConfusion other
  | write =>
    refine ⟨r, ⟨⟨_, _, rfl⟩, record, fun _ _ => rfl, fun _ => rfl, ⟨rfl, rfl, rfl⟩, fun h => ?_,
      fun _ _ _ => ⟨rfl, rfl, rfl, rfl⟩, fun hp hd hn => ?_⟩⟩
    · exact NoteChoice.noConfusion (choice chosen (noteChoice_read h))
    · have other := choice chosen (noteChoice_rest hp hd hn)
      split at other <;> exact NoteChoice.noConfusion other
  | clearDirty =>
    have done := noteDone_move (s := s.modMtb fun m => m.modify .hand fun r => { r with dirty := false }) queue away
    dsimp only
    rw [done]
    refine ⟨{ r with dirty := false }, ⟨⟨_, _, rfl⟩, ?_, fun k hk => Mtb.get_modify_of_ne _ _ hk, fun t => ?_,
      ⟨rfl, rfl, rfl⟩, fun h => ?_, fun hp hd hs => ?_, fun _ _ _ => ⟨rfl, rfl, rfl, rfl, rfl⟩⟩⟩
    · refine (Mtb.get_modify ..).trans ?_
      rw [record]
      rfl
    · exact bayValues_put ..
    · exact NoteChoice.noConfusion (choice chosen (noteChoice_read h))
    · exact NoteChoice.noConfusion (choice chosen (noteChoice_write hp hd hs))
  | nothing =>
    dsimp only
    rw [noteDone_move queue away]
    refine ⟨r, ⟨⟨_, _, rfl⟩, record, fun _ _ => rfl, fun _ => rfl, ⟨rfl, rfl, rfl⟩, fun h => ?_, fun hp hd hs => ?_,
      fun hp hd hn => ⟨?_, rfl, rfl, rfl, rfl⟩⟩⟩
    · exact NoteChoice.noConfusion (choice chosen (noteChoice_read h))
    · exact NoteChoice.noConfusion (choice chosen (noteChoice_write hp hd hs))
    · have clean : r.dirty = false := by
        cases dirty : r.dirty with
        | false => rfl
        | true =>
          have other := choice chosen (noteChoice_rest hp hd hn)
          rw [dirty] at other
          exact NoteChoice.noConfusion other
      rw [← clean]

theorem goto_of_still {c : Tc} (st : TcState) (h : c.st.streams = false) : c.goto st = { c with st := st } := by
  unfold Tc.goto
  rw [h]
  rfl

theorem unseat_of_seated {s : State} {t : Tr} (h : (s.tc t).st = .seated) :
    s.unseat t =
      State.setTc { s with mtb := s.mtb.setBayValues t none } t
        { s.tc t with st := .empty, pos := none, labelCount := none } := by
  unfold State.unseat State.modTc
  dsimp only
  rw [goto_of_still _ (by rw [h]; rfl)]
  cases t <;> rfl

/-- The take-hold behind a grip at a location (R33). -/
def gripHold (c : Chg) : Loc → Option Tr
  | .bay _ => none
  | _ => c.takeHold

/-- A grip at a SEATED bay unseats its transport; elsewhere it reaches none (R33). -/
theorem gripUnseats_frame {s : State} {l : Loc} (h : ∀ t, l = .bay t → (s.tc t).st = .seated) :
    (∀ k, (s.gripUnseats l).mtb.get k = s.mtb.get k) ∧ (s.gripUnseats l).lnk = s.lnk ∧
      (s.gripUnseats l).chg = { s.chg with takeHold := gripHold s.chg l } ∧
      (∀ t, l = .bay t →
        (s.gripUnseats l).tc t = { s.tc t with st := .empty, pos := none, labelCount := none } ∧
          (s.gripUnseats l).mtb.bayValues t = none) ∧
      ∀ t, l ≠ .bay t → (s.gripUnseats l).tc t = s.tc t ∧ (s.gripUnseats l).mtb.bayValues t = s.mtb.bayValues t := by
  cases l with
  | bay t =>
    unfold State.gripUnseats
    dsimp only
    rw [if_pos (h t rfl), unseat_of_seated (h t rfl)]
    refine ⟨fun k => ?_, ?_, ?_, fun u hu => ?_, fun u hu => ?_⟩
    · simp
    · simp
    · cases t <;> rfl
    · cases hu
      refine ⟨by simp, ?_⟩
      cases t <;> rfl
    · have differ : u = t.other := (eq_or_other t u).resolve_left fun e => hu (e ▸ rfl)
      subst differ
      refine ⟨by cases t <;> rfl, ?_⟩
      cases t <;> rfl
  | _ => exact ⟨fun _ => rfl, rfl, rfl, fun _ hu => Loc.noConfusion hu, fun _ _ => ⟨rfl, rfl⟩⟩

/-- The state of a MOVE at its confirmed grip, before the note operation: the record in H, the bay unseated (R33). -/
def heldBy (s : State) (src : Loc) : State :=
  (((s.passRecord src .hand).createRecord .hand).gripUnseats src).modChg fun c => { c with hand := .holding }

theorem gripped_move {s : State} {src dst : Loc} {auto : Bool} {tag : Half} {rest : List Order} {r : CartRecord}
    (queue : s.chg.queue = .move src dst auto tag :: rest) (step : s.chg.step = some .grip)
    (record : (heldBy s src).mtb.get .hand = some r) : s.gripped = (heldBy s src).startNote .hand r := by
  have held : s.gripped = match (heldBy s src).mtb.get .hand with
      | some r => (heldBy s src).startNote .hand r
      | none => heldBy s src := by
    unfold State.gripped
    rw [step, queue]
    rfl
  rw [held, record]

theorem gripped_scan {s : State} {i : Fin 16} {first last : Nat} {rest : List Order} {r : CartRecord}
    (queue : s.chg.queue = .scan first last :: rest) (step : s.chg.step = some .grip) (at_ : s.chg.scanAt = i.val)
    (record : s.mtb.get (.slot i) = some r) :
    s.gripped = (s.modChg fun c => { c with hand := .holding }).startNote (.slot i) r := by
  have loc : scanLoc s.chg.scanAt = .slot i := by rw [at_, scanLoc_slot]
  unfold State.gripped
  rw [step, queue]
  dsimp only [Chg.heldLoc, Chg.gripLoc]
  rw [loc, if_pos (show (Order.scan first last).isScan = true from rfl), createRecord_of_some record]
  dsimp only [State.gripUnseats]
  rw [State.modChg_mtb, record]

/-- Settles O19: the record passes, the bay is unseated, and the note operation or the travel starts. -/
theorem gripPassesTheRecordAndStartsTheNote : Obligations.GripPassesTheRecordAndStartsTheNote := by
  unfold Obligations.GripPassesTheRecordAndStartsTheNote
  refine ⟨fun s src dst auto tag rest r queue step not_hand record empty away seated => ?_,
    fun s i dst auto tag rest queue step absent empty => ?_,
    fun s i first last rest r queue step at_ record reads => ?_⟩
  · obtain ⟨d, passed⟩ := get_pass_dst record s.hasJob .hand
    have created : (s.passRecord src .hand).createRecord .hand = s.passRecord src .hand := createRecord_of_some passed
    have jobs : ∀ t, src = .bay t → ((s.passRecord src .hand).tc t).st = .seated := fun t ht => by
      rw [State.passRecord, State.modMtb_tc]
      exact seated t ht
    obtain ⟨table, link, chg, at_bay, elsewhere⟩ := gripUnseats_frame jobs
    have held : (heldBy s src).mtb.get .hand = some { r with duplicate := d } := by
      unfold heldBy
      rw [created, State.modChg_mtb, table]
      exact passed
    have waits : (heldBy s src).chg.queue = .move src dst auto tag :: rest := by
      unfold heldBy
      rw [created, State.modChg_chg, chg]
      exact queue
    have standing : (heldBy s src).chg.picker ≠ .atLoc dst := by
      unfold heldBy
      rw [created, State.modChg_chg, chg]
      exact away
    have frame : (heldBy s src).lnk = s.lnk ∧ (heldBy s src).chg.hand = .holding ∧ (heldBy s src).chg.image = s.chg.image ∧
        (heldBy s src).chg.takeHold = gripHold s.chg src ∧
        (∀ k, (heldBy s src).mtb.get k = (s.passRecord src .hand).mtb.get k) ∧
        (∀ t, (heldBy s src).tc t = ((s.passRecord src .hand).gripUnseats src).tc t) ∧
        ∀ t, (heldBy s src).mtb.bayValues t = ((s.passRecord src .hand).gripUnseats src).mtb.bayValues t := by
      unfold heldBy
      rw [created]
      refine ⟨link, rfl, ?_, ?_, table, fun t => State.modChg_tc .., fun t => rfl⟩
      · rw [State.modChg_chg, chg]
        rfl
      · rw [State.modChg_chg, chg]
        rfl
    obtain ⟨held_link, held_hand, held_image, held_hold, held_table, held_tc, held_values⟩ := frame
    obtain ⟨q, started⟩ := startNote_move waits standing held
    obtain ⟨m, c, made⟩ := started.frame
    obtain ⟨hand, orders, hold⟩ := started.chg
    have tc : ∀ t, ((heldBy s src).startNote .hand { r with duplicate := d }).tc t = (heldBy s src).tc t := fun t => by
      rw [made]
      cases t <;> rfl
    refine ⟨_, q, runs_of_eq (v := s.gripped) rfl (gripped_move queue step held), ?_, started.record, hand.trans held_hand,
      (orders.trans waits).trans queue.symm, ?_, fun t ht => ⟨?_, ?_⟩, fun t ht => ⟨?_, ?_⟩, hold.trans held_hold,
      fun h => ?_, fun hp hd hs => ?_, fun hp hd hn => ?_⟩
    · rw [started.others _ not_hand, held_table]
      exact get_pass_src s.mtb s.hasJob (Ne.symm not_hand)
    · rw [made]
      exact held_link
    · rw [tc, held_tc, (at_bay t ht).1, State.passRecord, State.modMtb_tc]
    · rw [started.values, held_values, (at_bay t ht).2]
    · rw [tc, held_tc, (elsewhere t ht).1, State.passRecord, State.modMtb_tc]
    · rw [started.values, held_values, (elsewhere t ht).2]
      exact bayValues_pass ..
    · obtain ⟨rfl, note, op, image⟩ := started.read h
      exact ⟨rfl, note, op, image.trans held_image⟩
    · obtain ⟨rfl, note, op, image⟩ := started.write hp hd hs
      exact ⟨rfl, note, op, image⟩
    · obtain ⟨rfl, op, image, travels, leaves⟩ := started.rest hp hd hn
      exact ⟨rfl, op, image.trans held_image, travels, leaves⟩
  · have same : s.passRecord (.slot i) .hand = s := congrArg (fun m => { s with mtb := m }) (pass_of_none absent ..)
    refine runs_of_eq (v := s.gripped) rfl ?_
    have held : heldBy s (.slot i) = { s with mtb := s.mtb.put .hand (some {}), chg := { s.chg with hand := .holding } } := by
      unfold heldBy
      rw [same, createRecord_of_none empty]
      rfl
    rw [gripped_move queue step (r := {}) (by rw [held]; exact Mtb.get_put ..), held]
    rfl
  · refine runs_of_eq (v := s.gripped) rfl ((gripped_scan queue step at_ record).trans ?_)
    unfold State.startNote
    rw [noteChoice_read reads]
    rfl

end Sys2Proof.Proofs
end

section
/-! PROOFS. Note reads and writes (R18 to R23), and places (R36 to R38, R52). -/

open Sys2Proof Sys2Proof.Machine Sys2Proof.Claims

namespace Sys2Proof.Proofs

-- One declaration at a time: elaborated in parallel, the joined text needs more threads than the memory limit holds.
set_option Elab.async false

/-! ## Note reads (O21) -/

theorem noteRead_read {s : State} {o : Order} {rest : List Order} (queue : s.chg.queue = o :: rest)
    (op : s.chg.noteOp = some .read) (image : Option (List Byte)) {m : Mtb}
    (hm : m = (s.mtb.put (s.chg.heldLoc o) (some (rebuild image))).settle) :
    s.noteRead image =
      State.noteDone { s with
        mtb := m
        chg := { s.chg with image := image, notesRead := if o.isScan then s.chg.notesRead + 1 else s.chg.notesRead } } := by
  unfold State.noteRead
  rw [queue, op]
  dsimp only [State.modMtb, State.modChg]
  rw [← hm]

theorem noteDone_scan {s : State} {first last : Nat} {rest : List Order}
    (queue : s.chg.queue = .scan first last :: rest) :
    s.noteDone =
      { s with chg := { s.chg with st := .running, step := some (.place false false), noteOp := none } } := by
  unfold State.noteDone
  dsimp only
  rw [show (s.modChg fun c => { c with noteOp := none }).chg.queue = .scan first last :: rest from queue]
  rfl

/-- A record put in its entry and the flags settled: the record but for its flag, and every other as it was but for
its flag (R6). -/
theorem put_settle (m : Mtb) (l : Loc) (r : CartRecord) :
    ∃ n : Mtb, n = (m.put l (some r)).settle ∧ (∃ d, n.get l = some { r with duplicate := d }) ∧
      ∀ k, k ≠ l → ((n.get k).map fun q => { q with duplicate := false }) =
        (m.get k).map fun q => { q with duplicate := false } := by
  refine ⟨_, rfl, ?_, fun k hk => ?_⟩
  · rw [Mtb.get_settle, Mtb.get_put]
    exact ⟨_, rfl⟩
  · rw [Mtb.get_settle, Mtb.get_put_of_ne _ _ hk]
    cases m.get k <;> rfl

theorem marker_iff (img : List Byte) (i : Nat) (b : Byte) : noteByte img i = b.toNat ↔ img.getD i 0 = b :=
  ⟨fun h => BitVec.eq_of_toNat_eq h, fun h => congrArg BitVec.toNat h⟩

theorem classOfByte_other {img : List Byte} (h1 : img.getD 13 0 ≠ 1) (h2 : img.getD 13 0 ≠ 2) :
    classOfByte (noteByte img 13) = none := by
  have one : noteByte img 13 ≠ 1 := fun h => h1 ((marker_iff img 13 1).mp h)
  have two : noteByte img 13 ≠ 2 := fun h => h2 ((marker_iff img 13 2).mp h)
  unfold classOfByte
  rw [if_neg one, if_neg two]

theorem classOfByte_of {img : List Byte} {c : CartClass} (h : img.getD 13 0 = match c with | .t1 => 1 | .t2 => 2) :
    classOfByte (noteByte img 13) = some c := by
  cases c with
  | t1 => rw [show noteByte img 13 = 1 from (marker_iff img 13 1).mpr h]; rfl
  | t2 => rw [show noteByte img 13 = 2 from (marker_iff img 13 2).mpr h]; rfl

/-- The walk meets no section of a code above 3 (R19). -/
theorem noteSections_unlisted {img : List Byte} (h : 3 < (img.getD 16 0).toNat) (c : CartClass) :
    noteSections img c = none := by
  have code : 3 < noteByte img 16 := h
  have walk : walkSections img Config.noteBytes 16 {} = none := by
    show walkSections img (2047 + 1) 16 {} = none
    unfold walkSections
    rw [if_neg (by decide)]
    split
    next z => omega
    next z => omega
    next z => omega
    next z => omega
    next => rfl
  unfold noteSections
  rw [walk]
  rfl

theorem rebuild_unmarked {img : List Byte} (h : img.getD 0 0 ≠ 0x3C) : rebuild (some img) = { noteState := .invalid } :=
  if_pos fun marked => h ((marker_iff img 0 0x3C).mp marked)

theorem rebuild_marked {img : List Byte} (h : img.getD 0 0 = 0x3C) :
    rebuild (some img) =
      (let base : CartRecord := { label := noteLabel img, loadCount := noteField img 14 2 }
      match classOfByte (noteByte img 13) with
      | none => { base with noteState := .damaged }
      | some c =>
        match noteSections img c with
        | none => { base with noteState := .damaged, cls := some c }
        | some sec =>
          { base with
            noteState := .valid
            cls := some c
            eod := match sec.eod with
              | none => .unknown
              | some (a, f, n) => .known a f n
            map := sec.map
            rawTotal := (sec.totals.map (·.1)).getD 0
            codedTotal := (sec.totals.map (·.2)).getD 0 }) :=
  if_neg fun unmarked => unmarked ((marker_iff img 0 0x3C).mpr h)

/-- Settles O21: the record rebuilt, then the travel or the push-back; R18 to R20 case by case. -/
theorem noteReadRebuildsTheRecord : Obligations.NoteReadRebuildsTheRecord := by
  unfold Obligations.NoteReadRebuildsTheRecord
  refine ⟨fun s src i auto tag rest image queue op away => ?_, fun s i first last rest image queue op at_ => ?_, rfl,
    fun img label hl => ⟨rebuild_unmarked, fun marked => ⟨fun h1 h2 => ?_, fun c hc => ⟨fun bad => ?_, fun h => noteSections_unlisted h c⟩⟩⟩⟩
  · obtain ⟨m, hm, ⟨d, rebuilt⟩, others⟩ := put_settle s.mtb .hand (rebuild image)
    refine ⟨_, _, runs_of_eq (v := s.noteRead image) rfl ((noteRead_read queue op image hm).trans
      (noteDone_move (by exact queue) (by exact away))), rebuilt, rfl, rfl, rfl, rfl, rfl, others⟩
  · have held : s.chg.heldLoc (.scan first last) = .slot i := by
      rw [← scanLoc_slot i, ← at_]
      rfl
    obtain ⟨m, hm, ⟨d, rebuilt⟩, -⟩ := put_settle s.mtb (.slot i) (rebuild image)
    rw [← held] at hm
    refine ⟨_, _, runs_of_eq (v := s.noteRead image) rfl ((noteRead_read queue op image hm).trans
      (noteDone_scan (by exact queue))), rebuilt, rfl, rfl, rfl, rfl, rfl⟩
  · rw [rebuild_marked marked, classOfByte_other h1 h2, hl]
    rfl
  · rw [rebuild_marked marked, classOfByte_of hc, hl]
    dsimp only
    rw [bad]
    rfl

/-! ## Note writes (O22) -/

/-- The pages from page 1 on carry the image from byte 32 on (R22). -/
theorem pages_flatten (img : List Byte) (n : Nat) :
    ((List.range n).map fun k => (((WriteStep.page (k + 1)).carries img).map (·.2)).getD []).flatten =
      (img.drop 32).take (32 * n) := by
  induction n with
  | zero => rfl
  | succ n ih =>
    have page : (((WriteStep.page (n + 1)).carries img).map (·.2)).getD [] = ((img.drop 32).drop (32 * n)).take 32 := by
      rw [List.drop_drop, show 32 + 32 * n = 32 * (n + 1) by omega]
      rfl
    rw [List.range_succ, List.map_append, List.flatten_append, ih, List.map_singleton, List.flatten_singleton, page,
      ← List.take_add, Nat.mul_succ]

/-- A note write that has failed: the record in H is INVALID, and the MOVE travels on (R23, R34). -/
theorem noteFailed_move {s : State} {src dst : Loc} {auto : Bool} {tag : Half} {rest : List Order} {r : CartRecord}
    (queue : s.chg.queue = .move src dst auto tag :: rest) (record : s.mtb.get .hand = some r)
    (away : s.chg.picker ≠ .atLoc dst) :
    s.noteFailed =
      { s with
        mtb := s.mtb.put .hand (some { r with noteState := .invalid })
        chg := { s.chg with st := .running, step := some .travelDest, picker := .inTravel, noteOp := none,
                            noteFault := true } } := by
  have written : s.noteInvalid (.move src dst auto tag) =
      { s with mtb := s.mtb.put .hand (some { r with noteState := .invalid }) } := by
    show ({ s with mtb := s.mtb.put .hand ((s.mtb.get .hand).map fun r : CartRecord => { r with noteState := .invalid }) } : State) = _
    rw [record]
    rfl
  unfold State.noteFailed
  rw [queue]
  dsimp only
  rw [written]
  exact noteDone_move (s := { s with
    mtb := s.mtb.put .hand (some { r with noteState := .invalid }), chg := { s.chg with noteFault := true } }) queue away

theorem noteRead_back {s : State} {o : Order} {rest : List Order} {grip : CartRecord} (queue : s.chg.queue = o :: rest)
    (op : s.chg.noteOp = some (.write grip .readBack)) (image : Option (List Byte)) :
    s.noteRead image =
      if image.isSome ∧ image = s.chg.image then
        (s.modMtb fun m => m.modify (s.chg.heldLoc o) fun now => now.noteWritten grip).noteDone
      else s.noteFailed := by
  unfold State.noteRead
  rw [queue, op]

/-- Settles O22: the steps of a note write one by one, and its two ends. -/
theorem noteWriteGoesPageByPageToItsEnd : Obligations.NoteWriteGoesPageByPageToItsEnd := by
  unfold Obligations.NoteWriteGoesPageByPageToItsEnd
  refine ⟨fun s r st op => ⟨?_, fun img image => ?_⟩, fun img size marker => ?_,
    fun s src i auto tag rest grip r st failed queue op record away hf => ⟨fun running => ?_, fun image last differs => ?_,
      fun image last same => ?_⟩⟩
  · refine runs_of_eq (v := s.pageDone) rfl ?_
    unfold State.pageDone
    rw [op]
    cases st <;> rfl
  · unfold Chg.pageSent
    rw [op, image]
    cases st <;> rfl
  · obtain ⟨b, rest, rfl⟩ : ∃ b rest, img = b :: rest := by
      cases img with
      | nil => exact absurd marker (by simp)
      | cons b rest => exact ⟨b, rest, rfl⟩
    obtain rfl : b = 0x3C := by simpa using marker
    have marked : markedPage (0x3C :: rest) 0x3C = ((0x3C : Byte) :: rest).take 32 := rfl
    refine ⟨_, rfl, ?_⟩
    rw [marked, pages_flatten, List.take_of_length_le (l := ((0x3C : Byte) :: rest).drop 32) (by rw [List.length_drop]; omega)]
    exact List.take_append_drop 32 _
  · subst hf
    refine runs_of_eq (v := s.noteTimeout) rfl (Eq.trans ?_ (noteFailed_move queue record away))
    unfold State.noteTimeout
    rw [op]
    cases st with
    | readBack => exact absurd rfl running
    | _ => rfl
  · subst hf last
    refine runs_of_eq (v := s.noteRead image) rfl ((noteRead_back queue op image).trans ((if_neg ?_).trans
      (noteFailed_move queue record away)))
    rintro ⟨some, same⟩
    obtain rfl | other := differs
    · exact Bool.noConfusion some
    · exact other same
  · subst last
    refine runs_of_eq (v := s.noteRead (some image)) rfl ((noteRead_back queue op (some image)).trans
      ((if_pos ⟨rfl, same.symm⟩).trans ?_))
    have written : (s.modMtb fun m => m.modify (s.chg.heldLoc (.move src (.slot i) auto tag)) fun now : CartRecord =>
        now.noteWritten grip) = { s with mtb := s.mtb.put .hand (some (r.noteWritten grip)) } := by
      have now : (s.mtb.get .hand).map (fun now => now.noteWritten grip) = some (r.noteWritten grip) := by
        rw [record]
        rfl
      exact congrArg (fun q => { s with mtb := s.mtb.put .hand q }) now
    rw [written]
    exact noteDone_move (s := { s with mtb := s.mtb.put .hand (some (r.noteWritten grip)) }) queue away

/-! ## Seating and unseating (O29) -/

theorem seatReached_of_ne {c : Chg} (h : ∀ a b, c.step ≠ some (.place a b)) (t : Tr) : c.seatReached t = c := by
  unfold Chg.seatReached
  split
  next step _ => exact absurd step (h _ _)
  next => rfl

theorem placeTest_of_ne {s : State} (h : ∀ a b, s.chg.step ≠ some (.place a b)) : s.placeTest = s := by
  refine if_neg ?_
  unfold Chg.placeDone
  split
  next step _ => exact absurd step (h _ _)
  next step _ => exact absurd step (h _ _)
  next => exact Bool.false_ne_true

/-- A cartridge seats in a bay whose tape does not stream: class and protect written and held (R52). -/
theorem seat_eq {s : State} {t : Tr} (h : (s.tc t).st.streams = false) (v : BayValues) :
    s.seat t v =
      State.setTc { s with mtb := s.mtb.seatBay t v, chg := s.chg.seatReached t } t
        { s.tc t with st := .seated, pos := none } := by
  unfold State.seat State.modTc
  dsimp only
  rw [goto_of_still _ h]
  cases t <;> rfl

@[simp] theorem bayValues_setBayValues (m : Mtb) (t : Tr) (v : Option BayValues) : (m.setBayValues t v).bayValues t = v := by
  cases t <;> rfl

theorem get_seatBay (m : Mtb) (t : Tr) (v : BayValues) :
    (m.seatBay t v).get (.bay t) = (m.get (.bay t)).map fun r => { r with cls := some v.cls, protect := some v.protect } := by
  unfold Mtb.seatBay
  rw [Mtb.get_setBayValues, Mtb.get_modify]
  rfl

theorem get_seatBay_of_ne (m : Mtb) (t : Tr) (v : BayValues) {k : Loc} (h : k ≠ .bay t) :
    (m.seatBay t v).get k = m.get k := by
  unfold Mtb.seatBay
  rw [Mtb.get_setBayValues, Mtb.get_modify_of_ne _ _ h]

/-- Settles O29: a seating with no place in progress, and an unseating in SEATED. -/
theorem seatingAndUnseatingABay : Obligations.SeatingAndUnseatingABay := by
  unfold Obligations.SeatingAndUnseatingABay
  refine ⟨fun s t cls protect empty no_place => ?_, fun s t seated => ?_⟩
  · have still : (s.tc t).st.streams = false := by rw [empty]; rfl
    have chg : s.chg.seatReached t = s.chg := seatReached_of_ne no_place t
    have ends : (s.seat t { cls, protect }).placeTest = s.seat t { cls, protect } := by
      refine placeTest_of_ne ?_
      rw [seat_eq still, State.setTc_chg]
      show ∀ a b, (s.chg.seatReached t).step ≠ _
      rw [chg]
      exact no_place
    refine ⟨_, runs_of_eq rfl ((if_pos empty).trans (ends.trans (seat_eq still _))), ?_⟩
    refine ⟨?_, ?_, ?_, ?_, ?_, fun k hk => ?_, ?_⟩
    · rw [State.setTc_chg]
      exact chg
    · rw [State.setTc_lnk]
    · exact State.setTc_tc ..
    · rw [State.setTc_tc_other]
      cases t <;> rfl
    · rw [State.setTc_mtb]
      exact bayValues_setBayValues ..
    · rw [State.setTc_mtb]
      exact get_seatBay_of_ne _ _ _ hk
    · rw [State.setTc_mtb]
      exact get_seatBay ..
  · refine runs_of_eq (v := s.seatLost t) rfl (Eq.trans ?_ (unseat_of_seated seated))
    unfold State.seatLost
    rw [seated]

/-! ## Places (O23) -/

/-- The start of a job of a transport whose tape does not stream (R14, R51, R103). -/
theorem startJob_eq {s : State} {t : Tr} (h : (s.tc t).st.streams = false) (j : Job) (st : TcState) (d : Dir) :
    s.startJob t j st d = jobStarted s t j st d := by
  have still : ((s.clearCtx t d).tc t).goto st = { s.tc t with st := st } := by
    have same : (s.clearCtx t d).tc t = s.tc t := by cases t <;> rfl
    rw [same, goto_of_still _ h]
  unfold State.startJob State.modTc
  dsimp only
  rw [still]
  cases t <;> rfl

/-- The state in which the place of a MOVE is confirmed: the record passed, the hand empty, the order ended (R36). -/
def placedAt (s : State) (o : Order) (rest : List Order) (dst : Loc) : State :=
  { s with
    mtb := s.mtb.pass s.hasJob .hand dst
    lnk := queued s.lnk
      [orderEnd { s with mtb := s.mtb.pass s.hasJob .hand dst } o
        (if s.chg.noteFault then .noteWriteFault else .ok) (some dst)]
    chg := { withOrders s.chg rest with st := .running, hand := .empty, image := none } }

theorem placedMove_eq {s : State} {o : Order} {rest : List Order} (queue : s.chg.queue = o :: rest)
    (dst : Loc) (auto : Bool) :
    s.placedMove dst auto =
      match dst with
      | .bay t => if auto then (placedAt s o rest dst).autoload t else placedAt s o rest dst
      | _ => placedAt s o rest dst := by
  obtain ⟨m, passed⟩ : ∃ m, s.mtb.pass s.hasJob .hand dst = m := ⟨_, rfl⟩
  have ended : (((s.passRecord .hand dst).modChg fun c => { c with hand := .empty, image := none }).endHead
      (if s.chg.noteFault then .noteWriteFault else .ok) (some dst)).chgNext = placedAt s o rest dst := by
    unfold placedAt State.passRecord State.modMtb
    dsimp only
    rw [passed, endHead_eq (s := State.modChg { s with mtb := m } fun c => { c with hand := .empty, image := none }) queue]
    rfl
  unfold State.placedMove
  dsimp only
  rw [ended] <;> rfl

/-- The end of a MOVE reads label and note state of the record it names (R28). -/
theorem orderEnd_move {s v : State} {o : Order} (ho : o.isScan = false) {l : Loc} {r q : CartRecord}
    (hs : s.mtb.get l = some r) (hv : v.mtb.get l = some q) (label : q.label = r.label)
    (note : q.noteState = r.noteState) (res : MoveResult) : orderEnd v o res (some l) = orderEnd s o res (some l) := by
  cases o with
  | scan f n => exact Bool.noConfusion ho
  | move src dst auto tag =>
    unfold orderEnd
    simp only [Option.bind_some, hs, hv, label, note, Option.map_some]

/-- What the place of a held record leaves (R1, R36). -/
structure Placed (s u : State) (o : Order) (rest : List Order) (dst : Loc) (r r' : CartRecord) : Prop where
  hand : u.mtb.get .hand = none
  record : u.mtb.get dst = some r'
  others : OthersKept dst s u
  link : u.lnk = queued s.lnk [orderEnd u o (if s.chg.noteFault then .noteWriteFault else .ok) (some dst)]
  chg : u.chg = { withOrders s.chg rest with st := .running, hand := .empty, image := none }

theorem placedAt_placed {s : State} {r : CartRecord} (held : s.mtb.get .hand = some r) {o : Order} (ho : o.isScan = false)
    (rest : List Order) {dst : Loc} (hd : dst ≠ .hand) :
    ∃ d, Placed s (placedAt s o rest dst) o rest dst r { s.mtb.entering s.hasJob r dst with duplicate := d } := by
  obtain ⟨d, passed⟩ := get_pass_dst held s.hasJob dst
  refine ⟨d, ⟨get_pass_src s.mtb s.hasJob hd, passed, fun k hh hk => get_pass_other s.mtb s.hasJob .hand dst k hh hk, ?_, rfl⟩⟩
  exact congrArg (fun n => queued s.lnk [n]) (orderEnd_move ho (v := { s with mtb := s.mtb.pass s.hasJob .hand dst })
    (s := placedAt s o rest dst) passed passed rfl rfl _)

/-- The autoload handed over at a place starts a LOAD, to which the record is bound (R14, R37, R53). -/
theorem autoload_placed {s v : State} {o : Order} (ho : o.isScan = false) {rest : List Order} {t : Tr}
    {r q : CartRecord} (placed : Placed s v o rest (.bay t) r q) (seated : (v.tc t).st = .seated)
    (free : s.chg.takeHold ≠ some t) :
    Placed s (v.autoload t) o rest (.bay t) r { q with binding := some t } ∧
      ((v.autoload t).tc t).st = .threading ∧ ((v.autoload t).tc t).job = some (.load {}) ∧
      (v.autoload t).tc t.other = v.tc t.other := by
  obtain ⟨hand, record, others, link, chg⟩ := placed
  have held_free : v.chg.takeHold ≠ some t := by
    rw [chg]
    exact free
  have loads : v.autoload t = jobStarted v t (.load {}) .threading .none := by
    unfold State.autoload State.startLoad
    rw [if_pos ⟨seated, held_free⟩, startJob_eq (by rw [seated]; rfl)]
  have table : (v.autoload t).mtb = v.mtb.put (.bay t) (some { q with binding := some t }) := by
    rw [loads]
    unfold jobStarted
    rw [State.setTc_mtb, record]
    rfl
  have bound : (v.autoload t).mtb.get (.bay t) = some { q with binding := some t } := by rw [table, Mtb.get_put]
  refine ⟨⟨?_, bound, fun k hh hk => ?_, ?_, ?_⟩, ?_, ?_, ?_⟩
  · rw [table, Mtb.get_put_of_ne _ _ (by simp)]
    exact hand
  · rw [table, Mtb.get_put_of_ne _ _ hk]
    exact others k hh hk
  · have same : (v.autoload t).lnk = v.lnk := by
      rw [loads]
      unfold jobStarted
      rw [State.setTc_lnk]
      cases t <;> rfl
    rw [same, link]
    exact congrArg (fun n => queued s.lnk [n]) (orderEnd_move ho bound record rfl rfl _)
  · have same : (v.autoload t).chg = v.chg := by
      rw [loads]
      unfold jobStarted
      rw [State.setTc_chg]
      cases t <;> rfl
    rw [same]
    exact chg
  all_goals
    rw [loads]
    cases t <;> rfl

/-- A place at a bay confirmed by both the hand and the transport (R36, R37). -/
theorem placedMove_bay {s : State} {src : Loc} {t : Tr} {auto : Bool} {tag : Half} {rest : List Order} {r : CartRecord}
    {cls : CartClass} {protect : Protect} (queue : s.chg.queue = .move src (.bay t) auto tag :: rest)
    (held : s.mtb.get .hand = some r) (seated : (s.tc t).st = .seated) (idle : (s.tc t).job = none)
    (free : s.chg.takeHold ≠ some t) (values : s.mtb.bayValues t = some { cls := cls, protect := protect }) :
    ∃ r', Placed s (s.placedMove (.bay t) auto) (.move src (.bay t) auto tag) rest (.bay t) r r' ∧
      r' = { r with cls := some cls, protect := some protect, duplicate := r'.duplicate,
                    binding := if auto then some t else r.binding } ∧
      ((s.placedMove (.bay t) auto).tc t).st = (if auto then .threading else .seated) ∧
      ((s.placedMove (.bay t) auto).tc t).job = (if auto then some (.load {}) else none) ∧
      (s.placedMove (.bay t) auto).tc t.other = s.tc t.other := by
  obtain ⟨d, placed⟩ := placedAt_placed held (o := .move src (.bay t) auto tag) rfl rest (dst := .bay t) (by simp)
  have enters : s.mtb.entering s.hasJob r (.bay t) = { r with cls := some cls, protect := some protect } := by
    have no_job : s.hasJob t = false := by
      unfold State.hasJob
      rw [idle]
      rfl
    unfold Mtb.entering
    dsimp only
    rw [no_job, values]
    rfl
  rw [enters] at placed
  have tc : ∀ u, (placedAt s (.move src (.bay t) auto tag) rest (.bay t)).tc u = s.tc u := fun u => by cases u <;> rfl
  rw [placedMove_eq queue]
  cases auto with
  | false => exact ⟨_, placed, rfl, (congrArg Tc.st (tc t)).trans seated, (congrArg Tc.job (tc t)).trans idle, tc _⟩
  | true =>
    obtain ⟨loaded, st, job, other⟩ := autoload_placed rfl placed ((congrArg Tc.st (tc t)).trans seated) free
    exact ⟨_, loaded, rfl, st, job, other.trans (tc _)⟩

theorem released_eq {s : State} {a b : Bool} (step : s.chg.step = some (.place a b)) :
    s.released = (s.modChg fun c => { c with step := some (.place true b) }).placeTest := by
  unfold State.released
  rw [step]

/-- A confirmed place at a bay waits for both the hand and the transport (R36). -/
theorem placeTest_bay {s : State} {src : Loc} {t : Tr} {auto : Bool} {tag : Half} {rest : List Order} {a b : Bool}
    (queue : s.chg.queue = .move src (.bay t) auto tag :: rest) (step : s.chg.step = some (.place a b)) :
    s.placeTest = if a && b then s.placedMove (.bay t) auto else s := by
  unfold State.placeTest Chg.placeDone State.placed
  rw [queue, step]

theorem placeTest_other {s : State} {src dst : Loc} {auto : Bool} {tag : Half} {rest : List Order} {b : Bool}
    (queue : s.chg.queue = .move src dst auto tag :: rest) (hd : ∀ t, dst ≠ .bay t)
    (step : s.chg.step = some (.place true b)) : s.placeTest = s.placedMove dst auto := by
  unfold State.placeTest Chg.placeDone State.placed
  rw [queue, step]
  cases dst with
  | bay t => exact absurd rfl (hd t)
  | _ => rfl

theorem placeTest_scan {s : State} {first last : Nat} {rest : List Order} {b : Bool}
    (queue : s.chg.queue = .scan first last :: rest) (step : s.chg.step = some (.place true b)) :
    s.placeTest = (s.modChg fun c => { c with hand := .empty, image := none }).scanNext last := by
  unfold State.placeTest Chg.placeDone State.placed
  rw [queue, step]
  rfl

/-- The state v differs from s in the step of the running order and in what a seating of t brings (R36, R52). -/
structure PlaceAt (s v : State) (t : Tr) (b : BayValues) (step : OrderStep) : Prop where
  chg : v.chg = { s.chg with step := some step }
  st : (v.tc t).st = .seated
  job : (v.tc t).job = (s.tc t).job
  other : v.tc t.other = s.tc t.other
  link : v.lnk = s.lnk
  values : v.mtb.bayValues t = some b
  records : ∀ k, k ≠ .bay t → v.mtb.get k = s.mtb.get k

/-- A cartridge that seats in an EMPTY bay where a MOVE is being placed (R36, R52). -/
theorem seat_in_place {s : State} {t : Tr} {src : Loc} {auto : Bool} {tag : Half} {rest : List Order} {a c : Bool}
    (queue : s.chg.queue = .move src (.bay t) auto tag :: rest) (empty : (s.tc t).st = .empty)
    (step : s.chg.step = some (.place a c)) (b : BayValues) :
    PlaceAt s (s.seat t b) t b (.place a true) ∧ (s.seat t b).tc t = { s.tc t with st := .seated, pos := none } := by
  have chg : s.chg.seatReached t = { s.chg with step := some (.place a true) } := by
    unfold Chg.seatReached
    split
    next hs hq =>
      cases step.symm.trans hs
      cases queue.symm.trans hq
      exact if_pos rfl
    next none => exact absurd queue (none _ _ _ _ _ _ _ step)
  rw [seat_eq (by rw [empty]; rfl)]
  refine ⟨⟨?_, ?_, ?_, ?_, State.setTc_lnk .., ?_, fun k hk => ?_⟩, State.setTc_tc ..⟩
  · rw [State.setTc_chg]
    exact chg
  · rw [State.setTc_tc]
  · rw [State.setTc_tc]
  · rw [State.setTc_tc_other]
    cases t <;> rfl
  · rw [State.setTc_mtb]
    exact bayValues_setBayValues ..
  · rw [State.setTc_mtb]
    exact get_seatBay_of_ne _ _ _ hk

/-- What a place leaves does not depend on the step noted before it. -/
theorem PlaceAt.placed {s v u : State} {t : Tr} {b : BayValues} {step : OrderStep} (h : PlaceAt s v t b step) {o : Order}
    {rest : List Order} {r r' : CartRecord} (placed : Placed v u o rest (.bay t) r r') :
    Placed s u o rest (.bay t) r r' := by
  obtain ⟨hand, record, others, link, chg⟩ := placed
  have fault : v.chg.noteFault = s.chg.noteFault := by rw [h.chg]
  refine ⟨hand, record, fun k hh hk => ?_, ?_, ?_⟩
  · rw [← h.records k hk]
    exact others k hh hk
  · rw [link, h.link, fault]
  · rw [chg, h.chg]
    rfl

/-- Settles O23: the place at a slot or M, at a bay in both orders, and a SCAN's push-back. -/
theorem placePassesTheRecordOnceConfirmed : Obligations.PlacePassesTheRecordOnceConfirmed := by
  unfold Obligations.PlacePassesTheRecordOnceConfirmed
  refine ⟨fun s src dst auto tag rest b r queue hd step held => ?_,
    fun s t src auto tag rest cls protect r queue idle held free => ⟨fun empty step => ⟨?_, ?_⟩, fun c ends => ?_⟩,
    fun s first last rest b queue step => ⟨fun finished => ?_, fun more away => ?_⟩⟩
  · have no_bay : ∀ t, dst ≠ .bay t := fun t ht => by
      obtain rfl | ⟨i, rfl⟩ := hd <;> exact Loc.noConfusion ht
    have not_hand : dst ≠ .hand := fun hh => by
      obtain rfl | ⟨i, rfl⟩ := hd <;> exact Loc.noConfusion hh
    obtain ⟨d, placed⟩ := placedAt_placed (s := s.modChg fun c => { c with step := some (.place true b) }) held
      (o := .move src dst auto tag) rfl rest not_hand
    have ended : s.released =
        placedAt (s.modChg fun c => { c with step := some (.place true b) }) (.move src dst auto tag) rest dst := by
      rw [released_eq step, placeTest_other (s := s.modChg fun c => { c with step := some (.place true b) }) queue no_bay rfl,
        placedMove_eq (s := s.modChg fun c => { c with step := some (.place true b) }) queue]
      obtain rfl | ⟨i, rfl⟩ := hd <;> rfl
    have enters : s.mtb.entering s.hasJob r dst = r := by obtain rfl | ⟨i, rfl⟩ := hd <;> rfl
    obtain ⟨hand, record, others, link, chg⟩ := placed
    refine ⟨_, { r with duplicate := d }, runs_of_eq (v := s.released) rfl ended, hand, ?_, rfl, link, chg, rfl, rfl, others⟩
    exact record.trans (congrArg (fun q : CartRecord => some { q with duplicate := d }) enters)
  · refine runs_of_eq (v := s.released) rfl ((released_eq step).trans ?_)
    exact (placeTest_bay (s := s.modChg fun c => { c with step := some (.place true false) }) queue rfl).trans (if_neg (by simp))
  · obtain ⟨at_bay, tc⟩ := seat_in_place queue empty step { cls, protect }
    have waits : (s.seat t { cls, protect }).chg.queue = .move src (.bay t) auto tag :: rest := by
      rw [at_bay.chg]
      exact queue
    have reached : (s.seat t { cls, protect }).chg.step = some (.place false true) := by rw [at_bay.chg]
    refine ⟨_, runs_of_eq rfl ((if_pos empty).trans ((placeTest_bay waits reached).trans (if_neg (by simp)))), at_bay.chg,
      tc, at_bay.link, at_bay.values, ?_⟩
    rw [at_bay.records _ (by simp)]
    exact held
  · obtain ⟨v, at_bay, runs⟩ : ∃ v, PlaceAt s v t { cls, protect } (.place true true) ∧
        ∀ u, v.placeTest = u → Runs c s u := by
      obtain ⟨empty, step, rfl⟩ | ⟨seated, step, rfl, values⟩ := ends
      · exact ⟨_, (seat_in_place queue empty step { cls, protect }).1, fun u e => runs_of_eq rfl ((if_pos empty).trans e)⟩
      · refine ⟨s.modChg fun c => { c with step := some (.place true true) }, ⟨rfl, ?_, ?_, ?_, rfl, values, fun _ _ => rfl⟩,
          fun u e => runs_of_eq (v := s.released) rfl ((released_eq step).trans e)⟩
        · rw [State.modChg_tc]
          exact seated
        · rw [State.modChg_tc]
        · rw [State.modChg_tc]
    have waits : v.chg.queue = .move src (.bay t) auto tag :: rest := by
      rw [at_bay.chg]
      exact queue
    obtain ⟨r', placed, made, st, job, other⟩ := placedMove_bay (r := r) (cls := cls) (protect := protect) waits
      ((at_bay.records _ (by simp)).trans held) at_bay.st (at_bay.job.trans idle) (by rw [at_bay.chg]; exact free)
      at_bay.values
    obtain ⟨hand, record, others, link, chg⟩ := at_bay.placed placed
    refine ⟨_, r', runs _ ((placeTest_bay waits (by rw [at_bay.chg])).trans (if_pos rfl)), hand, record, made, link, chg, st,
      job, other.trans at_bay.other, others⟩
  · refine runs_of_eq (v := s.released) rfl ((released_eq step).trans
      ((placeTest_scan (s := s.modChg fun c => { c with step := some (.place true b) }) queue rfl).trans
        ((scanNext_last (by exact queue) (by exact finished)).trans rfl)))
  · refine runs_of_eq (v := s.released) rfl ((released_eq step).trans
      ((placeTest_scan (s := s.modChg fun c => { c with step := some (.place true b) }) queue rfl).trans
        ((scanNext_away (by exact more) (by exact away)).trans rfl)))

end Sys2Proof.Proofs
end

section
/-! PROOFS. What reports carry (R55, R59, R127, R165, R166), and what the end of a job leaves (R14, R51, R60, R103,
R110, R123). -/

open Sys2Proof Sys2Proof.Machine Sys2Proof.Claims

namespace Sys2Proof.Proofs

-- One declaration at a time: elaborated in parallel, the joined text needs more threads than the memory limit holds.
set_option Elab.async false

/-! ## Reports, byte by byte (R175) -/

theorem optField_eq (size : Nat) (v : Option Nat) : optField size v = optionalField size v := by
  cases v with
  | none => exact congrArg (0 :: ·) (beBytes_zero size)
  | some n => exact congrArg (1 :: ·) (beBytes_eq_number size n)

theorem optPoint_eq (p : Option (Nat × Nat)) : optPoint p = optionalPoint p := by
  cases p with
  | none => rfl
  | some p =>
    obtain ⟨a, k⟩ := p
    unfold optPoint optionalPoint
    dsimp only
    rw [beBytes_eq_number, beBytes_eq_number]

theorem flagByte_eq (b : Bool) : flagByte b = flag b := rfl

theorem loadReport_eq (f : Option Finding) (held : Option Label) (count unstated : Nat) :
    loadReport f held count unstated = loadLayout f held count unstated := by
  unfold loadReport loadLayout
  rw [beBytes_eq_number 2]
  congr 1
  cases f with
  | none => simp [beBytes_one, optLabel, optField, beBytes_zero]
  | some found =>
    cases found with
    | label cs n =>
      have relation : optField 1 (some (labelRelation held cs)) =
          [1, match held with | none => 1 | some l => if l.chars = cs then 2 else 3] := by
        cases held with
        | none => exact congrArg (1 :: ·) (beBytes_one 1)
        | some l =>
          unfold labelRelation optField
          dsimp only
          split
          · exact congrArg (1 :: ·) (beBytes_one 2)
          · exact congrArg (1 :: ·) (beBytes_one 3)
      simp only [relation, optField_eq, beBytes_one, optLabel]
      rfl
    | noLabel u => simp [beBytes_one, optLabel, optField, beBytes_zero, flagByte_eq]
    | blank => simp [beBytes_one, optLabel, optField, beBytes_zero]

theorem loadLayout_found (f : Finding) (held : Option Label) (count a b : Nat) :
    loadLayout (some f) held count a = loadLayout (some f) held count b := by
  cases f <;> rfl

theorem labelReport_eq (j : LabelJob) : labelReport j = j.chars ++ number 4 j.count := by
  unfold labelReport
  rw [beBytes_eq_number]

theorem writeReport_eq (w : WriteJob) (estimate : Option Nat) : writeReport w estimate = writeLayout w estimate := by
  unfold writeReport writeLayout
  simp only [optField_eq, beBytes_eq_number, flagByte_eq, List.map_cons, List.map_nil, List.flatten_cons, List.flatten_nil,
    List.append_assoc, List.append_nil]

theorem faultKind_named (k : VFaultKind) : beBytes 1 k.code = [nameIn faultKinds k] := by cases k <;> rfl

theorem restoreReport_eq (r : ReadJob) (res : JobResult) : restoreReport r res = restoreLayout r res := by
  unfold restoreReport restoreLayout ReadJob.resumePoint
  simp only [optField_eq, optPoint_eq, beBytes_eq_number, List.map_cons, List.map_nil, List.flatten_cons, List.flatten_nil,
    List.append_assoc, List.append_nil]
  cases res <;> simp [List.append_assoc]

theorem verifyReport_eq (r : ReadJob) (policy : FaultPolicy) (res : JobResult) :
    verifyReport r policy res = verifyLayout r policy res := by
  have kept : beBytes 1 (policyCode policy) = [if policy = .keepFirst then (1 : Byte) else 2] := by
    cases policy <;> rfl
  have entries : r.faults.map VFault.bytes =
      r.faults.map fun f => number 4 f.addr ++ [nameIn faultKinds f.kind] ++ number 4 f.offset :=
    List.map_congr_left fun f _ => by rw [VFault.bytes, faultKind_named, beBytes_eq_number, beBytes_eq_number]
  unfold verifyReport verifyLayout
  simp only [kept, entries, optField_eq, optPoint_eq, beBytes_eq_number, flagByte_eq, List.map_cons, List.map_nil, List.flatten_cons,
    List.flatten_nil, List.append_assoc, List.append_nil]

/-- The report that a JOB_END carries is that of the spec's tables (R55, R59, R127, R165, R166). -/
theorem jobReport_eq (s : State) (t : Tr) (j : Job) (res : JobResult) :
    (s.jobReport t j res).1 = reportOf s (s.mtb.get (.bay t)) s.free j res := by
  cases j with
  | load l =>
    obtain ⟨n, found⟩ := l
    unfold State.jobReport reportOf State.loadCountTold State.bayRecord
    cases s.mtb.get (.bay t) with
    | none =>
      cases found with
      | none => exact loadReport_eq none none (Config.unstated s.free) (Config.unstated (s.free + 1))
      | some f => exact (loadReport_eq (some f) none (Config.unstated s.free) 0).trans (loadLayout_found f _ _ _ _)
    | some r =>
      cases found with
      | none => exact loadReport_eq none none r.loadCount (Config.unstated s.free)
      | some f => exact (loadReport_eq (some f) r.label r.loadCount 0).trans (loadLayout_found f _ _ _ _)
  | unload => rfl
  | rewind => rfl
  | label l => exact labelReport_eq l
  | write w => exact writeReport_eq ..
  | read r =>
    have told : (s.readTold r).1 =
        if r.start = none then { r with applied := Config.unstated s.free, x := Config.unstated (s.free + 1) } else r := by
      unfold State.readTold
      cases r.start <;> rfl
    unfold State.jobReport reportOf
    dsimp only
    rw [told]
    cases r.spec with
    | verify => exact verifyReport_eq ..
    | restore => exact restoreReport_eq ..

/-! ## CREDIT notices beside the others (R108, R110) -/

/-- A kind of notice that is none of CREDIT. -/
def NoCredit (p : Notice → Bool) : Prop := ∀ t n, p (.credit t n) = false

theorem addCredit_credit (t u : Tr) (n k : Nat) :
    Notice.addCredit t n (.credit u k) = .credit u (if u = t then k + n else k) := by
  by_cases h : u = t <;> simp [Notice.addCredit, h]

theorem filter_addCredit {p : Notice → Bool} (hp : NoCredit p) (t : Tr) (n : Nat) (ns : List Notice) :
    (ns.map (Notice.addCredit t n)).filter p = ns.filter p := by
  induction ns with
  | nil => rfl
  | cons m ns ih =>
    rw [List.map_cons, List.filter_cons, List.filter_cons, ih]
    cases m with
    | credit u k =>
      rw [addCredit_credit, hp, hp]
      rfl
    | _ => rfl

/-- Forming a CREDIT keeps the notices of every other kind (R108). -/
theorem formCredit_filter {p : Notice → Bool} (hp : NoCredit p) (s : State) (t : Tr) :
    (s.formCredit t).lnk.notices.filter p = s.lnk.notices.filter p := by
  obtain ⟨g, q, l, -, e, -, same | raised | ⟨formed, -⟩⟩ := formCredit_eq s t
  all_goals rw [e, State.setTc_lnk]; dsimp only
  · rw [same]
  · rw [raised, filter_addCredit hp]
  · rw [formed, List.filter_append, List.filter_cons, List.filter_nil, hp]
    exact List.append_nil _

theorem withdrawCredit_filter {p : Notice → Bool} (hp : NoCredit p) (s : State) (t : Tr) :
    (s.withdrawCredit t).lnk.notices.filter p = s.lnk.notices.filter p := by
  unfold State.withdrawCredit
  split
  · unfold State.noticeLeft
    rw [formCredit_filter hp, formCredit_filter hp, State.modLnk_lnk, List.filter_filter]
    refine List.filter_congr fun n _ => ?_
    cases n with
    | credit u k => rw [hp]; rfl
    | _ => exact Bool.and_true _
  · rfl

theorem voidCredits_filter {p : Notice → Bool} (hp : NoCredit p) (s : State) (t : Tr) :
    (s.voidCredits t).lnk.notices.filter p = s.lnk.notices.filter p := by
  unfold State.voidCredits
  rw [withdrawCredit_filter hp, State.modTc_lnk]

theorem isCredit_iff (t : Tr) (n : Notice) : n.isCredit t = true ↔ ∃ k, n = .credit t k := by
  cases n <;> simp [Notice.isCredit]

/-- A CREDIT of t that waits after one of the other transport was formed has waited before (R108). -/
theorem formCredit_credit {s : State} {t u : Tr} (hu : u ≠ t ∨ (s.tc u).pendingCredits = 0) {n : Nat}
    (h : Notice.credit t n ∈ (s.formCredit u).lnk.notices) : Notice.credit t n ∈ s.lnk.notices := by
  obtain other | none := hu
  · obtain ⟨g, q, l, -, e, -, same | raised | ⟨formed, -⟩⟩ := formCredit_eq s u
    all_goals rw [e, State.setTc_lnk] at h; dsimp only at h
    · rwa [same] at h
    · rw [raised] at h
      obtain ⟨m, member, raise⟩ := List.mem_map.mp h
      cases m with
      | credit v k =>
        rw [addCredit_credit, Notice.credit.injEq] at raise
        obtain ⟨rfl, count⟩ := raise
        rw [if_neg (Ne.symm other)] at count
        exact count ▸ member
      | _ => cases raise
    · rw [formed, List.mem_append, List.mem_singleton] at h
      obtain h | h := h
      · exact h
      · cases h
        exact absurd rfl other
  · rwa [formCredit_of_none none] at h

/-- With its credits void, no CREDIT of t waits (R110). -/
theorem voidCredits_credit (s : State) (t : Tr) (n : Nat) : Notice.credit t n ∉ (s.voidCredits t).lnk.notices := by
  intro h
  have none_pending : ∀ {v : State}, (v.tc t).pendingCredits = 0 → ∀ u, u ≠ t ∨ (v.tc u).pendingCredits = 0 := by
    intro v hv u
    obtain rfl | rfl := eq_or_other t u
    · exact .inr hv
    · exact .inl (other_ne t)
  have void : ((s.modTc t fun c => { c with pendingCredits := 0, granted := 0 }).tc t).pendingCredits = 0 := by
    rw [State.modTc_tc]
  unfold State.voidCredits State.withdrawCredit at h
  split at h
  next waits =>
    unfold State.noticeLeft at h
    have still : (((s.modTc t fun c => { c with pendingCredits := 0, granted := 0 }).modLnk fun l =>
        { l with notices := l.notices.filter fun n => !n.isCredit t }).tc t).pendingCredits = 0 := by
      rw [State.modLnk_tc]
      exact void
    have after : ((State.formCredit ((s.modTc t fun c => { c with pendingCredits := 0, granted := 0 }).modLnk fun l =>
        { l with notices := l.notices.filter fun n => !n.isCredit t }) .tc0).tc t).pendingCredits = 0 := by
      obtain rfl | ht := eq_or_other .tc0 t
      · rw [formCredit_of_none still]
        exact still
      · rw [ht, formCredit_tc_other, ← ht]
        exact still
    have waited := formCredit_credit (none_pending still _) (formCredit_credit (none_pending after _) h)
    rw [State.modLnk_lnk, List.mem_filter] at waited
    simp [Notice.isCredit] at waited
  next waits =>
    refine waits (List.any_eq_true.mpr ⟨_, h, ?_⟩)
    exact (isCredit_iff t _).mpr ⟨n, rfl⟩

/-- Whether a notice is a JOB_END. -/
def isJobEnd : Notice → Bool
  | .jobEnd _ _ _ _ => true
  | _ => false

theorem jobEnds_eq (l : Lnk) : jobEnds l = l.notices.filter isJobEnd := by
  unfold jobEnds
  refine List.filter_congr fun n _ => ?_
  cases n <;> rfl

theorem noCredit_isJobEnd : NoCredit isJobEnd := fun _ _ => rfl

/-! ## The end of a job (R14, R51, R103, R110, R123) -/

theorem withdrawCredit_frame (s : State) (t : Tr) :
    (s.withdrawCredit t).mtb = s.mtb ∧ (s.withdrawCredit t).cx t = s.cx t ∧ (s.withdrawCredit t).free = s.free := by
  have formed : ∀ (v : State) u, (v.formCredit u).mtb = v.mtb ∧ (v.formCredit u).cx t = v.cx t ∧ (v.formCredit u).free = v.free := by
    intro v u
    obtain ⟨g, q, l, -, e, -, -⟩ := formCredit_eq v u
    rw [e, State.setTc_mtb, State.setTc_cx, State.setTc_free]
    exact ⟨rfl, by cases t <;> rfl, rfl⟩
  unfold State.withdrawCredit
  split
  · unfold State.noticeLeft
    obtain ⟨m1, c1, f1⟩ := formed (s.modLnk fun l => { l with notices := l.notices.filter fun n => !n.isCredit t }) .tc0
    obtain ⟨m2, c2, f2⟩ := formed
      ((s.modLnk fun l => { l with notices := l.notices.filter fun n => !n.isCredit t }).formCredit .tc0) .tc1
    rw [m2, c2, f2, m1, c1, f1, State.modLnk_mtb, State.modLnk_cx, State.modLnk_free]
    exact ⟨rfl, rfl, rfl⟩
  · exact ⟨rfl, rfl, rfl⟩

theorem voidCredits_frame (s : State) (t : Tr) :
    (s.voidCredits t).mtb = s.mtb ∧ (s.voidCredits t).cx t = s.cx t ∧ (s.voidCredits t).free = s.free := by
  unfold State.voidCredits
  obtain ⟨m, c, f⟩ := withdrawCredit_frame (s.modTc t fun c => { c with pendingCredits := 0, granted := 0 }) t
  rw [m, c, f, State.modTc_mtb, State.modTc_cx, State.modTc_free]
  exact ⟨rfl, rfl, rfl⟩

theorem clearCtx_frame (s : State) (t : Tr) (d : Dir) :
    (s.clearCtx t d).mtb = s.mtb ∧ (s.clearCtx t d).cx t = { dir := d } ∧ (s.clearCtx t d).free = s.free ∧
      (s.clearCtx t d).lnk = s.lnk := by
  cases t <;> exact ⟨rfl, rfl, rfl, rfl⟩

theorem estimate_congr {u v : State} (h : ∀ t, u.tc t = v.tc t) (r : CartRecord) : u.estimate r = v.estimate r := by
  unfold State.estimate State.nextToWrite
  simp only [h]

/-- A report reads of the state the estimate of a record only (R127). -/
theorem reportOf_congr {u v : State} (h : ∀ t, u.tc t = v.tc t) (r : Option CartRecord) (n : Nat) (j : Job) (res : JobResult) :
    reportOf u r n j res = reportOf v r n j res := by
  unfold reportOf
  rw [show u.estimate = v.estimate from funext (estimate_congr h)]

@[simp] theorem jobEnd_mtb (s : State) (t : Tr) (j : Job) (res : JobResult) (report : List Byte) :
    (s.jobEnd t j res report).mtb = s.mtb.modify (.bay t) fun r => { r with binding := none } := rfl

@[simp] theorem jobEnd_lnk (s : State) (t : Tr) (j : Job) (res : JobResult) (report : List Byte) :
    (s.jobEnd t j res report).lnk = s.lnk.pushNotice (.jobEnd t j.kind res report) := rfl

@[simp] theorem jobEnd_cx (s : State) (t u : Tr) (j : Job) (res : JobResult) (report : List Byte) :
    (s.jobEnd t j res report).cx u = s.cx u := by cases u <;> rfl

/-- A JOB_END joins the notices, or meets them full (R176, R177). -/
theorem jobEnds_push (l : Lnk) (t : Tr) (kind : JobKind) (res : JobResult) (report : List Byte) :
    ((l.pushNotice (.jobEnd t kind res report)).notices.getLast? = some (.jobEnd t kind res report) ∧
        jobEnds (l.pushNotice (.jobEnd t kind res report)) = jobEnds l ++ [.jobEnd t kind res report]) ∨
      ((l.pushNotice (.jobEnd t kind res report)).lost = true ∧ 32 ≤ l.notices.length ∧
        (l.pushNotice (.jobEnd t kind res report)).notices = l.notices) := by
  obtain ⟨-, e⟩ | ⟨full, e⟩ := l.pushNotice_cases (.jobEnd t kind res report)
  · rw [e]
    refine .inl ⟨List.getLast?_concat .., ?_⟩
    unfold jobEnds
    rw [List.filter_append]
    rfl
  · rw [e]
    exact .inr ⟨rfl, by simpa using full, rfl⟩

theorem push_credit {l : Lnk} {t u : Tr} {kind : JobKind} {res : JobResult} {report : List Byte} {n : Nat}
    (h : Notice.credit u n ∈ (l.pushNotice (.jobEnd t kind res report)).notices) : Notice.credit u n ∈ l.notices := by
  obtain ⟨-, e⟩ | ⟨-, e⟩ := l.pushNotice_cases (.jobEnd t kind res report)
  · rw [e, List.mem_append, List.mem_singleton] at h
    exact h.resolve_right (by simp)
  · rwa [e] at h

/-- The state of t after its job, before the JOB_END is queued (R103, R110, R123). -/
def jobCleared (s : State) (t : Tr) : State :=
  ((s.clearCtx t .none).voidCredits t).modTc t fun c =>
    { c with job := none, locate := none, intake := [], blockQ := [], inflight := [], rewrite := [], delivery := [] }

theorem jobCleared_frame (s : State) (t : Tr) :
    (jobCleared s t).mtb = s.mtb ∧ (jobCleared s t).cx t = {} ∧ (jobCleared s t).free = s.free ∧
      jobEnds (jobCleared s t).lnk = jobEnds s.lnk ∧ ∀ n, Notice.credit t n ∉ (jobCleared s t).lnk.notices := by
  obtain ⟨m, c, f, l⟩ := clearCtx_frame s t .none
  obtain ⟨m', c', f'⟩ := voidCredits_frame (s.clearCtx t .none) t
  unfold jobCleared
  rw [State.modTc_mtb, State.modTc_cx, State.modTc_free, State.modTc_lnk, m', c', f', m, c, f]
  refine ⟨rfl, rfl, rfl, ?_, voidCredits_credit _ t⟩
  rw [jobEnds_eq, jobEnds_eq, voidCredits_filter noCredit_isJobEnd, l]

/-- The end of a job: everything of it gone, and its JOB_END with the report (R51, R103, R110, R123). -/
theorem endJob_eq {s : State} {t : Tr} {j : Job} (h : (s.tc t).job = some j) (res : JobResult) :
    ∃ n, s.endJob t res =
      State.jobEnd { jobCleared s t with free := n } t j res
        (reportOf (s.endJob t res) (s.mtb.get (.bay t)) s.free j res) := by
  obtain ⟨n, drawn⟩ := jobReport_state (jobCleared s t) t j res
  have ends : s.endJob t res = State.jobEnd { jobCleared s t with free := n } t j res ((jobCleared s t).jobReport t j res).1 := by
    unfold State.endJob
    rw [h]
    exact congrArg (fun v : State => v.jobEnd t j res ((jobCleared s t).jobReport t j res).1) drawn
  obtain ⟨m, -, f, -, -⟩ := jobCleared_frame s t
  have same : reportOf (s.endJob t res) (s.mtb.get (.bay t)) s.free j res = ((jobCleared s t).jobReport t j res).1 := by
    rw [jobReport_eq, m, f]
    refine reportOf_congr (fun u => ?_) _ _ _ _
    rw [ends, jobEnd_tc, setFree_tc]
  exact ⟨n, same.symm ▸ ends⟩

theorem endJob_ended {s : State} {t : Tr} {j : Job} (h : (s.tc t).job = some j) (res : JobResult) :
    JobEnded t j.kind res (reportOf (s.endJob t res) (s.mtb.get (.bay t)) s.free j res) s (s.endJob t res) := by
  have tc := endJob_tc res h
  have kept : Local t s (s.endJob t res) := (Local.refl t s).endJob res
  obtain ⟨n, ends⟩ := endJob_eq h res
  obtain ⟨m, c, f, told, no_credit⟩ := jobCleared_frame s t
  have link : (s.endJob t res).lnk = (jobCleared s t).lnk.pushNotice
      (.jobEnd t j.kind res (reportOf (s.endJob t res) (s.mtb.get (.bay t)) s.free j res)) := congrArg State.lnk ends
  refine ⟨⟨⟨?_, ?_, ?_, ?_, ?_, ?_, ?_, ?_, ?_, ?_, fun k hk => ?_⟩, fun r hr => ?_, kept.other, kept.chg, kept.inbound,
    kept.records⟩, ?_⟩
  iterate 9 rw [tc]
  · rw [ends, jobEnd_cx]
    exact (by cases t <;> rfl : (({ jobCleared s t with free := n } : State).cx t) = (jobCleared s t).cx t).trans c
  · rw [link] at hk
    exact no_credit k (push_credit hk)
  · rw [ends, jobEnd_mtb, Mtb.get_modify] at hr
    obtain ⟨q, -, rfl⟩ := Option.map_eq_some_iff.mp hr
    rfl
  · unfold EndNoticed
    rw [link, ← told]
    obtain joined | ⟨lost, full, same⟩ := jobEnds_push (jobCleared s t).lnk t j.kind res
      (reportOf (s.endJob t res) (s.mtb.get (.bay t)) s.free j res)
    · exact .inl joined
    · refine .inr ⟨lost, ?_, ?_⟩
      · rw [same]
        exact full
      · unfold jobEnds
        rw [same]

end Sys2Proof.Proofs
end

section
/-! PROOFS. The jobs of a bay: their requests, LOAD, UNLOAD, REWIND and LABEL (R51 to R59). -/

open Sys2Proof Sys2Proof.Machine Sys2Proof.Claims

namespace Sys2Proof.Proofs

-- One declaration at a time: elaborated in parallel, the joined text needs more threads than the memory limit holds.
set_option Elab.async false

/-! ## The requests (O30) -/

@[simp] theorem replied_tc (s : State) (ch : Chan) (tag code : Byte) (b : ReplyBody) (t : Tr) :
    (replied s ch tag code b).tc t = s.tc t := by
  cases t <;> rfl

theorem accept_eq (s : State) (t : Tr) (tag code : Byte) :
    s.accept t tag code = replied s (.transport t) tag code .accepted := rfl

/-- A job accepted while the tape does not stream starts (R51). -/
theorem accept_startJob {s : State} {t : Tr} (h : (s.tc t).st.streams = false) (tag code : Byte) (j : Job) (st : TcState)
    (d : Dir) :
    (s.accept t tag code).startJob t j st d = jobStarted (replied s (.transport t) tag code .accepted) t j st d := by
  rw [accept_eq, startJob_eq (by rw [replied_tc]; exact h)]

theorem nextLabelCount_eq (n : Option Nat) :
    nextLabelCount n = match n with | none => 1 | some n => min 4294967295 (n + 1) := by
  cases n <;> rfl

/-- A label that no other record holds (R6). -/
theorem labelHeld_false {m : Mtb} {own : Loc} {cs : List Byte}
    (h : ∀ l q lb, l ≠ own → m.get l = some q → q.label = some lb → lb.chars ≠ cs) : m.labelHeld own cs = false := by
  rw [Mtb.labelHeld, List.any_eq_false]
  intro j _
  obtain ⟨l, hl⟩ := ofCode_ofIdx (n := j.val) (by omega)
  obtain rfl : l.idx = j := Fin.ext (idx_ofCode hl)
  simp only [Bool.and_eq_true, decide_eq_true_eq, not_and]
  intro other
  have entry : m.get l = m.entries[l.idx] := rfl
  rw [← entry]
  cases record : m.get l with
  | none => simp
  | some q =>
    cases label : q.label with
    | none => simp [label]
    | some lb =>
      have differs := h l q lb (fun e => other (congrArg Loc.idx e)) record label
      simp [label, differs]

theorem classOf_of_record {s : State} {t : Tr} {r : CartRecord} {c : CartClass} (record : s.mtb.get (.bay t) = some r)
    (cls : r.cls = some c) : s.classOf t = c := by
  unfold State.classOf State.bayRecord
  rw [record, Option.bind_some, cls]

/-- Settles O30: the states and checks of each request, and the start of its job. -/
theorem bayRequestsStartTheirJobs : Obligations.BayRequestsStartTheirJobs := by
  unfold Obligations.BayRequestsStartTheirJobs
  intro s t tag takes
  refine ⟨fun seated free => ?_, fun st => ?_, fun st => ?_, fun chars r c ready good record clear cls unique => ?_⟩
  · have starts : s.takeLoad t tag = jobStarted (replied s (.transport t) tag 0x20 .accepted) t (.load {}) .threading .none :=
      (if_neg (by simp [seated])).trans ((if_neg free).trans
        (accept_startJob (by rw [seated]; rfl) tag 0x20 (.load {}) .threading .none))
    exact starts ▸ runs_of_gate (take := fun s => s.takeLoad t tag) rfl takes
  · have starts : s.takeUnload t tag = jobStarted (replied s (.transport t) tag 0x21 .accepted) t .unload .rewinding .none := by
      have still : (s.tc t).st.streams = false := by obtain h | h | h := st <;> rw [h] <;> rfl
      rw [← accept_startJob still]
      unfold State.takeUnload
      obtain h | h | h := st <;> rw [h]
    exact starts ▸ runs_of_gate (take := fun s => s.takeUnload t tag) rfl takes
  · have starts : s.takeRewind t tag = jobStarted (replied s (.transport t) tag 0x22 .accepted) t .rewind .rewinding .none := by
      have still : (s.tc t).st.streams = false := by obtain h | h := st <;> rw [h] <;> rfl
      rw [← accept_startJob still]
      unfold State.takeRewind
      obtain h | h := st <;> rw [h]
    exact starts ▸ runs_of_gate (take := fun s => s.takeRewind t tag) rfl takes
  · have tab : s.protectOf t = some .clear := by
      unfold State.protectOf State.bayRecord
      rw [record, Option.bind_some, clear]
    have starts : s.takeLabel t tag chars = jobStarted (replied s (.transport t) tag 0x23 .accepted) t
        (.label { chars := chars, count := nextLabelCount (s.tc t).labelCount, cls := s.classOf t }) .rewinding .none :=
      (if_neg (by simp [ready])).trans ((if_neg (by simp [good])).trans ((if_neg (by simp [tab])).trans
        ((if_neg (by simp [labelHeld_false unique])).trans (accept_startJob (by rw [ready]; rfl) tag 0x23 _ .rewinding .none))))
    rw [classOf_of_record record cls, nextLabelCount_eq] at starts
    exact starts ▸ runs_of_gate (take := fun s => s.takeLabel t tag chars) rfl takes

/-! ## Jobs that end (O32, O33) -/

/-- What precedes the end of a job in its event, in the controller and the record of its transport. -/
theorem jobEnded_of_local {t : Tr} {s v u : State} (h : Local t s v) (link : v.lnk = s.lnk) {kind : JobKind}
    {res : JobResult} {report : List Byte} (ended : JobEnded t kind res report v u) : JobEnded t kind res report s u := by
  obtain ⟨⟨gone, unbound, other, chg, inbound, records⟩, noticed⟩ := ended
  refine ⟨⟨gone, unbound, otherKept_trans h.other other, chg.trans h.chg, inboundKept_trans h.inbound inbound,
    fun k hk => (records k hk).trans (h.records k hk)⟩, ?_⟩
  unfold EndNoticed at noticed ⊢
  rw [← link]
  exact noticed

/-- A job that ends behind a change of its transport's controller. -/
theorem endJob_after {s : State} {t : Tr} {j : Job} {c : Tc} (hc : c.job = some j) (res : JobResult) :
    JobEnded t j.kind res (reportOf ((s.setTc t c).endJob t res) (s.mtb.get (.bay t)) s.free j res) s
      ((s.setTc t c).endJob t res) := by
  have ended := endJob_ended (s := s.setTc t c) (t := t) (j := j) (by rw [State.setTc_tc]; exact hc) res
  rw [State.setTc_mtb, State.setTc_free] at ended
  exact jobEnded_of_local ((Local.refl t s).setTc c) (State.setTc_lnk ..) ended

theorem endJob_after_tc {s : State} {t : Tr} {j : Job} {c : Tc} (hc : c.job = some j) (res : JobResult) :
    ((s.setTc t c).endJob t res).tc t =
      { c with job := none, locate := none, intake := [], blockQ := [], inflight := [], rewrite := [],
               delivery := [], pendingCredits := 0, granted := 0 } := by
  rw [endJob_tc (j := j) res (by rw [State.setTc_tc]; exact hc), State.setTc_tc]

theorem modTc_still {s : State} {t : Tr} (h : (s.tc t).st.streams = false) (st : TcState) (f : Tc → Tc) :
    (s.modTc t fun c => f (c.goto st)) = s.setTc t (f { s.tc t with st := st }) := by
  rw [modTc_eq, goto_of_still _ h]

/-- Settles O32: the four rewinds, by the job that runs. -/
theorem rewindsEndOrLeadOn : Obligations.RewindsEndOrLeadOn := by
  unfold Obligations.RewindsEndOrLeadOn
  refine fun s t => ⟨fun st job => ?_, fun st job => ?_, fun st job => ?_, fun j st job => ?_⟩
  · have ends : s.rewound t = (s.setTc t { s.tc t with st := .ready, pos := some 0 }).endJob t .ok := by
      unfold State.rewound
      rw [st, job]
      exact congrArg (fun v : State => v.endJob t .ok)
        (modTc_still (by rw [st]; rfl) .ready fun c => { c with pos := some 0 })
    refine ⟨_, runs_of_eq (v := s.rewound t) rfl ends, ?_⟩
    rw [endJob_after_tc (j := .rewind) (c := { s.tc t with st := .ready, pos := some 0 }) job]
    exact ⟨rfl, rfl, rfl, endJob_after (j := .rewind) (c := { s.tc t with st := .ready, pos := some 0 }) job .ok⟩
  · refine runs_of_eq (v := s.rewound t) rfl ?_
    unfold State.rewound
    rw [st, job]
    exact modTc_still (by rw [st]; rfl) .unthreading fun c => { c with pos := some 0 }
  · have ends : s.unthreaded t = (s.setTc t { s.tc t with st := .seated, pos := none }).endJob t .ok :=
      (if_pos st).trans (congrArg (fun v : State => v.endJob t .ok)
        (modTc_still (by rw [st]; rfl) .seated fun c => { c with pos := none }))
    refine ⟨_, runs_of_eq (v := s.unthreaded t) rfl ends, ?_⟩
    rw [endJob_after_tc (j := .unload) (c := { s.tc t with st := .seated, pos := none }) job]
    exact ⟨rfl, rfl, endJob_after (j := .unload) (c := { s.tc t with st := .seated, pos := none }) job .ok⟩
  · have starts : s.rewound t = s.setTc t { s.tc t with
        st := .writing, pos := some 0, job := some (.label { j with inProgress := some j.frame0 }) } := by
      unfold State.rewound
      rw [st, job]
      exact modTc_still (by rw [st]; rfl) .writing fun c =>
        { c with pos := some 0, job := some (.label { j with inProgress := some j.frame0 }) }
    refine ⟨_, j.frame0, runs_of_eq (v := s.rewound t) rfl starts, rfl, ?_, rfl, rfl, rfl, rfl, rfl⟩
    show j.payload = _
    unfold LabelJob.payload
    cases j.cls <;> rfl

theorem readBack_label {s : State} {t : Tr} {j : LabelJob} {f : WFrame} {rest : List WFrame}
    (job : (s.tc t).job = some (.label j)) (flight : (s.tc t).inflight = f :: rest) (raw : RawFrame) :
    s.readBack t f.hdr.frame raw = s.labelResult t j f raw := by
  unfold State.readBack
  rw [job, flight]
  exact if_pos rfl

/-- The end of a LABEL job behind a change of the label in its record (R59). -/
theorem endJob_mtb {s : State} {t : Tr} {j : Job} (h : (s.tc t).job = some j) (res : JobResult) :
    (s.endJob t res).mtb = s.mtb.modify (.bay t) fun r => { r with binding := none } := by
  obtain ⟨n, ends⟩ := endJob_eq h res
  rw [ends, jobEnd_mtb]
  exact congrArg (fun m : Mtb => m.modify (.bay t) fun r => { r with binding := none }) (jobCleared_frame s t).1

/-- A LABEL job with one result more: its verdict and its in-flight list (R59). -/
def labelNoted (c : Tc) (j : LabelJob) (f : WFrame) (raw : RawFrame) : Tc :=
  { c with
    inflight := c.inflight.tail
    job := some (.label { j with results := j.results + 1, bad := j.bad || !judge f.hdr raw }) }

/-- The controller at the end of a LABEL job (R59). -/
def labelOver (c : Tc) (j : LabelJob) (f : WFrame) (raw : RawFrame) (count : Option Nat) : Tc :=
  { (labelNoted c j f raw).goto .ready with labelCount := count }

theorem labelOver_job (c : Tc) (j : LabelJob) (f : WFrame) (raw : RawFrame) (count : Option Nat) :
    (labelOver c j f raw count).job =
      some (.label { j with results := j.results + 1, bad := j.bad || !judge f.hdr raw }) :=
  Tc.goto_job ..

theorem labelOver_st (c : Tc) (j : LabelJob) (f : WFrame) (raw : RawFrame) (count : Option Nat) :
    (labelOver c j f raw count).st = .ready :=
  Tc.goto_st ..

theorem labelResult_first {s : State} {t : Tr} {j : LabelJob} (h : j.results = 0) (f : WFrame) (raw : RawFrame) :
    s.labelResult t j f raw = s.setTc t (labelNoted (s.tc t) j f raw) :=
  if_pos (by show j.results + 1 < 2; omega)

theorem labelResult_bad {s : State} {t : Tr} {j : LabelJob} (h : j.results = 1) {f : WFrame} {raw : RawFrame}
    (bad : (j.bad || !judge f.hdr raw) = true) :
    s.labelResult t j f raw = (s.setTc t (labelOver (s.tc t) j f raw none)).endJob t .writeFault := by
  refine (if_neg (by show ¬ j.results + 1 < 2; omega)).trans ((if_pos bad).trans ?_)
  rw [modTc_modTc]
  rfl

theorem labelResult_good {s : State} {t : Tr} {j : LabelJob} (h : j.results = 1) {f : WFrame} {raw : RawFrame}
    (good : (j.bad || !judge f.hdr raw) = false) :
    s.labelResult t j f raw =
      ((s.setTc t (labelOver (s.tc t) j f raw (some j.count))).modMtb fun m =>
        (m.modify (.bay t) fun r => r.labelled j.chars).settle).endJob t .ok := by
  refine (if_neg (by show ¬ j.results + 1 < 2; omega)).trans ((if_neg (by rw [Bool.not_eq_true]; exact good)).trans ?_)
  rw [modTc_modTc]
  rfl

/-- Settles O33: the two frames of a LABEL job, and its two results. -/
theorem labelJobWritesTwoFrames : Obligations.LabelJobWritesTwoFrames := by
  unfold Obligations.LabelJobWritesTwoFrames
  refine fun s t j f writing => ⟨fun job first => ?_, fun rest raw flight => ⟨fun job => ?_, fun r job record =>
    ⟨fun none_bad good => ?_, fun bad => ?_⟩⟩⟩
  · refine ⟨labelEod, runs_of_eq (v := s.writeCompleted t) rfl ?_, rfl, rfl, rfl, rfl, rfl⟩
    unfold State.writeCompleted
    rw [job]
    show s.labelWritten t _ = _
    unfold State.labelWritten
    dsimp only
    rw [if_pos first, first]
    rfl
  · refine runs_of_eq (v := s.readBack t f.hdr.frame raw) rfl ((readBack_label job flight raw).trans
      ((labelResult_first rfl f raw).trans ?_))
    unfold labelNoted
    rw [flight]
    rfl
  · have no_bad : (j.bad || !judge f.hdr raw) = false := by
      rw [none_bad, good]
      rfl
    obtain ⟨c, hc⟩ : ∃ c, labelOver (s.tc t) { j with results := 1 } f raw (some j.count) = c := ⟨_, rfl⟩
    have running := labelOver_job (s.tc t) { j with results := 1 } f raw (some j.count)
    have st := labelOver_st (s.tc t) { j with results := 1 } f raw (some j.count)
    have count : c.labelCount = some j.count := by
      rw [← hc]
      rfl
    have ends := (readBack_label job flight raw).trans (labelResult_good (j := { j with results := 1 }) rfl no_bad)
    rw [hc] at running st ends
    obtain ⟨m, settled⟩ : ∃ m, (s.mtb.modify (.bay t) fun r => r.labelled j.chars).settle = m := ⟨_, rfl⟩
    have labelled : ∃ d, m.get (.bay t) = some { r.labelled j.chars with duplicate := d } := by
      rw [← settled, Mtb.get_settle, Mtb.get_modify, record]
      exact ⟨_, rfl⟩
    obtain ⟨d, labelled⟩ := labelled
    have before : ((s.setTc t c).modMtb fun m => (m.modify (.bay t) fun r => r.labelled j.chars).settle) =
        State.setTc { s with mtb := m } t c := by
      rw [← settled]
      cases t <;> rfl
    rw [before] at ends
    obtain ⟨left, noticed⟩ := endJob_after (s := { s with mtb := m }) (t := t) running .ok
    refine ⟨_, { r.labelled j.chars with duplicate := d, binding := none },
      runs_of_eq (v := s.readBack t f.hdr.frame raw) rfl ends, ?_⟩
    obtain ⟨gone, unbound, other, chg, inbound, records⟩ := left
    rw [endJob_after_tc (s := { s with mtb := m }) (t := t) running .ok,
      endJob_mtb (s := State.setTc { s with mtb := m } t c) (t := t) (by rw [State.setTc_tc]; exact running) .ok,
      State.setTc_mtb, Mtb.get_modify, labelled, beBytes_eq_number]
    exact ⟨st, count, gone, other, noticed, rfl, rfl, rfl, rfl, rfl, rfl, rfl, rfl, rfl⟩
  · have was_bad : (j.bad || !judge f.hdr raw) = true := by
      obtain h | h := bad <;> simp [h]
    obtain ⟨c, hc⟩ : ∃ c, labelOver (s.tc t) { j with results := 1 } f raw none = c := ⟨_, rfl⟩
    have running := labelOver_job (s.tc t) { j with results := 1 } f raw none
    have st := labelOver_st (s.tc t) { j with results := 1 } f raw none
    have count : c.labelCount = none := by
      rw [← hc]
      rfl
    have ends := (readBack_label job flight raw).trans (labelResult_bad (j := { j with results := 1 }) rfl was_bad)
    rw [hc] at running st ends
    refine ⟨_, runs_of_eq (v := s.readBack t f.hdr.frame raw) rfl ends, ?_⟩
    rw [endJob_after_tc running .writeFault,
      endJob_mtb (s := s.setTc t c) (t := t) (by rw [State.setTc_tc]; exact running) .writeFault,
      State.setTc_mtb, Mtb.get_modify, record, beBytes_eq_number]
    exact ⟨st, count, endJob_after running .writeFault, rfl⟩

end Sys2Proof.Proofs
end

section
/-! PROOFS. The LOAD (R53 to R55, R7, R9). -/

open Sys2Proof Sys2Proof.Machine Sys2Proof.Claims

namespace Sys2Proof.Proofs

-- One declaration at a time: elaborated in parallel, the joined text needs more threads than the memory limit holds.
set_option Elab.async false

/-! ## Identification (R54) -/

theorem kindOf_label (n : Nat) : kindOf n = some .label ↔ n = 1 := by
  unfold kindOf
  split <;> simp_all

theorem findingOf_label {f : ReadFrame} (kind : f.hdr.kind = 1) (good : f.hdr.malformed = false) (pay : f.payGood = true)
    (label : isLabel (f.payload.take 12) = true) :
    findingOf f = .label (f.payload.take 12) (beNat ((f.payload.drop 13).take 4)) := by
  unfold findingOf
  rw [if_pos ((kindOf_label _).mpr kind), if_neg (by simp [good, pay, label])]

theorem findingOf_unreadable {f : ReadFrame} (kind : f.hdr.kind = 1)
    (bad : f.hdr.malformed = true ∨ f.payGood = false ∨ isLabel (f.payload.take 12) = false) :
    findingOf f = .noLabel true := by
  unfold findingOf
  rw [if_pos ((kindOf_label _).mpr kind), if_pos]
  obtain h | h | h := bad <;> simp [h]

theorem findingOf_other {f : ReadFrame} (kind : f.hdr.kind ≠ 1) : findingOf f = .noLabel false := by
  unfold findingOf
  exact if_neg fun label => kind ((kindOf_label _).mp label)

theorem identify_eq {s : State} {t : Tr} {n : Nat} (st : (s.tc t).st = .identifying)
    (job : (s.tc t).job = some (.load { framesRead := n, finding := none })) (raw : RawFrame) :
    s.identify t raw =
      s.setTc t { (s.tc t).passed raw with
        job := some (.load (LoadJob.readOne { framesRead := n, finding := none } raw)) } := by
  unfold State.identify
  rw [st, job]
  rfl

/-! ## The end of a LOAD (R55) -/

theorem endLoad_report (found : Finding) (label : Option Label) (n : Nat) :
    loadReport (some found) label n 0 =
      (match found with
        | .label chars count =>
          [1, 0] ++ 1 :: chars ++ 1 :: beBytes 4 count ++
            [1, match label with | none => 1 | some held => if held.chars = chars then 2 else 3]
        | .noLabel unreadable => [2, if unreadable then 1 else 0] ++ List.replicate 20 0
        | .blank => [3, 0] ++ List.replicate 20 0) ++ beBytes 2 n := by
  rw [loadReport_eq]
  unfold loadLayout
  rw [beBytes_eq_number 2]
  cases found with
  | label chars count =>
    simp only [optionalField, beBytes_eq_number] <;> rfl
  | noLabel unreadable => rfl
  | blank => rfl

/-- The state in which a LOAD ends: the record updated, the transport READY at frame 0 (R54, R55). -/
def loadOver (s : State) (t : Tr) (f : Finding) (m : Mtb) : State :=
  State.setTc { s.clearCtx t .none with mtb := m } t
    { s.tc t with st := .ready, pos := some 0, job := none, labelCount := f.count }

theorem rewound_load {s : State} {t : Tr} {n : Nat} {found : Finding} {m : Mtb} (st : (s.tc t).st = .identifying)
    (job : (s.tc t).job = some (.load { framesRead := n, finding := some found }))
    (hm : (s.mtb.modify (.bay t) fun r => r.loaded found).settle = m) :
    s.rewound t =
      let told := (loadOver s t found m).loadCountTold t
      told.2.jobEnd t (.load { finding := some found }) .ok
        (loadReport (some found) ((s.mtb.get (.bay t)).bind (·.label)) told.1 0) := by
  have ended : (((((s.modTc t fun c => { c.goto .ready with pos := some 0, labelCount := found.count }).modMtb fun m =>
      (m.modify (.bay t) fun r => r.loaded found).settle).clearCtx t .none).modTc t fun c => { c with job := none })) =
      loadOver s t found m := by
    have first : (s.modTc t fun c => { c.goto .ready with pos := some 0, labelCount := found.count }) =
        s.setTc t { s.tc t with st := .ready, pos := some 0, labelCount := found.count } :=
      modTc_still (by rw [st]; rfl) .ready fun c => { c with pos := some 0, labelCount := found.count }
    rw [first]
    dsimp only [State.modMtb]
    rw [State.setTc_mtb, hm]
    cases t <;> rfl
  unfold State.rewound State.endLoad
  rw [st, job]
  dsimp only
  rw [ended]
  rfl

theorem loadOver_frame (s : State) (t : Tr) (f : Finding) (m : Mtb) :
    (loadOver s t f m).mtb = m ∧ (loadOver s t f m).lnk = s.lnk ∧ (loadOver s t f m).chg = s.chg ∧
      (loadOver s t f m).free = s.free ∧ (loadOver s t f m).tc t.other = s.tc t.other ∧
      (loadOver s t f m).tc t = { s.tc t with st := .ready, pos := some 0, job := none, labelCount := f.count } := by
  cases t <;> exact ⟨rfl, rfl, rfl, rfl, rfl, rfl⟩

/-- A LOAD that ends with its JOB_END in a state whose link is that of s (R51, R176). -/
theorem jobEnd_noticed {s v : State} (link : v.lnk = s.lnk) (t : Tr) (j : Job) (res : JobResult) (report : List Byte) :
    EndNoticed t j.kind res report s (v.jobEnd t j res report) := by
  unfold EndNoticed
  rw [jobEnd_lnk, link]
  obtain joined | ⟨lost, full, same⟩ := jobEnds_push s.lnk t j.kind res report
  · exact .inl joined
  · refine .inr ⟨lost, same ▸ full, ?_⟩
    unfold jobEnds
    rw [same]

theorem modify_isSome (m : Mtb) (k l : Loc) (f : CartRecord → CartRecord) :
    ((m.modify k f).get l).isSome = (m.get l).isSome := by
  by_cases h : l = k
  · subst h
    rw [Mtb.get_modify, Option.isSome_map]
  · rw [Mtb.get_modify_of_ne _ _ h]

/-- What a label found on the tape does to the record (R7, R9, R55): of another label held it takes the navigation. -/
theorem loaded_label (r : CartRecord) (chars : List Byte) (count : Nat) :
    r.loaded (.label chars count) =
      if ∃ held, r.label = some held ∧ held.chars ≠ chars then
        { r with loadCount := min 65535 (r.loadCount + 1), dirty := true,
                 label := some { chars := chars, source := .tape }, mismatch := true, eod := .unknown, map := [],
                 rawTotal := 0, codedTotal := 0 }
      else
        { r with loadCount := min 65535 (r.loadCount + 1), dirty := true,
                 label := some { chars := chars, source := .tape }, mismatch := false } := by
  unfold CartRecord.loaded
  cases label : r.label with
  | none => exact (if_neg (by simp)).symm
  | some held =>
    by_cases same : held.chars = chars
    · exact (if_pos same).trans (if_neg (by simp [same])).symm
    · exact (if_neg same).trans (if_pos ⟨held, rfl, same⟩).symm

theorem loaded_counts (r : CartRecord) (f : Finding) :
    (r.loaded f).loadCount = min 65535 (r.loadCount + 1) ∧ (r.loaded f).dirty = true := by
  cases f with
  | label chars count =>
    rw [loaded_label]
    split <;> exact ⟨rfl, rfl⟩
  | _ => exact ⟨rfl, rfl⟩

/-- Settles O31: identification frame by frame, and the end of the LOAD with and without a record. -/
theorem loadIdentifiesTheTape : Obligations.LoadIdentifiesTheTape := by
  unfold Obligations.LoadIdentifiesTheTape
  refine ⟨fun s t => ⟨fun st => ?_, fun n p st pos job => ⟨fun header payload f read => ?_, fun raw unread => ?_⟩⟩,
    fun s t n found st job absent => ?_, fun s t n found r st job record => ?_⟩
  · refine runs_of_eq (v := s.threaded t) rfl ((if_pos st).trans ?_)
    exact modTc_still (by rw [st]; rfl) .identifying fun c => { c with pos := some 0 }
  · refine ⟨findingOf f, runs_of_eq (v := s.identify t (.bytes header payload)) rfl ((identify_eq st job _).trans ?_),
      findingOf_label, findingOf_unreadable, findingOf_other⟩
    unfold Tc.passed LoadJob.readOne
    rw [read]
  · refine runs_of_eq (v := s.identify t raw) rfl ((identify_eq st job _).trans ?_)
    unfold Tc.passed LoadJob.readOne
    rw [unread]
    dsimp only
    rw [pos]
    rfl
  · obtain ⟨m, hm⟩ : ∃ m, (s.mtb.modify (.bay t) fun r => r.loaded found).settle = m := ⟨_, rfl⟩
    have empty : m.get (.bay t) = none := by
      rw [← hm, Mtb.get_settle, Mtb.get_modify, absent]
      rfl
    obtain ⟨table, link, chg, free, other, tc⟩ := loadOver_frame s t found m
    have told : (loadOver s t found m).loadCountTold t =
        (Config.unstated s.free, { loadOver s t found m with free := s.free + 1 }) := by
      unfold State.loadCountTold State.bayRecord
      rw [table, empty]
      exact congrArg (fun n => (Config.unstated n, ({ loadOver s t found m with free := n + 1 } : State))) free
    have ends := rewound_load st job hm
    rw [told, absent] at ends
    dsimp only [Option.bind_none] at ends
    rw [loadReport_eq] at ends
    refine ⟨_, runs_of_eq (v := s.rewound t) rfl ends, ?_, jobEnd_noticed link t _ _ _, fun l => ?_⟩
    · rw [jobEnd_tc, setFree_tc, tc]
      cases found <;> rfl
    · rw [jobEnd_mtb, modify_isSome]
      show ((loadOver s t found m).mtb.get l).isSome = _
      rw [table, ← hm, Mtb.get_settle, Option.isSome_map, modify_isSome]
  · obtain ⟨m, hm⟩ : ∃ m, (s.mtb.modify (.bay t) fun r => r.loaded found).settle = m := ⟨_, rfl⟩
    have loaded : ∃ d, m.get (.bay t) = some { r.loaded found with duplicate := d } := by
      rw [← hm, Mtb.get_settle, Mtb.get_modify, record]
      exact ⟨_, rfl⟩
    obtain ⟨d, loaded⟩ := loaded
    obtain ⟨table, link, chg, free, other, tc⟩ := loadOver_frame s t found m
    have told : (loadOver s t found m).loadCountTold t = ((r.loaded found).loadCount, loadOver s t found m) := by
      unfold State.loadCountTold State.bayRecord
      rw [table, loaded]
    have ends := rewound_load st job hm
    rw [told, record] at ends
    dsimp only [Option.bind_some] at ends
    rw [endLoad_report, (loaded_counts r found).1] at ends
    refine ⟨_, { r.loaded found with duplicate := d, binding := none }, runs_of_eq (v := s.rewound t) rfl ends, ?_, ?_, chg,
      jobEnd_noticed link t _ _ _, ?_, rfl, (loaded_counts r found).2, (loaded_counts r found).1, fun no_label => ?_,
      fun chars count hl => ?_⟩
    · rw [jobEnd_tc, tc]
      cases found <;> rfl
    · rw [jobEnd_tc, other]
    · rw [jobEnd_mtb, table, Mtb.get_modify, loaded]
      rfl
    · cases found with
      | label chars count => exact absurd rfl (no_label chars count)
      | _ => exact ⟨rfl, rfl, rfl, rfl, rfl, rfl⟩
    · subst hl
      rw [loaded_label]
      by_cases differs : ∃ held, r.label = some held ∧ held.chars ≠ chars
      · rw [if_pos differs]
        obtain ⟨held, label, other⟩ := differs
        exact ⟨rfl, fun _ _ _ => ⟨rfl, rfl, rfl, rfl, rfl⟩, fun same => absurd (same held label) other⟩
      · rw [if_neg differs]
        exact ⟨rfl, fun held label other => absurd ⟨held, label, other⟩ differs, fun _ => ⟨rfl, rfl, rfl, rfl, rfl⟩⟩

end Sys2Proof.Proofs
end

section
/-! PROOFS. Jobs cut off: mechanism faults and TRANSPORT_RESET (R60, R68, R69, R128, R143). -/

open Sys2Proof Sys2Proof.Machine Sys2Proof.Claims

namespace Sys2Proof.Proofs

-- One declaration at a time: elaborated in parallel, the joined text needs more threads than the memory limit holds.
set_option Elab.async false

/-! ## Cutting off a job (R60, R68) -/

theorem formCredit_lost (s : State) (t : Tr) : (s.formCredit t).lnk.lost = s.lnk.lost := by
  obtain ⟨g, p, l, -, e, hl, -⟩ := formCredit_eq s t
  rw [e, State.setTc_lnk]
  dsimp only
  rw [hl]

theorem voidCredits_lost (s : State) (t : Tr) : (s.voidCredits t).lnk.lost = s.lnk.lost := by
  unfold State.voidCredits State.withdrawCredit
  split
  · unfold State.noticeLeft
    rw [formCredit_lost, formCredit_lost, State.modLnk_lnk, State.modTc_lnk]
  · rw [State.modTc_lnk]

/-- The controller of a transport whose job is gone (R68, R103, R110). -/
def tcCut (c : Tc) : Tc :=
  { c with job := none, locate := none, intake := [], blockQ := [], inflight := [], rewrite := [], delivery := [],
           pendingCredits := 0, granted := 0 }

/-- What follows the JOB_END of a job that is cut off: queues and credits emptied, the context cleared, an OPEN end of
data closed (R60, R68, R103). -/
def cutRest (s : State) (t : Tr) : State :=
  (((s.modTc t fun c =>
    { c with job := none, locate := none, intake := [], blockQ := [], inflight := [], rewrite := [], delivery := [] }
    ).voidCredits t).clearCtx t .none).modBay t CartRecord.closeOpen

theorem cutRest_frame (s : State) (t : Tr) :
    (cutRest s t).tc t = tcCut (s.tc t) ∧ (cutRest s t).cx t = {} ∧
      (cutRest s t).mtb = s.mtb.modify (.bay t) CartRecord.closeOpen ∧
      jobEnds (cutRest s t).lnk = jobEnds s.lnk ∧ (cutRest s t).lnk.lost = s.lnk.lost ∧
      ∀ n, Notice.credit t n ∉ (cutRest s t).lnk.notices := by
  obtain ⟨v, hv⟩ : ∃ v, (s.modTc t fun c => { c with
      job := none, locate := none, intake := [], blockQ := [], inflight := [], rewrite := [], delivery := [] }) = v := ⟨_, rfl⟩
  obtain ⟨m, c, f, l⟩ := clearCtx_frame (v.voidCredits t) t .none
  obtain ⟨m', -, -⟩ := voidCredits_frame v t
  unfold cutRest
  rw [hv]
  refine ⟨?_, ?_, ?_, ?_, ?_, fun n => ?_⟩
  · rw [modBay_tc, clearCtx_tc, voidCredits_tc, ← hv, State.modTc_tc]
    rfl
  · unfold State.modBay
    rw [State.modMtb_cx, c]
  · unfold State.modBay
    rw [State.modMtb_mtb, m, m', ← hv, State.modTc_mtb]
  · unfold State.modBay
    rw [State.modMtb_lnk, l, jobEnds_eq, jobEnds_eq, voidCredits_filter noCredit_isJobEnd, ← hv, State.modTc_lnk]
  · unfold State.modBay
    rw [State.modMtb_lnk, l, voidCredits_lost, ← hv, State.modTc_lnk]
  · unfold State.modBay
    rw [State.modMtb_lnk, l]
    exact voidCredits_credit v t n

theorem cutJob_none {s : State} {t : Tr} (h : (s.tc t).job = none) (res : JobResult) : s.cutJob t res = cutRest s t := by
  unfold State.cutJob
  rw [h]
  rfl

theorem cutCounts_kind (s : State) (t : Tr) (j : Job) : (s.cutCounts t j).kind = j.kind := by
  cases j <;> rfl

/-- A job that is cut off tells its report as it stands (R60, R68, R128; log entry 31). -/
theorem cutJob_some {s : State} {t : Tr} {j : Job} (h : (s.tc t).job = some j) (res : JobResult) :
    ∃ n, s.cutJob t res = cutRest (State.jobEnd { s with free := n } t (s.cutCounts t j) res
      (reportOf s (s.mtb.get (.bay t)) s.free (s.cutCounts t j) res)) t := by
  obtain ⟨n, drawn⟩ := jobReport_state s t (s.cutCounts t j) res
  refine ⟨n, ?_⟩
  unfold State.cutJob
  rw [h]
  dsimp only
  rw [jobReport_eq, drawn]
  rfl

/-- What a cut-off leaves of the transport, whether or not it ran a job (R60, R68, R103, R110). -/
theorem cutJob_gone (s : State) (t : Tr) (res : JobResult) :
    JobGone t (s.cutJob t res) ∧ (s.cutJob t res).tc t = tcCut (s.tc t) := by
  have gone : ∀ v : State, v.tc t = s.tc t → s.cutJob t res = cutRest v t →
      JobGone t (s.cutJob t res) ∧ (s.cutJob t res).tc t = tcCut (s.tc t) := by
    intro v same e
    obtain ⟨tc, cx, -, -, -, no_credit⟩ := cutRest_frame v t
    rw [same] at tc
    rw [e]
    refine ⟨⟨?_, ?_, ?_, ?_, ?_, ?_, ?_, ?_, ?_, cx, no_credit⟩, tc⟩
    all_goals rw [tc]; rfl
  cases job : (s.tc t).job with
  | none => exact gone s rfl (cutJob_none job res)
  | some j =>
    obtain ⟨n, e⟩ := cutJob_some job res
    exact gone _ (by rw [jobEnd_tc, setFree_tc]) e

/-- The record behind a cut-off: unbound where a job ran, an OPEN end of data UNKNOWN (R10, R13, R14, R60). -/
theorem cutJob_mtb (s : State) (t : Tr) (res : JobResult) :
    (s.cutJob t res).mtb.get (.bay t) = (s.mtb.get (.bay t)).map fun r =>
      { r.closeOpen with binding := if (s.tc t).job = none then r.binding else none } := by
  have kept : ∀ r : CartRecord, r.closeOpen.binding = r.binding := fun r => by
    unfold CartRecord.closeOpen
    split <;> rfl
  cases job : (s.tc t).job with
  | none =>
    obtain ⟨-, -, m, -⟩ := cutRest_frame s t
    rw [cutJob_none job, m, Mtb.get_modify]
    refine Option.map_congr fun r _ => ?_
    rw [if_pos rfl, ← kept r]
  | some j =>
    obtain ⟨n, e⟩ := cutJob_some job res
    obtain ⟨-, -, m, -⟩ := cutRest_frame (State.jobEnd { s with free := n } t (s.cutCounts t j) res
      (reportOf s (s.mtb.get (.bay t)) s.free (s.cutCounts t j) res)) t
    rw [e, m, Mtb.get_modify, jobEnd_mtb, Mtb.get_modify, Option.map_map]
    refine Option.map_congr fun r _ => ?_
    rw [if_neg (by simp)]
    unfold CartRecord.closeOpen
    dsimp only [Function.comp]
    split <;> rfl

theorem cutJob_noticed {s : State} {t : Tr} {j : Job} (h : (s.tc t).job = some j) (res : JobResult) :
    CutNoticed t j.kind res (reportOf s (s.mtb.get (.bay t)) s.free (s.cutCounts t j) res) s (s.cutJob t res) := by
  obtain ⟨n, e⟩ := cutJob_some h res
  obtain ⟨-, -, -, told, lost, -⟩ := cutRest_frame (State.jobEnd { s with free := n } t (s.cutCounts t j) res
    (reportOf s (s.mtb.get (.bay t)) s.free (s.cutCounts t j) res)) t
  unfold CutNoticed
  rw [e, told, lost, jobEnd_lnk, cutCounts_kind]
  obtain ⟨-, joined⟩ | ⟨dropped, full, same⟩ := jobEnds_push s.lnk t j.kind res
    (reportOf s (s.mtb.get (.bay t)) s.free (s.cutCounts t j) res)
  · exact .inl joined
  · refine .inr ⟨dropped, full, ?_⟩
    unfold jobEnds
    exact congrArg _ same

theorem cutJob_jobEnds {s : State} {t : Tr} (h : (s.tc t).job = none) (res : JobResult) :
    jobEnds (s.cutJob t res).lnk = jobEnds s.lnk := by
  rw [cutJob_none h]
  exact (cutRest_frame s t).2.2.2.1

/-! ## Mechanism faults (O34) -/

theorem mechFault_tc (s : State) (t : Tr) (res : JobResult) :
    (s.mechFault t res).tc t = { (tcCut (s.tc t)).goto .faulted with pos := none } := by
  unfold State.mechFault
  rw [State.modTc_tc, (cutJob_gone s t res).2]

/-- A change of the controller apart from job and queues keeps a job gone. -/
theorem jobGone_setTc {t : Tr} {s : State} (h : JobGone t s) {c : Tc}
    (hc : ∃ st pos labelCount watch gov, c = { s.tc t with st, pos, labelCount, watch, gov }) :
    JobGone t (s.setTc t c) := by
  obtain ⟨st, pos, labelCount, watch, gov, rfl⟩ := hc
  unfold JobGone at h ⊢
  rw [State.setTc_tc, State.setTc_cx, State.setTc_lnk]
  exact h

theorem goto_parts (c : Tc) (st : TcState) : ∃ gov, c.goto st = { c with st, gov } := by
  unfold Tc.goto
  split <;> exact ⟨_, rfl⟩

theorem mechFault_gone (s : State) (t : Tr) (res : JobResult) : JobGone t (s.mechFault t res) := by
  obtain ⟨gov, parts⟩ := goto_parts ((s.cutJob t res).tc t) .faulted
  refine jobGone_setTc (cutJob_gone s t res).1
    ⟨.faulted, none, ((s.cutJob t res).tc t).labelCount, ((s.cutJob t res).tc t).watch, gov, ?_⟩
  dsimp only
  rw [parts]

theorem closeOpen_fields (r : CartRecord) :
    r.closeOpen = { r with eod := if r.eod = .opened then .unknown else r.eod, dirty := r.dirty || decide (r.eod = .opened) } := by
  unfold CartRecord.closeOpen
  split
  next h => simp [h]
  next h =>
    have other : r.eod ≠ .opened := h
    simp [other]

theorem threaded_of_ne {st : TcState} (h : st ≠ .empty ∧ st ≠ .seated) : st.threaded = true := by
  obtain ⟨not_empty, not_seated⟩ := h
  cases st <;> first | rfl | contradiction

theorem portFault_runs {s : State} {t : Tr} (h : (s.tc t).st ≠ .empty ∧ (s.tc t).st ≠ .seated) :
    Runs (.mechanismFault t) s (s.mechFault t .mechanismFault) :=
  runs_of_eq (v := s.portFault t) rfl (if_pos (threaded_of_ne h))

theorem seatLost_runs {s : State} {t : Tr} (h : (s.tc t).st ≠ .empty ∧ (s.tc t).st ≠ .seated) :
    Runs (.cartridgeUnseated t) s (s.mechFault t .mechanismFault) := by
  refine runs_of_eq (v := s.seatLost t) rfl ?_
  unfold State.seatLost
  split
  next st => exact absurd st h.1
  next st => exact absurd st h.2
  next => rfl

/-- Which events are a mechanism fault of a transport, and with which result (R53, R54, R56, R60). -/
theorem mechFault_event {s : State} {t : Tr} {c : Instr} {res : JobResult} {j : Job} (job : (s.tc t).job = some j)
    (h : (c = .threadFault t ∧ res = .threadFault ∧ (s.tc t).st = .threading) ∨
      (c = .rewindFault t ∧ res = .rewindFault ∧ (s.tc t).st = .rewinding) ∨
      (c = .rewindFault t ∧ res = .rewindFault ∧ (s.tc t).st = .identifying ∧
        ∃ n found, j = .load { framesRead := n, finding := some found }) ∨
      (c = .unthreadFault t ∧ res = .unthreadFault ∧ (s.tc t).st = .unthreading) ∨
      (c = .mechanismFault t ∧ res = .mechanismFault ∧ (s.tc t).st ≠ .empty ∧ (s.tc t).st ≠ .seated) ∨
      (c = .cartridgeUnseated t ∧ res = .mechanismFault ∧ (s.tc t).st ≠ .empty ∧ (s.tc t).st ≠ .seated)) :
    Runs c s (s.mechFault t res) := by
  obtain ⟨rfl, rfl, st⟩ | ⟨rfl, rfl, st⟩ | ⟨rfl, rfl, st, n, found, rfl⟩ | ⟨rfl, rfl, st⟩ | ⟨rfl, rfl, st⟩ | ⟨rfl, rfl, st⟩ := h
  · exact runs_of_eq (v := s.threadLost t) rfl (if_pos st)
  · refine runs_of_eq (v := s.rewindLost t) rfl (if_pos ?_)
    unfold Tc.rewindRuns
    rw [st]
  · refine runs_of_eq (v := s.rewindLost t) rfl (if_pos ?_)
    unfold Tc.rewindRuns
    rw [st, job]
    rfl
  · exact runs_of_eq (v := s.unthreadLost t) rfl (if_pos st)
  · exact portFault_runs st
  · exact seatLost_runs st

/-- Settles O34: every such event cuts the job off and leaves the transport FAULTED. -/
theorem mechanismFaultsEndTheJob : Obligations.MechanismFaultsEndTheJob := by
  unfold Obligations.MechanismFaultsEndTheJob
  have faulted : ∀ (s : State) (t : Tr) (res : JobResult),
      ((s.mechFault t res).tc t).st = .faulted ∧ ((s.mechFault t res).tc t).pos = none := by
    intro s t res
    rw [mechFault_tc]
    exact ⟨Tc.goto_st .., rfl⟩
  refine ⟨fun s t j r job record c res event => ?_, fun s t c idle not_empty not_seated event => ?_⟩
  · have kept := (Local.refl t s).mechFault res
    have after : (s.mechFault t res).mtb.get (.bay t) = some { r.closeOpen with binding := none } := by
      unfold State.mechFault
      rw [State.modTc_mtb, cutJob_mtb, record, job]
      rfl
    have noticed : CutNoticed t j.kind res (reportOf s (some r) s.free (s.cutCounts t j) res) s (s.mechFault t res) := by
      have cut := cutJob_noticed job res
      rw [record] at cut
      unfold State.mechFault CutNoticed
      rw [State.modTc_lnk]
      exact cut
    refine ⟨_, { r.closeOpen with binding := none }, mechFault_event job event, (faulted s t res).1, (faulted s t res).2,
      ⟨mechFault_gone s t res, fun q hq => ?_, kept.other, kept.chg, kept.inbound, kept.records⟩, noticed, after, ?_⟩
    · rw [after] at hq
      cases hq
      rfl
    · rw [closeOpen_fields]
      exact ⟨rfl, rfl, rfl, rfl⟩
  · have kept := (Local.refl t s).mechFault .mechanismFault
    have runs : Runs c s (s.mechFault t .mechanismFault) := by
      obtain rfl | rfl := event
      · exact portFault_runs ⟨not_empty, not_seated⟩
      · exact seatLost_runs ⟨not_empty, not_seated⟩
    refine ⟨_, runs, (faulted s t _).1, (faulted s t _).2, mechFault_gone s t _, kept.other, kept.chg, kept.inbound,
      kept.records, fun kind res report told => ?_⟩
    have joined : Notice.jobEnd t kind res report ∈ jobEnds (s.mechFault t .mechanismFault).lnk :=
      List.mem_filter.mpr ⟨told, rfl⟩
    unfold State.mechFault at joined
    rw [State.modTc_lnk, cutJob_jobEnds idle] at joined
    exact (List.mem_filter.mp joined).1

/-! ## TRANSPORT_RESET (O35) -/

theorem move_eq (g : Gov) : g.move = movedGov g := rfl

theorem moveArmed_eq (g : Gov) : g.moveArmed = armedMoved g := rfl

/-- An armed copy moves once: behind the move no mark stands (R131, R132). -/
theorem armedMoved_armedMoved (g : Gov) : armedMoved (armedMoved g) = armedMoved g := by
  unfold armedMoved
  cases armed : g.armed with
  | true => rfl
  | false => simp [armed]

/-- A change of state moves an armed copy exactly where it leaves the streaming states (R131). -/
theorem goto_gov (c : Tc) (st : TcState) :
    (c.goto st).gov = if c.st.streams && !st.streams then armedMoved c.gov else c.gov := by
  unfold Tc.goto
  split <;> rfl

theorem goto_eq (c : Tc) (st : TcState) : c.goto st = { c with st := st, gov := (c.goto st).gov } := by
  obtain ⟨gov, parts⟩ := goto_parts c st
  rw [parts]

theorem goto_armedMoved (c : Tc) (st : TcState) : armedMoved (c.goto st).gov = armedMoved c.gov := by
  rw [goto_gov]
  split
  · exact armedMoved_armedMoved c.gov
  · rfl

/-- The media table behind a TRANSPORT_RESET that found the bay in a state: emptied, seated unseen, or as it was (R69;
log entry 34). -/
def resetTable (m : Mtb) (t : Tr) (was found : TcState) (v : BayValues) : Mtb :=
  if found = .empty then
    if was.threaded then (m.setBayValues t none).remove (.bay t) else m.setBayValues t none
  else if found = .seated ∧ was = .empty then m.seatBay t v
  else m

/-- The controller behind a TRANSPORT_RESET (R68, R69, R143). -/
def resetTc (c : Tc) (found : TcState) : Tc :=
  { tcCut c with
    st := found, pos := none, watch := .off, labelCount := if found = .empty then none else c.labelCount
    gov := started (armedMoved c.gov) }

theorem senseState_cases (b : BaySense) : senseState b = .adrift ∨ senseState b = .seated ∨ senseState b = .empty := by
  unfold senseState
  split
  · exact .inl rfl
  · split
    · exact .inr (.inl rfl)
    · exact .inr (.inr rfl)

/-- A cartridge leaves a bay whose tape does not stream (R52, R55). -/
theorem unseat_eq {s : State} {t : Tr} (h : (s.tc t).st.streams = false) :
    s.unseat t =
      State.setTc { s with mtb := s.mtb.setBayValues t none } t
        { s.tc t with st := .empty, pos := none, labelCount := none } := by
  unfold State.unseat State.modTc
  dsimp only
  rw [goto_of_still _ h]
  cases t <;> rfl

/-- A TRANSPORT_RESET with no place in progress: the job cut off, the table and the controller as the sensors say
(R68, R69, R143). -/
theorem resetTransport_eq {s : State} (no_place : ∀ a b, s.chg.step ≠ some (.place a b)) (t : Tr) (b : BaySense) :
    s.resetTransport t b =
      State.setTc
        { s.cutJob t .reset with
          mtb := resetTable (s.cutJob t .reset).mtb t (s.tc t).st (senseState b) { cls := b.cls, protect := b.protect } }
        t (resetTc (s.tc t) (senseState b)) := by
  have kept := (Local.refl t s).cutJob .reset
  obtain ⟨-, cut⟩ := cutJob_gone s t .reset
  unfold State.resetTransport State.settleBay
  dsimp only
  obtain ⟨v, hv⟩ : ∃ v, s.cutJob t .reset = v := ⟨_, rfl⟩
  rw [hv] at kept cut ⊢
  rw [← kept.chg] at no_place
  obtain ⟨c, hc⟩ : ∃ c, (tcCut (s.tc t)).goto (senseState b) = c := ⟨_, rfl⟩
  have fields : c = { tcCut (s.tc t) with st := senseState b, gov := c.gov } := by
    rw [← hc]
    exact goto_eq ..
  have gov : armedMoved c.gov = armedMoved (s.tc t).gov := by
    rw [← hc]
    exact goto_armedMoved ..
  have left : v.modTc t (fun c => { c.goto (senseState b) with pos := none, watch := .off }) =
      v.setTc t { c with pos := none, watch := .off } := by
    show v.setTc t { (v.tc t).goto (senseState b) with pos := none, watch := .off } = _
    rw [cut, hc]
  have still : ∀ (w : State) (d : Tc), w.modTc t (fun c => { c with gov := c.gov.afterReset }) =
      w.setTc t { w.tc t with gov := started (armedMoved (w.tc t).gov) } := fun w d => rfl
  rw [left, still _ c]
  obtain found | found | found := senseState_cases b
  · rw [found] at fields ⊢
    dsimp only
    have table : resetTable v.mtb t (s.tc t).st .adrift { cls := b.cls, protect := b.protect } = v.mtb := rfl
    rw [State.setTc_tc, setTc_setTc, table]
    dsimp only
    rw [gov, fields]
    rfl
  · rw [found] at fields ⊢
    dsimp only
    by_cases was : (s.tc t).st = .empty
    · have quiet : ((v.setTc t { c with pos := none, watch := .off }).tc t).st.streams = false := by
        rw [State.setTc_tc, fields]
        rfl
      have table : resetTable v.mtb t (s.tc t).st .seated { cls := b.cls, protect := b.protect } =
          v.mtb.seatBay t { cls := b.cls, protect := b.protect } := by
        unfold resetTable
        rw [if_neg (by decide), if_pos ⟨rfl, was⟩]
      have chg : v.chg.seatReached t = v.chg := seatReached_of_ne no_place t
      rw [if_pos was, seat_eq quiet, State.setTc_tc, setTc_setTc, State.setTc_tc, State.setTc_mtb, State.setTc_chg,
        table, chg]
      dsimp only
      rw [gov, fields]
      obtain ⟨m, hm⟩ : ∃ m, v.mtb.seatBay t { cls := b.cls, protect := b.protect } = m := ⟨_, rfl⟩
      rw [hm]
      cases t <;> rfl
    · have table : resetTable v.mtb t (s.tc t).st .seated { cls := b.cls, protect := b.protect } = v.mtb := by
        unfold resetTable
        rw [if_neg (by decide), if_neg fun h => was h.2]
      rw [if_neg was, State.setTc_tc, setTc_setTc, table]
      dsimp only
      rw [gov, fields]
      rfl
  · rw [found] at fields ⊢
    dsimp only
    have unseated : (v.setTc t { c with pos := none, watch := .off }).unseat t =
        State.setTc { v with mtb := v.mtb.setBayValues t none } t
          { c with pos := none, watch := .off, labelCount := none } := by
      rw [unseat_eq (by rw [State.setTc_tc, fields]; rfl), State.setTc_tc, fields]
      cases t <;> rfl
    rw [unseated]
    have table : ∀ m, (if (s.tc t).st.threaded then (v.mtb.setBayValues t none).remove (.bay t)
          else v.mtb.setBayValues t none) = m →
        resetTable v.mtb t (s.tc t).st .empty { cls := b.cls, protect := b.protect } = m := fun m h => by
      unfold resetTable
      rw [if_pos rfl, h]
    split
    next was =>
      rw [table _ (if_pos was)]
      unfold State.modMtb
      rw [State.setTc_mtb]
      dsimp only
      obtain ⟨m, hm⟩ : ∃ m, (v.mtb.setBayValues t none).remove (.bay t) = m := ⟨_, rfl⟩
      rw [hm, fields]
      cases t <;> (dsimp only [State.setTc, State.tc]; rw [gov]; rfl)
    next was =>
      rw [table _ (if_neg was), State.setTc_tc, setTc_setTc]
      dsimp only
      rw [gov, fields]
      rfl

/-! ### The table that a TRANSPORT_RESET leaves -/

section
variable (m : Mtb) (t : Tr) (was found : TcState) (v : BayValues)

theorem bayValues_modify (l : Loc) (f : CartRecord → CartRecord) (t : Tr) : (m.modify l f).bayValues t = m.bayValues t :=
  bayValues_put ..

theorem bayValues_remove (l : Loc) (t : Tr) : (m.remove l).bayValues t = m.bayValues t := by
  unfold Mtb.remove
  rw [bayValues_settle, bayValues_put]

theorem bayValues_seatBay : (m.seatBay t v).bayValues t = some v := bayValues_setBayValues ..

theorem bayValues_resetTable :
    (resetTable m t was found v).bayValues t =
      if found = .empty then none else if found = .seated ∧ was = .empty then some v else m.bayValues t := by
  unfold resetTable
  split
  · split
    · rw [bayValues_remove, bayValues_setBayValues]
    · exact bayValues_setBayValues ..
  · split
    · exact bayValues_seatBay ..
    · rfl

theorem get_bay_resetTable :
    (resetTable m t was found v).get (.bay t) =
      if found = .empty ∧ was.threaded then none
      else (m.get (.bay t)).map fun r =>
        if found = .seated ∧ was = .empty then { r with cls := some v.cls, protect := some v.protect } else r := by
  have same : ∀ o : Option CartRecord, o.map (fun r => r) = o := fun o => Option.map_id_fun' ▸ rfl
  unfold resetTable
  by_cases empty : found = .empty
  · by_cases lost : was.threaded = true
    · rw [if_pos empty, if_pos lost, if_pos ⟨empty, lost⟩, Mtb.get_remove]
    · rw [if_pos empty, if_neg lost, if_neg fun h => lost h.2, Mtb.get_setBayValues]
      have not_seated : ¬(found = .seated ∧ was = .empty) := by simp [empty]
      simp only [if_neg not_seated, same]
  · have not_lost : ¬(found = .empty ∧ was.threaded = true) := fun h => empty h.1
    rw [if_neg empty, if_neg not_lost]
    by_cases seated : found = .seated ∧ was = .empty
    · simp only [if_pos seated, get_seatBay]
    · simp only [if_neg seated, same]

theorem get_other_resetTable {l : Loc} (h : l ≠ .bay t) :
    ((resetTable m t was found v).get l).map (fun q => { q with duplicate := false }) =
      (m.get l).map fun q => { q with duplicate := false } := by
  unfold resetTable
  split
  · split
    · unfold Mtb.remove
      rw [Mtb.get_settle, Mtb.get_put_of_ne _ _ h, Mtb.get_setBayValues, Option.map_map]
      rfl
    · rw [Mtb.get_setBayValues]
  · split
    · rw [get_seatBay_of_ne m t v h]
    · rfl

end

/-- A cut-off leaves the values held for a bay (R52). -/
theorem cutJob_bayValues (s : State) (t : Tr) (res : JobResult) : (s.cutJob t res).mtb.bayValues t = s.mtb.bayValues t := by
  cases job : (s.tc t).job with
  | none =>
    obtain ⟨-, -, m, -⟩ := cutRest_frame s t
    rw [cutJob_none job, m, bayValues_modify]
  | some j =>
    obtain ⟨n, e⟩ := cutJob_some job res
    obtain ⟨-, -, m, -⟩ := cutRest_frame (State.jobEnd { s with free := n } t (s.cutCounts t j) res
      (reportOf s (s.mtb.get (.bay t)) s.free (s.cutCounts t j) res)) t
    rw [e, m, bayValues_modify, jobEnd_mtb, bayValues_modify]

theorem threaded_iff (st : TcState) : st.threaded = true ↔ st ≠ .empty ∧ st ≠ .seated := by
  cases st <;> simp [TcState.threaded]

theorem reportOf_replied (s : State) (ch : Chan) (tag code : Byte) (b : ReplyBody) (r : Option CartRecord) (free : Nat)
    (j : Job) (res : JobResult) : reportOf (replied s ch tag code b) r free j res = reportOf s r free j res := rfl

theorem cutCounts_replied (s : State) (ch : Chan) (tag code : Byte) (b : ReplyBody) (t : Tr) (j : Job) :
    (replied s ch tag code b).cutCounts t j = s.cutCounts t j := by
  cases t <;> rfl

/-- What TRANSPORT_RESET does to the state in which its reply stands (R68, R69, R143). -/
theorem transportReset_runs {s : State} (takes : Takes s) (no_place : ∀ a b, s.chg.step ≠ some (.place a b)) (t : Tr)
    (tag : Byte) (bay : BaySense) :
    Runs (.transportReset t tag bay) s
      ((replied s (.transport t) tag 0x2E (.done [])).resetTransport t bay) := by
  suffices reset : s.takeResetPlace t tag bay =
      (replied s (.transport t) tag 0x2E (.done [])).resetTransport t bay by
    rw [← reset]
    exact runs_of_gate (take := fun s => s.takeResetPlace t tag bay) rfl takes
  unfold State.takeResetPlace State.takeTransportReset
  rw [done_eq]
  refine placeTest_of_ne ?_
  have kept := (Local.refl t (replied s (.transport t) tag 0x2E (.done []))).cutJob .reset
  rw [resetTransport_eq (s := replied s (.transport t) tag 0x2E (.done [])) no_place, State.setTc_chg]
  show ∀ a b, ((replied s (.transport t) tag 0x2E (.done [])).cutJob t .reset).chg.step ≠ _
  rw [kept.chg]
  exact no_place

/-- Settles O35: the state that a TRANSPORT_RESET leaves, field by field. -/
theorem transportResetLeavesTheSensedState : Obligations.TransportResetLeavesTheSensedState := by
  unfold Obligations.TransportResetLeavesTheSensedState
  intro s t tag bay found lost new takes no_place hfound hlost hnew
  refine ⟨_, transportReset_runs takes no_place t tag bay, ?_⟩
  obtain ⟨s1, hs1⟩ : ∃ s1, replied s (.transport t) tag 0x2E (.done []) = s1 := ⟨_, rfl⟩
  have tc : s1.tc t = s.tc t := by rw [← hs1]; cases t <;> rfl
  have mtb : s1.mtb = s.mtb := by rw [← hs1]; rfl
  have chg : s1.chg = s.chg := by rw [← hs1]; rfl
  have sensed : senseState bay = found := hfound.symm
  have kept := (Local.refl t s1).cutJob .reset
  obtain ⟨gone, cut⟩ := cutJob_gone s1 t .reset
  have record := cutJob_mtb s1 t .reset
  have values := cutJob_bayValues s1 t .reset
  have noticed : ∀ j, (s.tc t).job = some j →
      CutNoticed t j.kind .reset (reportOf s (s.mtb.get (.bay t)) s.free (s.cutCounts t j) .reset) s
        (s1.cutJob t .reset) := fun j job => by
    have told := cutJob_noticed (s := s1) (by rw [tc]; exact job) .reset
    rw [← hs1, cutCounts_replied, reportOf_replied] at told
    rw [← hs1]
    exact told
  rw [hs1, resetTransport_eq (by rw [chg]; exact no_place), sensed, tc]
  obtain ⟨v, hv⟩ : ∃ v, s1.cutJob t .reset = v := ⟨_, rfl⟩
  rw [hv] at kept gone cut record values noticed ⊢
  rw [mtb, tc] at record
  rw [mtb] at values
  obtain ⟨m, hm⟩ : ∃ m, resetTable v.mtb t (s.tc t).st found { cls := bay.cls, protect := bay.protect } = m := ⟨_, rfl⟩
  have held : m.get (.bay t) = if lost then none else (s.mtb.get (.bay t)).map fun r => { r with
          eod := if r.eod = .opened then .unknown else r.eod
          dirty := r.dirty || decide (r.eod = .opened)
          binding := if (s.tc t).job = none then r.binding else none
          cls := if new then some bay.cls else r.cls
          protect := if new then some bay.protect else r.protect } := by
    rw [← hm, get_bay_resetTable, record, Option.map_map, hlost, hnew]
    simp only [threaded_iff, decide_eq_true_eq]
    split
    · rfl
    · refine Option.map_congr fun r _ => ?_
      dsimp only [Function.comp]
      rw [closeOpen_fields]
      split <;> rfl
  have values' : m.bayValues t = if found = .empty then none
      else if new then some { cls := bay.cls, protect := bay.protect } else s.mtb.bayValues t := by
    rw [← hm, bayValues_resetTable, values, hnew]
    simp only [decide_eq_true_eq]
  have others : ∀ l, l ≠ .bay t → (m.get l).map (fun q => { q with duplicate := false }) =
      (s.mtb.get l).map fun q => { q with duplicate := false } := fun l hl => by
    rw [← hm, get_other_resetTable _ _ _ _ _ hl, kept.records l hl, mtb]
  rw [hm]
  obtain ⟨u, hu⟩ : ∃ u : State, { v with mtb := m } = u := ⟨_, rfl⟩
  have mine : JobGone t u := by rw [← hu]; exact gone
  have link : u.lnk = v.lnk := by rw [← hu]
  have table : u.mtb = m := by rw [← hu]
  have changer : u.chg = v.chg := by rw [← hu]
  have other : OtherKept t v u := by rw [← hu]; cases t <;> exact otherKept_of_eq rfl rfl
  have inbound : InboundKept v u := by rw [← hu]; exact inboundKept_refl v
  have before : OtherKept t s s1 ∧ InboundKept s s1 := by
    rw [← hs1]
    exact ⟨by cases t <;> exact otherKept_of_eq rfl rfl, inboundKept_refl s⟩
  have queues : resetTc (s.tc t) found = { u.tc t with
      st := found, pos := none, labelCount := (resetTc (s.tc t) found).labelCount, watch := .off,
      gov := (resetTc (s.tc t) found).gov } := by
    have same : u.tc t = v.tc t := by rw [← hu]; cases t <;> rfl
    rw [same, cut, tc]
    rfl
  have last := (Local.refl t u).setTc (resetTc (s.tc t) found)
  have after : (u.setTc t (resetTc (s.tc t) found)).tc t = resetTc (s.tc t) found := State.setTc_tc ..
  have unlost : (u.setTc t (resetTc (s.tc t) found)).mtb = m := by rw [State.setTc_mtb, table]
  have told : (u.setTc t (resetTc (s.tc t) found)).lnk = v.lnk := by rw [State.setTc_lnk, link]
  rw [hu]
  refine ⟨?_, ?_, ?_, ?_, ?_, ?_, ?_, ?_, ?_, fun absent => ?_, fun r hr stays => ?_, fun l hl => ?_, fun j job => ?_, ?_, ?_⟩
  · rw [after]; rfl
  · rw [after]; rfl
  · rw [after]; rfl
  · rw [queues]
    exact jobGone_setTc mine ⟨found, none, _, _, _, rfl⟩
  · exact otherKept_trans (otherKept_trans (otherKept_trans before.1 kept.other) other) last.other
  · rw [last.chg, changer, kept.chg, chg]
  · exact inboundKept_trans (inboundKept_trans (inboundKept_trans before.2 kept.inbound) inbound) last.inbound
  · rw [after]; rfl
  · rw [unlost, values']
  · rw [unlost, held]
    obtain none_there | lost := absent
    · rw [none_there, Option.map_none, ite_self]
    · rw [if_pos lost]
  · rw [unlost, held, hr, stays]
    rfl
  · rw [unlost, others l hl]
  · have cutNoticed := noticed j job
    unfold CutNoticed at cutNoticed ⊢
    unfold Unbound
    rw [told, unlost, held]
    refine ⟨cutNoticed, fun r hr => ?_⟩
    split at hr
    · cases hr
    · obtain ⟨q, -, rfl⟩ := Option.map_eq_some_iff.mp hr
      dsimp only
      rw [job]
      rfl
  · rw [after]; rfl
  · rw [last.replies, link, kept.replies, ← hs1]
    rfl

end Sys2Proof.Proofs
end

section
/-! PROOFS. The requests of streaming jobs: their refusals and the beginning of their locate (R61 to R66, R105, R106, R145,
R146, R153). -/

open Sys2Proof Sys2Proof.Machine Sys2Proof.Claims

namespace Sys2Proof.Proofs

-- One declaration at a time: elaborated in parallel, the joined text needs more threads than the memory limit holds.
set_option Elab.async false

/-! ## The running job, changed -/

section
variable {s : State} {t : Tr}

theorem modWrite_of_write {w : WriteJob} (job : (s.tc t).job = some (.write w)) (f : WriteJob → WriteJob) :
    s.modWrite t f = s.setTc t { s.tc t with job := some (.write (f w)) } := by
  unfold State.modWrite
  rw [modTc_eq, job]

theorem modRead_of_read {r : ReadJob} (job : (s.tc t).job = some (.read r)) (f : ReadJob → ReadJob) :
    s.modRead t f = s.setTc t { s.tc t with job := some (.read (f r)) } := by
  unfold State.modRead
  rw [modTc_eq, job]

theorem modWrite_of_no_write (none_there : (s.tc t).writeJob = none) (f : WriteJob → WriteJob) : s.modWrite t f = s := by
  unfold State.modWrite
  rw [modTc_eq]
  split
  next w job => simp [Tc.writeJob, job] at none_there
  next => exact setTc_self s t

theorem modRead_of_no_read (none_there : (s.tc t).readJob = none) (f : ReadJob → ReadJob) : s.modRead t f = s := by
  unfold State.modRead
  rw [modTc_eq]
  split
  next r job => simp [Tc.readJob, job] at none_there
  next => exact setTc_self s t

theorem modRead_of_write {w : WriteJob} (job : (s.tc t).job = some (.write w)) (f : ReadJob → ReadJob) :
    s.modRead t f = s := modRead_of_no_read (by simp [Tc.readJob, job]) f

theorem modWrite_of_read {r : ReadJob} (job : (s.tc t).job = some (.read r)) (f : WriteJob → WriteJob) :
    s.modWrite t f = s := modWrite_of_no_write (by simp [Tc.writeJob, job]) f

end

/-! ## What a request reads of the record in its bay -/

section
variable {s : State} {t : Tr} {r : CartRecord}

theorem protectOf_of_record (record : s.mtb.get (.bay t) = some r) : s.protectOf t = r.protect := by
  unfold State.protectOf State.bayRecord
  rw [record]
  rfl

theorem eodOf_of_record (record : s.mtb.get (.bay t) = some r) : s.eodOf t = r.eod := by
  unfold State.eodOf State.bayRecord
  rw [record]
  rfl

theorem mapOf_of_record (record : s.mtb.get (.bay t) = some r) : s.mapOf t = r.map := by
  unfold State.mapOf State.bayRecord
  rw [record]
  rfl

theorem boundOf_of_record (record : s.mtb.get (.bay t) = some r) : s.boundOf t = knownEnd r := by
  unfold State.boundOf knownEnd
  rw [eodOf_of_record record] <;> rfl

theorem frames_of_record {c : CartClass} (record : s.mtb.get (.bay t) = some r) (cls : r.cls = some c) :
    s.frames t = Config.capacity c := by
  unfold State.frames
  rw [classOf_of_record record cls]

theorem protectOf_ne {p : Option Protect} (h : ∀ r, s.mtb.get (.bay t) = some r → r.protect ≠ p) (some_p : p ≠ none) :
    s.protectOf t ≠ p := by
  unfold State.protectOf State.bayRecord
  cases record : s.mtb.get (.bay t) with
  | none => exact some_p.symm
  | some r => exact h r record

end

/-- A label that another record holds (R6). -/
theorem labelHeld_true {m : Mtb} {own l : Loc} {q : CartRecord} {lb : Label} (other : l ≠ own) (record : m.get l = some q)
    (label : q.label = some lb) : m.labelHeld own lb.chars = true := by
  rw [Mtb.labelHeld, List.any_eq_true]
  have entry : m.entries[l.idx] = some q := record
  have elsewhere : l.idx ≠ own.idx := fun h => other (Loc.idx_inj h)
  refine ⟨l.idx, List.mem_finRange _, ?_⟩
  rw [entry, Option.bind_some, label]
  simp [elsewhere]

/-! ## Refusals (O49) -/

theorem takeWrite_refused {s : State} {t : Tr} {m : StartMode} {why : Reason} (h : s.writeRefusal t m = some why)
    (takes : Takes s) (tag limit : Byte) :
    Runs (.write t tag m limit) s (replied s (.transport t) tag 0x24 (.refused why)) := by
  have refused : s.takeWrite t tag m limit = replied s (.transport t) tag 0x24 (.refused why) := by
    unfold State.takeWrite
    rw [h]
    rfl
  exact refused ▸ runs_of_gate (take := fun s => s.takeWrite t tag m limit) rfl takes

theorem takeVerify_refused {s : State} {t : Tr} {a : Word} {range : VerifyRange} {why : Reason}
    (h : s.verifyRefusal t a range = some why) (takes : Takes s) (tag : Byte) (mode : VerifyMode) (policy : FaultPolicy) :
    Runs (.verify t tag a range mode policy) s (replied s (.transport t) tag 0x25 (.refused why)) := by
  have refused : s.takeVerify t tag a range mode policy = replied s (.transport t) tag 0x25 (.refused why) := by
    unfold State.takeVerify
    rw [h]
    rfl
  exact refused ▸ runs_of_gate (take := fun s => s.takeVerify t tag a range mode policy) rfl takes

theorem takeRestore_refused {s : State} {t : Tr} {start : RestoreStart} {stop : RestoreEnd} {why : Reason}
    (h : s.restoreRefusal t start stop = some why) (takes : Takes s) (tag : Byte) (offset : Word) :
    Runs (.restore t tag start offset stop) s (replied s (.transport t) tag 0x26 (.refused why)) := by
  have refused : s.takeRestore t tag start offset stop = replied s (.transport t) tag 0x26 (.refused why) := by
    unfold State.takeRestore
    rw [h]
    rfl
  exact refused ▸ runs_of_gate (take := fun s => s.takeRestore t tag start offset stop) rfl takes

theorem writeRefusal_ready {s : State} {t : Tr} (ready : (s.tc t).st = .ready) (f : Word) :
    s.writeRefusal t (.fromFile f) =
      if f = 0xFFFFFFFF#32 then some .range
      else if s.protectOf t ≠ some .clear then some .writeProtected
      else match s.eodOf t with
        | .known _ _ n => if n < f.toNat then some .beyondEod else none
        | _ => none := by
  unfold State.writeRefusal
  rw [if_neg (by simp [ready])]
  simp only [decide_eq_true_eq]
  split
  · rfl
  · split
    · rfl
    · cases s.eodOf t <;> rfl

theorem writeRefusal_append {s : State} {t : Tr} (ready : (s.tc t).st = .ready) :
    s.writeRefusal t .append = if s.protectOf t ≠ some .clear then some .writeProtected else none := by
  unfold State.writeRefusal
  rw [if_neg (by simp [ready])]
  rfl

theorem verifyRefusal_ready {s : State} {t : Tr} (ready : (s.tc t).st = .ready) (a : Word) (range : VerifyRange) :
    s.verifyRefusal t a range =
      if a = 0xFFFFFFFF#32 ∨ range = .count 0 then some .range
      else if s.beyond t a.toNat then some .beyondEod
      else none :=
  if_neg (by simp [ready])

theorem restoreRefusal_ready {s : State} {t : Tr} (ready : (s.tc t).st = .ready) (start : RestoreStart) (stop : RestoreEnd) :
    s.restoreRefusal t start stop =
      if startValue start = 0xFFFFFFFF#32 ∨ stop = .count 0 then some .range
      else match start, s.eodOf t with
        | .address a, .known e _ _ => if e ≤ a.toNat then some .beyondEod else none
        | .file f, .known _ _ n => if n < f.toNat then some .beyondEod else none
        | _, _ => none := by
  unfold State.restoreRefusal
  rw [if_neg (by simp [ready])] <;> rfl

theorem takeLoad_refused {s : State} {t : Tr} {tag : Byte} {u : State} (takes : Takes s) (h : s.takeLoad t tag = u) :
    Runs (.load t tag) s u := h ▸ runs_of_gate (take := fun s => s.takeLoad t tag) rfl takes

theorem takeLabel_runs {s : State} {t : Tr} {tag : Byte} {chars : List Byte} {u : State} (takes : Takes s)
    (h : s.takeLabel t tag chars = u) : Runs (.label t tag chars) s u :=
  h ▸ runs_of_gate (take := fun s => s.takeLabel t tag chars) rfl takes

/-- Settles O49: each request's first failing check, in the order of its checks. -/
theorem jobRequestsAreRefused : Obligations.JobRequestsAreRefused := by
  unfold Obligations.JobRequestsAreRefused
  refine ⟨fun s t tag chars takes => ⟨fun st => ?_, fun st held => ?_, fun r a f => ?_, fun r a => ?_, fun st => ?_,
    fun st bad => ?_, fun st good tab => ?_, fun r l q lb st good record tab other holder label same => ?_⟩, ?_⟩
  · exact takeLoad_refused takes (if_pos st)
  · exact takeLoad_refused takes ((if_neg (by simp [st])).trans (if_pos held))
  · have refused : s.takeUnload t tag = s.refuse t tag 0x21 .state := by
      unfold State.takeUnload
      split
      next h => exact absurd h r
      next h => exact absurd h a
      next h => exact absurd h f
      next => rfl
    exact (refused.trans (refuse_eq ..)) ▸ runs_of_gate (take := fun s => s.takeUnload t tag) rfl takes
  · have refused : s.takeRewind t tag = s.refuse t tag 0x22 .state := by
      unfold State.takeRewind
      split
      next h => exact absurd h r
      next h => exact absurd h a
      next => rfl
    exact (refused.trans (refuse_eq ..)) ▸ runs_of_gate (take := fun s => s.takeRewind t tag) rfl takes
  · exact takeLabel_runs takes (if_pos st)
  · exact takeLabel_runs takes ((if_neg (by simp [st])).trans (if_pos (by simp [bad])))
  · exact takeLabel_runs takes ((if_neg (by simp [st])).trans ((if_neg (by simp [good])).trans
      (if_pos (protectOf_ne tab (by simp)))))
  · refine takeLabel_runs takes ((if_neg (by simp [st])).trans ((if_neg (by simp [good])).trans
      ((if_neg (by simp [protectOf_of_record record, tab])).trans (if_pos ?_))))
    rw [← same]
    exact labelHeld_true other holder label
  · intro s t tag limit m a f offset range mode policy start stop takes
    refine ⟨fun st => ⟨?_, ?_, ?_⟩, fun st file tab => ?_, fun st => ⟨?_, ?_, ?_, ?_, ?_, ?_⟩,
      fun r x p n st record eod => ⟨fun beyond addr count => ?_, fun beyond addr count => ?_, fun beyond file count => ?_,
        fun beyond file tab => ?_⟩⟩
    · exact takeWrite_refused (if_pos st) takes tag limit
    · exact takeVerify_refused (if_pos st) takes tag mode policy
    · exact takeRestore_refused (if_pos st) takes tag offset
    · refine takeWrite_refused ?_ takes tag limit
      have locked := protectOf_ne tab (by simp)
      cases m with
      | append => rw [writeRefusal_append st, if_pos locked]
      | fromFile f => rw [writeRefusal_ready st, if_neg fun h : f = 0xFFFFFFFF#32 => file (congrArg _ h), if_pos locked]
    · exact takeWrite_refused ((writeRefusal_ready st _).trans (if_pos rfl)) takes tag limit
    · exact takeVerify_refused ((verifyRefusal_ready st _ _).trans (if_pos (.inl rfl))) takes tag mode policy
    · exact takeVerify_refused ((verifyRefusal_ready st _ _).trans (if_pos (.inr rfl))) takes tag mode policy
    · exact takeRestore_refused ((restoreRefusal_ready st _ _).trans (if_pos (.inl rfl))) takes tag offset
    · exact takeRestore_refused ((restoreRefusal_ready st _ _).trans (if_pos (.inl rfl))) takes tag offset
    · exact takeRestore_refused ((restoreRefusal_ready st _ _).trans (if_pos (.inr rfl))) takes tag offset
    · have past : s.beyond t a.toNat = true := by
        unfold State.beyond
        rw [eodOf_of_record record, eod]
        exact decide_eq_true beyond
      exact takeVerify_refused ((verifyRefusal_ready st _ _).trans ((if_neg (not_or.mpr ⟨addr, count⟩)).trans
        (if_pos past))) takes tag mode policy
    · refine takeRestore_refused ((restoreRefusal_ready st (.address a) stop).trans
        ((if_neg (not_or.mpr ⟨addr, count⟩)).trans ?_))
        takes tag offset
      rw [eodOf_of_record record, eod]
      exact if_pos beyond
    · refine takeRestore_refused ((restoreRefusal_ready st (.file f) stop).trans
        ((if_neg (not_or.mpr ⟨file, count⟩)).trans ?_))
        takes tag offset
      rw [eodOf_of_record record, eod]
      exact if_pos beyond
    · refine takeWrite_refused ((writeRefusal_ready st _).trans ((if_neg file).trans ((if_neg ?_).trans ?_))) takes tag limit
      · simp [protectOf_of_record record, tab]
      · rw [eodOf_of_record record, eod]
        exact if_pos beyond

/-! ## A locate that fails (R63) -/

/-- The frame reached that a failed locate reports (R63). -/
def reachedOf (pos : Option Nat) (res : JobResult) : Option Nat :=
  if res = .locateFault ∨ res = .beyondEod then pos else none

theorem locateFailed_kind (intake : List IntakeItem) (j : Job) (sought : Nat) (reached : Option Nat) (res : JobResult) :
    (locateFailed intake j sought reached res).kind = j.kind := by
  cases j <;> rfl

/-- What the job of a failed locate reports is in the controller alone (R63). -/
theorem tellLocate_eq {s : State} {t : Tr} {j : Job} (job : (s.tc t).job = some j) (l : Locate) {res : JobResult}
    (fault : res = .readFault → l.sought = l.x) :
    s.tellLocate t l res =
      s.setTc t { s.tc t with job := some (locateFailed (s.tc t).intake j l.sought (reachedOf (s.tc t).pos res) res) } := by
  have same : ∀ c : Tc, c.job = some j → { c with job := some j } = c := fun c h => by rw [← h]
  unfold State.tellLocate State.countSurplus
  dsimp only
  cases j with
  | write w =>
    obtain ⟨v, hv⟩ : ∃ v, s.modWrite t (fun w => { w with sought := some l.sought, reached := reachedOf (s.tc t).pos res }) = v :=
      ⟨_, rfl⟩
    have no_read : (v.tc t).readJob = none := by
      rw [← hv, modWrite_of_write job, State.setTc_tc]
      rfl
    unfold reachedOf at hv
    rw [hv, modRead_of_no_read no_read, modRead_of_no_read no_read, ← hv, modWrite_of_write job]
    rfl
  | read r =>
    rw [modWrite_of_read job, modRead_of_read job, modRead_of_read (r := _) (by rw [State.setTc_tc]), State.setTc_tc, setTc_setTc]
    unfold locateFailed reachedOf ReadJob.leave
    dsimp only
    by_cases h : res = .readFault
    · rw [if_pos h, if_pos h, fault h]
    · rw [if_neg h, if_neg h]
  | _ =>
    have no_read : (s.tc t).readJob = none := by simp [Tc.readJob, job]
    rw [modWrite_of_no_write (by simp [Tc.writeJob, job]), modRead_of_no_read no_read, modRead_of_no_read no_read]
    show s = s.setTc t { s.tc t with job := some _ }
    unfold locateFailed
    rw [same _ job, setTc_self]

/-- The controller from which the job of a failed locate ends (R63). -/
def locateOver (c : Tc) (j : Job) (sought : Nat) (res : JobResult) : Tc :=
  Tc.goto { c with job := some (locateFailed c.intake j sought (reachedOf c.pos res) res) } .ready

theorem locateOver_fields (c : Tc) (j : Job) (sought : Nat) (res : JobResult) :
    (locateOver c j sought res).job = some (locateFailed c.intake j sought (reachedOf c.pos res) res) ∧
      (locateOver c j sought res).st = .ready ∧ (locateOver c j sought res).pos = c.pos := by
  unfold locateOver
  exact ⟨Tc.goto_job .., Tc.goto_st .., Tc.goto_pos ..⟩

theorem locateFail_eq {s : State} {t : Tr} {j : Job} (job : (s.tc t).job = some j) (l : Locate) {res : JobResult}
    (fault : res = .readFault → l.sought = l.x) :
    s.locateFail t l res = (s.setTc t (locateOver (s.tc t) j l.sought res)).endJob t res := by
  unfold State.locateFail
  rw [tellLocate_eq job l fault, modTc_eq, State.setTc_tc, setTc_setTc]
  rfl

/-- The failure of a locate: READY at the place held, the job ended with what it had to tell (R63). -/
theorem locateFail_ends {s : State} {t : Tr} {j : Job} (job : (s.tc t).job = some j) (l : Locate) {res : JobResult}
    (fault : res = .readFault → l.sought = l.x) :
    LocateFails s (s.locateFail t l res) t j l.sought (reachedOf (s.tc t).pos res) res ∧
      ((s.locateFail t l res).tc t).st = .ready ∧ ((s.locateFail t l res).tc t).pos = (s.tc t).pos := by
  obtain ⟨told, st, pos⟩ := locateOver_fields (s.tc t) j l.sought res
  rw [locateFail_eq job l fault, endJob_after_tc told]
  refine ⟨?_, st, pos⟩
  have ended := endJob_after (s := s) (t := t) told res
  rw [locateFailed_kind] at ended
  exact ended

/-! ## A locate that begins (R61, R64, R66) -/

/-- A locate begins, or fails at once where its estimate is beyond the tape (R61). -/
def locateBegins (v : State) (t : Tr) (c : CartClass) (l : Locate) : State :=
  if Config.capacity c ≤ l.e then v.locateFail t l .beyondEod else v.setTc t { v.tc t with locate := some l }

section
variable {v : State} {t : Tr} {q : CartRecord} {c : CartClass}

theorem locateAddress_begins (record : v.mtb.get (.bay t) = some q) (cls : q.cls = some c) (writing : Bool) (goal : LocGoal)
    (a e : Nat) : v.locateAddress t writing goal a e = locateBegins v t c (toAddress q writing goal a e) := by
  unfold State.locateAddress locateBegins toAddress
  rw [boundOf_of_record record, frames_of_record record cls]
  rfl

/-- What a locate by address fails with is told by its address (R63). -/
theorem locateFail_congr {l l' : Locate} (phase : l'.phase = l.phase) (a : l'.a = l.a) (x : l'.x = l.x) (res : JobResult) :
    v.locateFail t l' res = v.locateFail t l res := by
  unfold State.locateFail State.tellLocate Locate.sought
  rw [phase, a, x]

theorem one_lt_capacity (c : CartClass) : ¬ Config.capacity c ≤ 1 := by
  cases c <;> decide

/-- A locate from the last map entry begins with the direction that its goal has (R64, R66). -/
theorem locateFrom_begins {j : Job} (job : (v.tc t).job = some j) (record : v.mtb.get (.bay t) = some q)
    (cls : q.cls = some c) (writing : Bool) (goal : LocGoal) :
    v.locateFrom t writing goal = locateBegins v t c (toLastEntry q writing goal) := by
  unfold State.locateFrom toLastEntry
  rw [mapOf_of_record record]
  cases q.map.getLast? with
  | none =>
    dsimp only
    unfold locateBegins
    rw [boundOf_of_record record, if_neg (one_lt_capacity c)]
    rfl
  | some e =>
    dsimp only
    rw [locateAddress_begins record cls]
    unfold locateBegins
    split
    next beyond =>
      have gone : (((v.locateFail t (toAddress q false goal e.addr e.frame) .beyondEod).tc t).locate) = none := by
        obtain ⟨⟨⟨⟨-, gone, -⟩, -⟩, -⟩, -⟩ := locateFail_ends (res := .beyondEod) job (toAddress q false goal e.addr e.frame)
          (fun h => nomatch h)
        exact gone
      rw [modTc_eq, gone, if_pos (show Config.capacity c ≤ (toAddress q writing goal e.addr e.frame).e from beyond),
        locateFail_congr (l := toAddress q writing goal e.addr e.frame) (l' := toAddress q false goal e.addr e.frame)
          rfl rfl rfl]
      have same : ∀ d : Tc, d.locate = none → { d with locate := Option.map (fun l : Locate => { l with writing }) none } = d :=
        fun d h => by rw [Option.map_none, ← h]
      rw [locateFail_congr (l := toAddress q writing goal e.addr e.frame) (l' := toAddress q false goal e.addr e.frame)
        rfl rfl rfl] at gone
      rw [same _ gone, setTc_self]
    next within =>
      rw [if_neg (show ¬ Config.capacity c ≤ (toAddress q writing goal e.addr e.frame).e from within), modTc_eq,
        State.setTc_tc, setTc_setTc]
      rfl

theorem locateFile_begins {j : Job} (job : (v.tc t).job = some j) (record : v.mtb.get (.bay t) = some q)
    (cls : q.cls = some c) (writing : Bool) (f : Nat) :
    v.locateFile t writing f = locateBegins v t c (toFile q writing f) := by
  unfold State.locateFile toFile
  rw [mapOf_of_record record]
  split
  next first =>
    exact locateAddress_begins record cls ..
  next later =>
    cases q.map[f - 1]? with
    | none => exact locateFrom_begins job record cls ..
    | some e => exact locateAddress_begins record cls ..

end

/-! ## The start of a streaming job (O48) -/

theorem sought_toAddress (r : CartRecord) (writing : Bool) (goal : LocGoal) (a e : Nat) :
    (toAddress r writing goal a e).sought = (toAddress r writing goal a e).a := rfl

theorem sought_toLastEntry (r : CartRecord) (writing : Bool) (goal : LocGoal) :
    (toLastEntry r writing goal).sought = (toLastEntry r writing goal).a := by
  unfold toLastEntry
  split <;> rfl

theorem sought_toFile (r : CartRecord) (writing : Bool) (f : Nat) :
    (toFile r writing f).sought = (toFile r writing f).a := by
  unfold toFile
  split
  · rfl
  · exact sought_toLastEntry ..

/-- The estimate is that of the map entry with the greatest address not above the one sought (R61). -/
theorem estimateFor_none {m : List MapEntry} {a : Nat} (above : ∀ e ∈ m, a < e.addr) : estimateFor m a = a + 1 := by
  have spec := entryFor_spec m a
  unfold estimateFor
  cases found : entryFor m a with
  | none => rfl
  | some b =>
    rw [found] at spec
    obtain ⟨mem, le, -⟩ := spec
    have := above b mem
    omega

theorem estimateFor_some {m : List MapEntry} {a : Nat} {b : MapEntry} (mem : b ∈ m) (le : b.addr ≤ a)
    (greatest : ∀ e ∈ m, e.addr ≤ a → e = b ∨ e.addr < b.addr) : estimateFor m a = b.frame + (a - b.addr) := by
  have spec := entryFor_spec m a
  unfold estimateFor
  cases found : entryFor m a with
  | none =>
    rw [found] at spec
    have := spec b mem
    omega
  | some b' =>
    rw [found] at spec
    obtain ⟨mem', le', greatest'⟩ := spec
    have := greatest' b mem le
    obtain rfl | less := greatest b' mem' le'
    · rfl
    · omega

/-- A reply before the end of a job is none of it. -/
theorem jobEnded_of_replied {s u : State} {ch : Chan} {tag code : Byte} {b : ReplyBody} {t : Tr} {kind : JobKind}
    {res : JobResult} {report : List Byte} (ended : JobEnded t kind res report (replied s ch tag code b) u) :
    JobEnded t kind res report s u := by
  cases t <;> exact ended

section
variable {s : State} {t : Tr} {tag code : Byte} {j : Job} {d : Dir} {r : CartRecord} {c : CartClass}

theorem jobStarted_record (record : s.mtb.get (.bay t) = some r) (st : TcState) :
    (jobStarted s t j st d).mtb.get (.bay t) = some { r with binding := some t } := by
  unfold jobStarted
  rw [State.setTc_mtb]
  exact (Mtb.get_put ..).trans (by rw [record]; rfl)

theorem jobStarted_tc (st : TcState) : (jobStarted s t j st d).tc t = { s.tc t with st := st, job := some j } :=
  State.setTc_tc ..

/-- A job that has started is accepted and begins its locate, or ends at an estimate beyond the tape (R51, R61). -/
theorem streaming_begins (still : (s.tc t).st.streams = false) (record : s.mtb.get (.bay t) = some r) {l : Locate}
    (sought : l.sought = l.a) {req : Instr}
    (runs : Runs req s (locateBegins ((s.accept t tag code).startJob t j .locating d) t c l)) :
    (l.e < Config.capacity c → Runs req s (locating s t tag code j d l)) ∧
      (Config.capacity c ≤ l.e → ∃ u, Runs req s u ∧ (u.tc t).st = .ready ∧ (u.tc t).pos = (s.tc t).pos ∧
        JobEnded t j.kind .beyondEod
          (reportOf u (some { r with binding := some t }) s.free
            (locateFailed (s.tc t).intake j l.a (s.tc t).pos .beyondEod) .beyondEod) s u ∧
        u.lnk.replies = s.lnk.replies ++ [{ chan := .transport t, tag := tag, code := code, body := .accepted }]) := by
  rw [accept_startJob still] at runs
  have kept : Local t (replied s (.transport t) tag code .accepted) ((s.accept t tag code).startJob t j .locating d) :=
    (Local.refl t _).startJob ..
  have told := jobStarted_record (j := j) (d := d) (s := replied s (.transport t) tag code .accepted) record .locating
  have tc := jobStarted_tc (t := t) (j := j) (d := d) (s := replied s (.transport t) tag code .accepted) .locating
  rw [accept_startJob still] at kept
  have link : (jobStarted (replied s (.transport t) tag code .accepted) t j .locating d).lnk =
      (replied s (.transport t) tag code .accepted).lnk := by cases t <;> rfl
  have free : (jobStarted (replied s (.transport t) tag code .accepted) t j .locating d).free = s.free := by cases t <;> rfl
  unfold locating
  obtain ⟨v, hv⟩ : ∃ v, jobStarted (replied s (.transport t) tag code .accepted) t j .locating d = v := ⟨_, rfl⟩
  rw [hv] at runs kept told tc link free ⊢
  rw [replied_tc] at tc
  refine ⟨fun within => ?_, fun beyond => ?_⟩
  · unfold locateBegins at runs
    rw [if_neg (by omega)] at runs
    exact runs
  · unfold locateBegins at runs
    rw [if_pos beyond] at runs
    obtain ⟨fails, st, pos⟩ := locateFail_ends (s := v) (t := t) (j := j) (res := .beyondEod) (by rw [tc]) l (fun h => nomatch h)
    unfold LocateFails at fails
    rw [told, free, tc, sought] at fails
    refine ⟨_, runs, st, pos.trans (by rw [tc]), jobEnded_of_replied (jobEnded_of_local kept link fails), ?_⟩
    have replies := ((Local.refl t v).locateFail l .beyondEod).replies
    rw [replies, link]
    rfl

end

section
variable {s : State} {t : Tr} {r : CartRecord} {c : CartClass}

theorem takeWrite_begins (takes : Takes s) {m : StartMode} (free : s.writeRefusal t m = none)
    (tag limit : Byte) :
    Runs (.write t tag m limit) s
      (State.beginWriteLocate ((s.accept t tag 0x24).startJob t (.write { mode := m, limit := min 15 limit.toNat }) .locating .write)
        t m) := by
  have taken : s.takeWrite t tag m limit =
      State.beginWriteLocate ((s.accept t tag 0x24).startJob t (.write { mode := m, limit := min 15 limit.toNat }) .locating
        .write) t m := by
    unfold State.takeWrite
    rw [free]
  exact taken ▸ runs_of_gate (take := fun s => s.takeWrite t tag m limit) rfl takes

theorem takeVerify_begins (takes : Takes s) {a : Word} {range : VerifyRange} (free : s.verifyRefusal t a range = none)
    (tag : Byte) (mode : VerifyMode) (policy : FaultPolicy) :
    Runs (.verify t tag a range mode policy) s
      (((s.accept t tag 0x25).startJob t
        (.read { spec := .verify a.toNat range mode policy, x := a.toNat, bound := s.boundOf t })
        .locating .read).locateAddress t false .address a.toNat (estimateFor (s.mapOf t) a.toNat)) := by
  have runs : Runs (.verify t tag a range mode policy) s (s.takeVerify t tag a range mode policy) :=
    runs_of_gate (take := fun s => s.takeVerify t tag a range mode policy) rfl takes
  unfold State.takeVerify at runs
  rw [free] at runs
  exact runs

theorem takeRestore_begins (takes : Takes s) {start : RestoreStart} {stop : RestoreEnd}
    (free : s.restoreRefusal t start stop = none) (tag : Byte) (offset : Word) :
    Runs (.restore t tag start offset stop) s
      (State.beginRestoreLocate ((s.accept t tag 0x26).startJob t
        (.read { spec := .restore offset.toNat stop, x := startAddress start, bound := s.boundOf t })
        .locating .read) t start) := by
  have runs : Runs (.restore t tag start offset stop) s (s.takeRestore t tag start offset stop) :=
    runs_of_gate (take := fun s => s.takeRestore t tag start offset stop) rfl takes
  unfold State.takeRestore at runs
  rw [free] at runs
  exact runs

end

/-- Settles O48: the estimate, and each request by where its locate leads. -/
theorem streamingJobsBeginWithTheirLocate : Obligations.StreamingJobsBeginWithTheirLocate := by
  unfold Obligations.StreamingJobsBeginWithTheirLocate
  refine ⟨fun m a => ⟨estimateFor_none, fun b => estimateFor_some⟩, fun s t tag r c takes ready record cls req code j d l start => ?_⟩
  have still : (s.tc t).st.streams = false := by rw [ready]; rfl
  have started : ∀ j d, ((s.accept t tag code).startJob t j .locating d).mtb.get (.bay t) = some { r with binding := some t } :=
    fun j d => by
      rw [accept_startJob still]
      exact jobStarted_record (s := replied s (.transport t) tag code .accepted) record .locating
  have running : ∀ j d, (((s.accept t tag code).startJob t j .locating d).tc t).job = some j := fun j d => by
    rw [accept_startJob still, jobStarted_tc]
  suffices begins : Runs req s (locateBegins ((s.accept t tag code).startJob t j .locating d) t c l) ∧ l.sought = l.a from
    streaming_begins still record begins.2 begins.1
  obtain ⟨limit, tab, rfl, rfl, write⟩ | ⟨a, range, mode, policy, rfl, rfl, addr, count, within, rfl, rfl, rfl⟩ |
    ⟨offset, stop, rfl, rfl, count, restore⟩ := start
  · have clear : s.protectOf t = some .clear := (protectOf_of_record record).trans tab
    obtain ⟨rfl, rfl, ends⟩ | ⟨f, file, within, rfl, rfl, rfl⟩ := write
    · have free : s.writeRefusal t .append = none :=
        (writeRefusal_append ready).trans (if_neg (by simp [clear]))
      have runs := takeWrite_begins takes free tag limit
      unfold State.beginWriteLocate at runs
      dsimp only at runs
      rw [eodOf_of_record (started ..)] at runs
      dsimp only at runs
      obtain ⟨a, p, n, eod, rfl⟩ | ⟨not_known, rfl⟩ := ends
      · rw [eod] at runs
        dsimp only at runs
        rw [locateAddress_begins (started ..) cls] at runs
        exact ⟨runs, rfl⟩
      · refine ⟨?_, sought_toLastEntry ..⟩
        have from_last := locateFrom_begins (running ..) (started (.write { mode := .append, limit := min 15 limit.toNat }) .write)
          cls true .endOfData
        rw [show toLastEntry r true .endOfData = toLastEntry { r with binding := some t } true .endOfData from rfl,
          ← from_last]
        split at runs
        next eod => exact absurd eod (not_known _ _ _)
        next => exact runs
    · have free : s.writeRefusal t (.fromFile f) = none := by
        rw [writeRefusal_ready ready, if_neg file, if_neg (by simp [clear]), eodOf_of_record record]
        split
        next x p n eod => exact if_neg (Nat.not_lt.mpr (within x p n eod))
        next => rfl
      have runs := takeWrite_begins takes free tag limit
      have to_file : State.beginWriteLocate ((s.accept t tag 0x24).startJob t
          (.write { mode := .fromFile f, limit := min 15 limit.toNat }) .locating .write) t (.fromFile f) = _ :=
        locateFile_begins (running ..) (started ..) cls true f.toNat
      rw [to_file] at runs
      exact ⟨runs, sought_toFile ..⟩
  · have free : s.verifyRefusal t a range = none := by
      rw [verifyRefusal_ready ready, if_neg (not_or.mpr ⟨addr, count⟩), if_neg]
      unfold State.beyond
      rw [eodOf_of_record record]
      split
      next x p n eod => simpa using within x p n eod
      next => simp
    have runs := takeVerify_begins takes free tag mode policy
    rw [boundOf_of_record record, mapOf_of_record record, locateAddress_begins (started ..) cls] at runs
    exact ⟨runs, rfl⟩
  · obtain ⟨a, addr, within, rfl, rfl, rfl⟩ | ⟨f, file, within, rfl, rfl, rfl⟩ := restore
    · have free : s.restoreRefusal t (.address a) stop = none := by
        refine (restoreRefusal_ready ready (.address a) stop).trans ((if_neg (not_or.mpr ⟨addr, count⟩)).trans ?_)
        rw [eodOf_of_record record]
        cases eod : r.eod with
        | known x p n => exact if_neg (Nat.not_le.mpr (within x p n eod))
        | _ => rfl
      have runs := takeRestore_begins takes free tag offset
      unfold State.beginRestoreLocate startAddress at runs
      dsimp only at runs
      rw [boundOf_of_record record, mapOf_of_record (started ..), locateAddress_begins (started ..) cls] at runs
      exact ⟨runs, rfl⟩
    · have free : s.restoreRefusal t (.file f) stop = none := by
        refine (restoreRefusal_ready ready (.file f) stop).trans ((if_neg (not_or.mpr ⟨file, count⟩)).trans ?_)
        rw [eodOf_of_record record]
        cases eod : r.eod with
        | known x p n => exact if_neg (Nat.not_lt.mpr (within x p n eod))
        | _ => rfl
      have runs := takeRestore_begins takes free tag offset
      have to_file : State.beginRestoreLocate ((s.accept t tag 0x26).startJob t
          (.read { spec := .restore offset.toNat stop, x := 0, bound := s.boundOf t }) .locating .read) t (.file f) = _ :=
        locateFile_begins (running ..) (started ..) cls false f.toNat
      rw [show startAddress (.file f) = 0 from rfl, to_file, boundOf_of_record record] at runs
      exact ⟨runs, sought_toFile ..⟩

end Sys2Proof.Proofs
end

section
/-! PROOFS. The rules of a write job: gathering, the formatter's choice, the start of streaming (R91, R113, R120, R121). -/

open Sys2Proof Sys2Proof.Machine Sys2Proof.Claims

namespace Sys2Proof.Proofs

-- One declaration at a time: elaborated in parallel, the joined text needs more threads than the memory limit holds.
set_option Elab.async false

/-! ## Gathering that takes nothing -/

theorem writeJob_of_job {c : Tc} {w : WriteJob} (job : c.job = some (.write w)) : c.writeJob = some w := by
  unfold Tc.writeJob
  rw [job]

theorem readJob_of_job {c : Tc} {r : ReadJob} (job : c.job = some (.read r)) : c.readJob = some r := by
  unfold Tc.readJob
  rw [job]

theorem job_of_writeJob {c : Tc} {w : WriteJob} (h : c.writeJob = some w) : c.job = some (.write w) := by
  unfold Tc.writeJob at h
  split at h
  next v job => cases h; exact job
  next => cases h

theorem job_of_readJob {c : Tc} {r : ReadJob} (h : c.readJob = some r) : c.job = some (.read r) := by
  unfold Tc.readJob at h
  split at h
  next v job => cases h; exact job
  next => cases h

@[simp] theorem setCx_self (s : State) (t : Tr) : s.setCx t (s.cx t) = s := by cases t <;> rfl

theorem flush_of_none {p : Pump} (closed : p.cx.closed = none) (held : p.cx.held = none) : p.flush = p := by
  have block : p.flushBlock = p := by
    unfold Pump.flushBlock
    rw [closed]
  unfold Pump.flush Pump.flushItem
  rw [block, held]

theorem run_of_stuck {p : Pump} (stuck : p.step = none) : ∀ n, p.run n = p
  | 0 => rfl
  | n + 1 => by
    unfold Pump.run
    rw [stuck]

/-- A pump that can take nothing. -/
theorem gather_of_stuck {p : Pump} (closed : p.cx.closed = none) (held : p.cx.held = none) (stuck : p.step = none) :
    p.gather = p := by
  unfold Pump.gather
  rw [flush_of_none closed held, run_of_stuck stuck]

section
variable {s : State} {t : Tr} {w : WriteJob}

/-- Gathering in terms of the pump (R90, R91, R110). -/
theorem gather_eq (job : (s.tc t).job = some (.write w)) {p : Pump}
    (pumped : Pump.gather { cx := s.cx t, intake := (s.tc t).intake, blockQ := (s.tc t).blockQ } = p) :
    s.gather t =
      (if p.earned = 0 then fun v => v else fun v : State => v.earn t p.earned)
        ((s.setCx t p.cx).setTc t { s.tc t with
          intake := p.intake, blockQ := p.blockQ
          job := some (.write { w with rawAccepted := w.rawAccepted + p.accepted }) }) := by
  unfold State.gather
  rw [writeJob_of_job job]
  dsimp only
  rw [pumped, modWrite_of_write (by rw [State.setTc_tc]; exact job), State.setTc_tc, setTc_setTc]
  split <;> rfl

/-- Nothing is taken from an intake that is empty, or behind a complete slice (R90). -/
theorem gather_idle (job : (s.tc t).job = some (.write w)) (closed : (s.cx t).closed = none) (held : (s.cx t).held = none)
    (idle : (s.tc t).intake = [] ∨ (s.cx t).complete = true) : s.gather t = s := by
  have stuck : Pump.step { cx := s.cx t, intake := (s.tc t).intake, blockQ := (s.tc t).blockQ } = none := by
    unfold Pump.step
    split
    · rfl
    next incomplete =>
      rw [idle.resolve_right incomplete]
  rw [gather_eq job (gather_of_stuck closed held stuck)]
  have same : ∀ c : Tc, c.job = some (.write w) → { c with job := some (.write { w with rawAccepted := w.rawAccepted + 0 }) } = c :=
    fun c h => by
      cases c
      cases h
      rfl
  rw [if_pos rfl, setCx_self]
  exact (congrArg (s.setTc t) (same _ job)).trans (setTc_self s t)

end

/-! ## Handing a frame to the mechanism (R113, R125) -/

section
variable {s : State} {t : Tr} {w : WriteJob}

/-- The EARLY_WARNING that goes with a frame at a place (R125). -/
def warning (t : Tr) (w : WriteJob) (zone place : Nat) : List Notice :=
  if w.warned = false ∧ zone ≤ place then [.earlyWarning t place w.rawOnTape] else []

/-- The job with a frame handed to the mechanism (R113, R125). -/
def handed (w : WriteJob) (zone : Nat) (f : WFrame) : WriteJob :=
  { w with inProgress := some f, warned := w.warned || decide (zone ≤ f.hdr.frame) }

/-- A frame handed to the mechanism, with its warning (R113, R125). -/
theorem beginFrame_eq (job : (s.tc t).job = some (.write w)) (f : WFrame) :
    s.beginFrame t f =
      State.setTc { s with lnk := queued s.lnk (warning t w (s.warningAt t) f.hdr.frame) } t
        { s.tc t with job := some (.write (handed w (s.warningAt t) f)) } := by
  unfold State.beginFrame State.warn warning handed
  rw [writeJob_of_job job]
  dsimp only
  cases warned : w.warned with
  | true =>
    rw [if_neg (by simp), if_neg (by simp), modWrite_of_write job]
    cases t <;> simp [State.setTc, queued, warned]
  | false =>
    by_cases zone : s.warningAt t ≤ f.hdr.frame
    · rw [if_pos (by simp [zone]), if_pos ⟨rfl, zone⟩, modWrite_of_write job]
      have told : (((s.setTc t { s.tc t with job := some (.write { w with warned := true }) }).notify
          (.earlyWarning t f.hdr.frame w.rawOnTape)).tc t).job = some (.write { w with warned := true }) := by
        rw [State.notify, State.modLnk_tc, State.setTc_tc]
      rw [modWrite_of_write told, State.notify, State.modLnk_tc, State.setTc_tc]
      cases t <;> simp [State.setTc, State.modLnk, queued, zone]
    · rw [if_neg (by simp [zone]), if_neg (by simp [zone]), modWrite_of_write job]
      cases t <;> simp [State.setTc, queued, warned, zone]

end

/-! ## The choice (R113) -/

section
variable {s : State} {t : Tr} {w : WriteJob}

/-- The rewrite list goes first, away from the reserve zone (R113). -/
theorem chooseFrame_rewrite (job : (s.tc t).job = some (.write w)) {e : WEntry} {more : List WEntry}
    (rewrite : (s.tc t).rewrite = e :: more) {place : Nat} (free : place < s.reserveAt t) :
    s.chooseFrame t w place =
      State.setTc { s with lnk := queued s.lnk (warning t w (s.warningAt t) (e.frame place true).hdr.frame) } t
        { s.tc t with rewrite := more, job := some (.write (handed w (s.warningAt t) (e.frame place true))) } := by
  have begun := beginFrame_eq (s := s.setTc t { s.tc t with rewrite := more }) (t := t) (w := w)
    (by rw [State.setTc_tc]; exact job) (e.frame place true)
  unfold State.chooseFrame
  dsimp only
  rw [if_neg (by simp; omega), rewrite]
  refine begun.trans ?_
  cases t <;> rfl

/-- A drain writes FILLERs while DATA or MARK frames are in flight, and then the EOD frame (R121, R122). -/
theorem drainFrame_eq (job : (s.tc t).job = some (.write w)) (place : Nat) :
    s.drainFrame t place =
      State.setTc
        { s with lnk := queued s.lnk (warning t w (s.warningAt t)
            (w.plainFrame (if (s.tc t).blocksInFlight then .filler else .eod) place).hdr.frame) } t
        { s.tc t with job := some (.write (handed w (s.warningAt t)
            (w.plainFrame (if (s.tc t).blocksInFlight then .filler else .eod) place))) } := by
  unfold State.drainFrame
  rw [writeJob_of_job job]
  exact beginFrame_eq job _

theorem chooseFrame_drain (rewrite : (s.tc t).rewrite = []) (draining : (s.tc t).st = .draining) (place : Nat) :
    s.chooseFrame t w place = s.drainFrame t place := by
  unfold State.chooseFrame
  dsimp only
  rw [if_neg (by simp [rewrite, draining]), rewrite]
  exact if_pos draining

/-- The head of the block queue is written for the first time with the next address (R112, R113). -/
theorem chooseFrame_entry (job : (s.tc t).job = some (.write w)) (rewrite : (s.tc t).rewrite = [])
    (not_draining : (s.tc t).st ≠ .draining) {place : Nat} (free : place < s.reserveAt t) {b : Option Block}
    {q : List QEntry} (head : (s.tc t).blockQ = (match b with | some b => .block b | none => .mark) :: q)
    {e : WEntry} (entry : e = { block := b, addr := w.nextAddr, file := w.nextFile, rewrites := 0 }) :
    s.chooseFrame t w place =
      State.setTc { s with lnk := queued s.lnk (warning t w (s.warningAt t) (e.frame place false).hdr.frame) } t
        { s.tc t with
          blockQ := q
          job := some (.write { handed w (s.warningAt t) (e.frame place false) with
            nextAddr := w.nextAddr + 1, nextFile := if b.isNone then w.nextFile + 1 else w.nextFile }) } := by
  have chosen : s.chooseFrame t w place = s.firstWriting t w place b q := by
    unfold State.chooseFrame
    dsimp only
    rw [if_neg (by simp [rewrite]; omega), rewrite]
    dsimp only
    rw [if_neg not_draining, head]
    cases b <;> rfl
  have first : ((s.setTc t { s.tc t with blockQ := q }).tc t).job = some (.write w) := by
    rw [State.setTc_tc]
    exact job
  rw [chosen, entry]
  unfold State.firstWriting
  dsimp only
  rw [modTc_eq, modWrite_of_write first, State.setTc_tc, setTc_setTc,
    beginFrame_eq (w := { w with nextAddr := w.nextAddr + 1, nextFile := if b.isNone then w.nextFile + 1 else w.nextFile })
      (by rw [State.setTc_tc])]
  cases t <;> rfl

/-- At the CLOSE entry the drain begins (R113, R121). -/
theorem chooseFrame_close (rewrite : (s.tc t).rewrite = []) (not_draining : (s.tc t).st ≠ .draining) {place : Nat}
    (free : place < s.reserveAt t) {q : List QEntry} (head : (s.tc t).blockQ = .close :: q) :
    s.chooseFrame t w place = (s.modTc t fun c => ({ c with blockQ := q } : Tc).toDrain).drainFrame t place := by
  unfold State.chooseFrame
  dsimp only
  rw [if_neg (by simp [rewrite]; omega), rewrite]
  dsimp only
  rw [if_neg not_draining, head]

/-- No entry of a write job stands at the head of a block queue. -/
def NoEntry (q : List QEntry) : Prop :=
  (∀ b rest, q ≠ .block b :: rest) ∧ (∀ rest, q ≠ .mark :: rest) ∧ ∀ rest, q ≠ .close :: rest

/-- With nothing left to write a FILLER is written, or the transport hitches (R113, R119, R120). -/
theorem chooseFrame_empty (rewrite : (s.tc t).rewrite = []) (not_draining : (s.tc t).st ≠ .draining) {place : Nat}
    (free : place < s.reserveAt t) (queue : NoEntry (s.tc t).blockQ) :
    s.chooseFrame t w place =
      if w.fillers < w.fillerLimit ∨ (s.tc t).blocksInFlight then s.beginFrame t (w.plainFrame .filler place)
      else s.writeHitch t := by
  obtain ⟨no_block, no_mark, no_close⟩ := queue
  unfold State.chooseFrame
  dsimp only
  rw [if_neg (by simp [rewrite]; omega), rewrite]
  dsimp only
  rw [if_neg not_draining]
  split
  next head => exact absurd head (no_block _ _)
  next head => exact absurd head (no_mark _)
  next head => exact absurd head (no_close _)
  next => rfl

/-- A choice in the reserve zone gives everything up and drains (R113, R126). -/
theorem chooseFrame_reserve {place : Nat} (reserve : s.reserveAt t ≤ place)
    (open_ : (s.tc t).st ≠ .draining ∨ (s.tc t).rewrite ≠ []) :
    s.chooseFrame t w place = (s.giveUp t .endOfMedia (s.tc t).rewrite).drainFrame t place := by
  unfold State.chooseFrame
  exact if_pos (by simpa [reserve] using open_)

theorem finishQueued_self {c : Tc} (h : ∀ w, c.job = some (.write w) → w.abort = .finishQueued → c.blockQ = [] →
    w.inProgress = none → c.st ≠ .writing) : c.finishQueued = c := by
  unfold Tc.finishQueued
  split
  next w job =>
    split
    next queued =>
      obtain ⟨abort, queue, idle⟩ := queued
      exact if_neg (h w (job_of_writeJob job) abort queue idle)
    next => rfl
  next => rfl

/-- The formatter chooses where it may (R113). -/
theorem choose_eq (job : (s.tc t).job = some (.write w)) {place : Nat} (pos : (s.tc t).pos = some place)
    (steady : (s.tc t).finishQueued = s.tc t) :
    s.choose t = if (s.tc t).mayChoose w place then s.chooseFrame t w place else s := by
  unfold State.choose
  dsimp only
  rw [modTc_eq, steady, setTc_self, writeJob_of_job job, pos]

/-- While a frame is being written, or the tape does not stream, no frame is chosen (R113). -/
theorem choose_of_not (steady : (s.tc t).finishQueued = s.tc t)
    (not : ∀ w place, (s.tc t).job = some (.write w) → (s.tc t).pos = some place → (s.tc t).mayChoose w place = false) :
    s.choose t = s := by
  unfold State.choose
  dsimp only
  rw [modTc_eq, steady, setTc_self]
  split
  next w place job pos => rw [not w place (job_of_writeJob job) pos, if_neg Bool.false_ne_true]
  next => rfl

theorem mayChoose_iff (c : Tc) (w : WriteJob) (place : Nat) :
    c.mayChoose w place = true ↔
      (c.st = .writing ∨ c.st = .draining) ∧ w.inProgress = none ∧
        ∀ f ∈ c.inflight, place < f.hdr.frame + 4 ∧ f.hdr.kind ≠ 5 := by
  unfold Tc.mayChoose WFrame.isKind
  have eod : FrameKind.byte .eod = 5 := rfl
  simp [eod, and_assoc]

end

theorem reserveAt_of_record {s : State} {t : Tr} {r : CartRecord} {c : CartClass} (record : s.mtb.get (.bay t) = some r)
    (cls : r.cls = some c) : s.reserveAt t = Config.capacity c - 16 := by
  unfold State.reserveAt
  rw [frames_of_record record cls]
  rfl

theorem warningAt_of_record {s : State} {t : Tr} {r : CartRecord} {c : CartClass} (record : s.mtb.get (.bay t) = some r)
    (cls : r.cls = some c) : s.warningAt t = Config.capacity c - 2048 := by
  unfold State.warningAt
  rw [frames_of_record record cls]
  rfl

/-! ## Streaming starts (R120, R121, R135) -/

theorem writeResumes_iff (c : Tc) (w : WriteJob) :
    c.writeResumes w = true ↔
      c.st = .waiting ∧ w.start ≠ none ∧ (Resumes c c.blockQ ∨ w.abort ≠ .none ∨ w.verdict ≠ none) := by
  unfold Tc.writeResumes Resumes
  simp only [Bool.and_eq_true, decide_eq_true_eq, Bool.or_eq_true, List.contains_iff_mem, Option.isSome_iff_ne_none, or_assoc, and_assoc]

theorem writeResume_of_not {s : State} {t : Tr} (h : ∀ w, (s.tc t).job = some (.write w) → (s.tc t).st = .waiting →
    w.start ≠ none → ¬ Resumes (s.tc t) (s.tc t).blockQ ∧ w.abort = .none ∧ w.verdict = none) : s.writeResume t = s := by
  unfold State.writeResume
  split
  next w job =>
    refine if_neg fun resumes => ?_
    obtain ⟨st, start, why⟩ := (writeResumes_iff _ _).mp resumes
    obtain ⟨not_resumes, abort, verdict⟩ := h w (job_of_writeJob job) st start
    obtain h | h | h := why
    · exact not_resumes h
    · exact h abort
    · exact h verdict
  next => rfl

theorem resumeState_empty {c : Tc} {w : WriteJob} (queue : c.blockQ = []) (ends : w.abort ≠ .none ∨ w.verdict ≠ none) :
    c.resumeState w = .draining := by
  unfold Tc.resumeState
  rw [queue]
  refine if_pos ?_
  cases abort : w.abort with
  | none => simpa [abort, Option.isSome_iff_ne_none] using ends
  | _ => simp

theorem resumeState_more {c : Tc} {w : WriteJob} (queue : c.blockQ ≠ []) (abort : w.abort ≠ .immediate)
    (verdict : w.verdict = none) : c.resumeState w = .writing := by
  unfold Tc.resumeState
  refine if_neg ?_
  simp [verdict, abort, queue]

theorem toDrain_writing {c : Tc} (writing : c.st = .writing) : c.toDrain = { c with st := .draining } := by
  unfold Tc.toDrain Tc.goto
  rw [if_pos writing, writing]
  rfl

/-- Nothing in flight, in a job that may choose: what its choice looks at (R113). -/
theorem mayChoose_still {c : Tc} {w : WriteJob} (st : c.st = .writing ∨ c.st = .draining) (idle : w.inProgress = none)
    (flight : c.inflight = []) (place : Nat) : c.mayChoose w place = true := by
  rw [mayChoose_iff, flight]
  exact ⟨st, idle, fun f hf => nomatch hf⟩

/-- What a write job does first when it starts to stream from a stand (R112, R113, R120, R121). -/
theorem streams_first {s : State} {t : Tr} {w : WriteJob} {place : Nat} (job : (s.tc t).job = some (.write w))
    (still : WriteStill s t w place) (entries : WriteEntries (s.tc t).blockQ)
    (empty : (s.tc t).blockQ = [] → w.abort ≠ .none ∨ w.verdict ≠ none)
    (more : (s.tc t).blockQ ≠ [] → w.abort ≠ .immediate ∧ w.verdict = none) :
    WriteStreams s ((s.modTc t fun c => c.stream (c.resumeState w)).choose t) t w (s.tc t).blockQ place ∧
      ((s.modTc t fun c => c.stream (c.resumeState w)).choose t).cx t = s.cx t := by
  obtain ⟨-, idle, flight, rewrite, intake, -, -, pos, r, c, record, cls, free⟩ := still
  obtain ⟨R, hR⟩ : ∃ R, (s.tc t).resumeState w = R := ⟨_, rfl⟩
  obtain ⟨v, hv⟩ : ∃ v, s.modTc t (fun c => c.stream (c.resumeState w)) = v := ⟨_, rfl⟩
  have tc : v.tc t = { s.tc t with st := R, gov := started (s.tc t).gov } := by
    rw [← hv, State.modTc_tc, hR]
    rfl
  have mtb : v.mtb = s.mtb := by rw [← hv, State.modTc_mtb]
  have chg : v.chg = s.chg := by rw [← hv, State.modTc_chg]
  have cx : v.cx t = s.cx t := by rw [← hv, State.modTc_cx]
  have running : (v.tc t).job = some (.write w) := by rw [tc]; exact job
  have at_ : (v.tc t).pos = some place := by rw [tc]; exact pos
  have none_again : (v.tc t).rewrite = [] := by rw [tc]; exact rewrite
  have reserve : place < v.reserveAt t := by
    rw [reserveAt_of_record (by rw [mtb]; exact record) cls]
    exact free
  have may : R = .writing ∨ R = .draining → (v.tc t).mayChoose w place = true := fun st =>
    mayChoose_still (by rw [tc]; exact st) idle (by rw [tc]; exact flight) place
  rw [hv]
  unfold WriteStreams
  cases queue : (s.tc t).blockQ with
  | nil =>
    have draining : R = .draining := hR.symm.trans (resumeState_empty queue (empty queue))
    have steady : (v.tc t).finishQueued = v.tc t := finishQueued_self fun _ _ _ _ _ => by
      rw [tc, draining]
      exact nofun
    have no_blocks : (v.tc t).blocksInFlight = false := by
      unfold Tc.blocksInFlight
      rw [tc, flight]
      rfl
    rw [choose_eq running at_ steady, if_pos (may (.inr draining)), chooseFrame_drain none_again (by rw [tc]; exact draining),
      drainFrame_eq running, no_blocks, State.setTc_tc, State.setTc_mtb, State.setTc_chg, State.setTc_cx, tc]
    refine ⟨⟨pos, flight, intake, queue, rfl, mtb, chg, handed w (v.warningAt t) (w.plainFrame .eod place), w.plainFrame .eod place,
      rfl, rfl, rfl, rfl, rfl, rfl, draining, rfl, rfl, rfl, rfl⟩, cx⟩
  | cons e q =>
    obtain ⟨abort, verdict⟩ := more (by rw [queue]; exact List.cons_ne_nil e q)
    have writing : R = .writing := hR.symm.trans (resumeState_more (by rw [queue]; exact List.cons_ne_nil e q) abort verdict)
    have not_draining : (v.tc t).st ≠ .draining := by
      rw [tc, writing]
      exact nofun
    have head : (v.tc t).blockQ = e :: q := by rw [tc]; exact queue
    have steady : (v.tc t).finishQueued = v.tc t := finishQueued_self fun _ _ _ none_left _ => by
      rw [head] at none_left
      cases none_left
    rw [choose_eq running at_ steady, if_pos (may (.inl writing))]
    obtain ⟨b, rfl⟩ | rfl | rfl := entries e (by rw [queue]; exact List.mem_cons_self ..)
    · rw [chooseFrame_entry running none_again not_draining reserve (b := some b) head rfl, State.setTc_tc, State.setTc_mtb,
        State.setTc_chg, State.setTc_cx, tc]
      refine ⟨⟨pos, flight, intake, rfl, rfl, mtb, chg, _, _, rfl, rfl, rfl, rfl, rfl, rfl, writing, rfl, rfl, rfl, rfl, rfl, rfl⟩, cx⟩
    · rw [chooseFrame_entry running none_again not_draining reserve (b := none) head rfl, State.setTc_tc, State.setTc_mtb,
        State.setTc_chg, State.setTc_cx, tc]
      refine ⟨⟨pos, flight, intake, rfl, rfl, mtb, chg, _, _, rfl, rfl, rfl, rfl, rfl, rfl, writing, rfl, rfl, rfl, rfl⟩, cx⟩
    · obtain ⟨d, hd⟩ : ∃ d, v.setTc t { v.tc t with st := .draining, blockQ := q } = d := ⟨_, rfl⟩
      have drains : v.modTc t (fun c => ({ c with blockQ := q } : Tc).toDrain) = d := by
        rw [modTc_eq, toDrain_writing (show ({ v.tc t with blockQ := q } : Tc).st = .writing by rw [tc]; exact writing), ← hd]
      have dtc : d.tc t = { s.tc t with st := .draining, gov := started (s.tc t).gov, blockQ := q } := by
        rw [← hd, State.setTc_tc, tc]
      have no_blocks : (d.tc t).blocksInFlight = false := by
        unfold Tc.blocksInFlight
        rw [dtc, flight]
        rfl
      have dmtb : d.mtb = s.mtb := by rw [← hd, State.setTc_mtb, mtb]
      have dchg : d.chg = s.chg := by rw [← hd, State.setTc_chg, chg]
      have dcx : d.cx t = s.cx t := by rw [← hd, State.setTc_cx, cx]
      rw [chooseFrame_close none_again not_draining reserve head, drains, drainFrame_eq (by rw [dtc]; exact job), no_blocks,
        State.setTc_tc, State.setTc_mtb, State.setTc_chg, State.setTc_cx, dtc]
      exact ⟨⟨pos, flight, intake, rfl, rfl, dmtb, dchg, handed w (d.warningAt t) (w.plainFrame .eod place),
        w.plainFrame .eod place, rfl, rfl, rfl, rfl, rfl, rfl, rfl, rfl, rfl, rfl, rfl⟩, dcx⟩

/-- The whole of what follows at a write job whose condition to resume holds in a stand (R113, R120, R135). -/
theorem writePump_streams {s : State} {t : Tr} {w : WriteJob} {place : Nat} (job : (s.tc t).job = some (.write w))
    (waiting : (s.tc t).st = .waiting) (still : WriteStill s t w place) (entries : WriteEntries (s.tc t).blockQ)
    (empty : (s.tc t).blockQ = [] → w.abort ≠ .none ∨ w.verdict ≠ none)
    (more : (s.tc t).blockQ ≠ [] → w.abort ≠ .immediate ∧ w.verdict = none)
    (resumes : Resumes (s.tc t) (s.tc t).blockQ ∨ w.abort ≠ .none ∨ w.verdict ≠ none) :
    WriteStreams s (s.writePump t) t w (s.tc t).blockQ place ∧ (s.writePump t).cx t = s.cx t := by
  have ⟨start, _, _, _, intake, closed, held, _, _⟩ := still
  obtain ⟨streams, cx⟩ := streams_first job still entries empty more
  have first : s.writeResume t = (s.modTc t fun c => c.stream (c.resumeState w)).choose t := by
    unfold State.writeResume
    rw [writeJob_of_job job]
    exact if_pos ((writeResumes_iff _ _).mpr ⟨waiting, start, resumes⟩)
  obtain ⟨u, hu⟩ : ∃ u, (s.modTc t fun c => c.stream (c.resumeState w)).choose t = u := ⟨_, rfl⟩
  unfold State.writePump
  rw [gather_idle job closed held (.inl intake), first]
  rw [hu] at streams cx ⊢
  have ⟨_, _, taken, _, _, _, _, w', _, running, _⟩ := streams
  rw [gather_idle running (by rw [cx]; exact closed) (by rw [cx]; exact held) (.inl taken)]
  exact ⟨streams, cx⟩

/-- Nothing follows at a write job that can take nothing and whose condition to resume does not hold. -/
theorem writePump_idle {s : State} {t : Tr} {w : WriteJob} (job : (s.tc t).job = some (.write w))
    (closed : (s.cx t).closed = none) (held : (s.cx t).held = none)
    (idle : (s.tc t).intake = [] ∨ (s.cx t).complete = true)
    (stays : (s.tc t).st = .waiting → w.start ≠ none →
      ¬ Resumes (s.tc t) (s.tc t).blockQ ∧ w.abort = .none ∧ w.verdict = none) : s.writePump t = s := by
  unfold State.writePump
  rw [gather_idle job closed held idle, writeResume_of_not, gather_idle job closed held idle]
  intro v running st start
  rw [job] at running
  cases running
  exact stays st start

end Sys2Proof.Proofs
end

section
/-! PROOFS. The rules of a read job: what follows when its queues or settings have changed; hitches and APPLY (R120, R131,
R132, R135, R140 to R142). -/

open Sys2Proof Sys2Proof.Machine Sys2Proof.Claims

namespace Sys2Proof.Proofs

-- One declaration at a time: elaborated in parallel, the joined text needs more threads than the memory limit holds.
set_option Elab.async false

/-! ## The parts of the read pump (R141, R149, R152, R156 to R158, R161) -/

/-- No mark and no gap stands at the head of a block queue (R149, R157). -/
def HeadPlain (q : List QEntry) : Prop := q = [] ∨ ∃ i b rest, q = .readBlock i b [] :: rest

theorem takeHeads_plain {q : List QEntry} (h : HeadPlain q) (restore : Bool) (d : List DItem) :
    Machine.takeHeads restore q d = (q, d) := by
  obtain rfl | ⟨i, b, rest, rfl⟩ := h
  · rfl
  · exact congrArg (Prod.mk _) (List.append_nil d)

section
variable {s : State} {t : Tr} {r : ReadJob}

theorem takeHeads_eq (job : (s.tc t).job = some (.read r)) :
    s.takeHeads t = s.setTc t { s.tc t with
      blockQ := (Machine.takeHeads r.isRestore (s.tc t).blockQ (s.tc t).delivery).1
      delivery := (Machine.takeHeads r.isRestore (s.tc t).blockQ (s.tc t).delivery).2 } := by
  unfold State.takeHeads
  rw [readJob_of_job job]
  rfl

theorem takeHeads_self (job : (s.tc t).job = some (.read r)) (plain : HeadPlain (s.tc t).blockQ) : s.takeHeads t = s := by
  rw [takeHeads_eq job, takeHeads_plain plain, setTc_self]

theorem lastGaps_self (job : (s.tc t).job = some (.read r))
    (no_gap : r.ended = none ∨ (s.tc t).blockQ ≠ [] ∨ r.pendingGaps = []) : s.lastGaps t = s := by
  unfold State.lastGaps
  rw [readJob_of_job job]
  dsimp only
  split
  next ends =>
    obtain ⟨ended, queue⟩ := ends
    have none_left : r.pendingGaps = [] := by
      obtain h | h | h := no_gap
      · rw [h] at ended
        cases ended
      · exact absurd queue h
      · exact h
    rw [none_left, modTc_eq, modRead_of_read (by rw [State.setTc_tc]; exact job), State.setTc_tc, setTc_setTc]
    have same : ∀ c : Tc, c.job = some (.read r) →
        { c with delivery := c.delivery ++ List.map DItem.gap [], job := some (.read { r with pendingGaps := [] }) } = c := by
      intro c h
      cases c
      cases h
      cases r
      cases none_left
      simp
    exact (congrArg (s.setTc t) (same _ job)).trans (setTc_self s t)
  next => rfl

theorem readResume_eq (job : (s.tc t).job = some (.read r)) :
    s.readResume t =
      if (s.tc t).st = .waiting ∧ r.ended = none ∧ (s.tc t).blockQ.length ≤ (s.tc t).gov.active.resume then
        s.setTc t { s.tc t with st := .reading, gov := started (s.tc t).gov }
      else s := by
  unfold State.readResume
  rw [readJob_of_job job]
  rfl

theorem compare_self (job : (s.tc t).job = some (.read r)) (no_compare : r.isCompare = false) : s.compare t = s := by
  unfold State.compare
  rw [readJob_of_job job]
  exact if_neg (by simp [no_compare])

theorem shortEnd_self (job : (s.tc t).job = some (.read r)) (short : r.short = none) : s.shortEnd t = s := by
  unfold State.shortEnd
  rw [readJob_of_job job]
  exact if_neg (by simp [short])

theorem readEndTest_self (job : (s.tc t).job = some (.read r))
    (goes_on : r.ended = none ∨ (s.tc t).blockQ ≠ [] ∨ s.opOf t = true) : s.readEndTest t = s := by
  unfold State.readEndTest
  rw [readJob_of_job job]
  refine if_neg fun ends => ?_
  obtain ⟨ended, queue, free⟩ := ends
  obtain h | h | h := goes_on
  · rw [h] at ended
    cases ended
  · exact h queue
  · rw [h] at free
    cases free

/-- What follows at a reading that has not ended and compares nothing: it may resume (R141). -/
theorem readPump_running (job : (s.tc t).job = some (.read r)) (plain : HeadPlain (s.tc t).blockQ)
    (running : r.ended = none) (no_compare : r.isCompare = false) (short : r.short = none) :
    s.readPump t =
      if (s.tc t).st = .waiting ∧ (s.tc t).blockQ.length ≤ (s.tc t).gov.active.resume then
        s.setTc t { s.tc t with st := .reading, gov := started (s.tc t).gov }
      else s := by
  unfold State.readPump
  rw [takeHeads_self job plain, lastGaps_self job (.inl running), readResume_eq job]
  simp only [running, true_and]
  split
  · have job' : ((s.setTc t { s.tc t with st := .reading, gov := started (s.tc t).gov }).tc t).job = some (.read r) := by
      rw [State.setTc_tc]
      exact job
    rw [compare_self job' no_compare, shortEnd_self job' short, readEndTest_self job' (.inl running)]
  · rw [compare_self job no_compare, shortEnd_self job short, readEndTest_self job (.inl running)]

end

/-! ## The end of a hitch (O57) -/

theorem waiting_of_hitch {s : State} {t : Tr} (hitch : (s.tc t).st = .hitch) :
    s.modTc t (fun c => c.goto .waiting) = s.setTc t { s.tc t with st := .waiting } := by
  rw [modTc_eq, goto_of_still _ (by rw [hitch]; rfl)]

theorem writeStill_of_tc {s v : State} {t : Tr} {w : WriteJob} {place : Nat} (still : WriteStill s t w place)
    (flight : (v.tc t).inflight = (s.tc t).inflight) (rewrite : (v.tc t).rewrite = (s.tc t).rewrite)
    (intake : (v.tc t).intake = (s.tc t).intake) (pos : (v.tc t).pos = (s.tc t).pos) (cx : v.cx t = s.cx t)
    (mtb : v.mtb = s.mtb) : WriteStill v t w place := by
  unfold WriteStill
  rw [flight, rewrite, intake, pos, cx, mtb]
  exact still

theorem writeStreams_of_gov {s v u : State} {t : Tr} {w : WriteJob} {q : List QEntry} {place : Nat}
    (streams : WriteStreams v u t w q place) (gov : (v.tc t).gov = (s.tc t).gov) (mtb : v.mtb = s.mtb) (chg : v.chg = s.chg) :
    WriteStreams s u t w q place := by
  unfold WriteStreams at streams ⊢
  rw [gov, mtb, chg] at streams
  exact streams

/-- The end of a write-side hitch (R120). -/
theorem writeHitched_runs {s : State} {t : Tr} {w : WriteJob} (hitch : (s.tc t).st = .hitch)
    (job : (s.tc t).job = some (.write w)) :
    Runs (.hitchComplete t) s ((s.setTc t { s.tc t with st := .waiting }).writePump t) := by
  refine runs_of_eq (v := s.hitched t) rfl ?_
  unfold State.hitched
  rw [job]
  show s.writeHitched t = _
  unfold State.writeHitched
  rw [if_pos hitch, waiting_of_hitch hitch]

theorem readHitched_runs {s : State} {t : Tr} {r : ReadJob} (hitch : (s.tc t).st = .hitch)
    (job : (s.tc t).job = some (.read r)) :
    Runs (.hitchComplete t) s ((s.setTc t { s.tc t with st := .waiting }).readPump t) := by
  refine runs_of_eq (v := s.hitched t) rfl ?_
  unfold State.hitched
  rw [job]
  show s.readHitched t = _
  unfold State.readHitched
  rw [if_pos hitch, waiting_of_hitch hitch]

/-- Settles O57: a write job and a read job, each with and without its condition to resume. -/
theorem hitchEndsInWaitingOrStreaming : Obligations.HitchEndsInWaitingOrStreaming := by
  unfold Obligations.HitchEndsInWaitingOrStreaming
  intro s t hitch
  obtain ⟨v, hv⟩ : ∃ v, s.setTc t { s.tc t with st := .waiting } = v := ⟨_, rfl⟩
  have tc : v.tc t = { s.tc t with st := .waiting } := by rw [← hv, State.setTc_tc]
  have cx : v.cx t = s.cx t := by rw [← hv, State.setTc_cx]
  have mtb : v.mtb = s.mtb := by rw [← hv, State.setTc_mtb]
  have chg : v.chg = s.chg := by rw [← hv, State.setTc_chg]
  have waiting : (v.tc t).st = .waiting := by rw [tc]
  have queue : (v.tc t).blockQ = (s.tc t).blockQ := by rw [tc]
  have still : ∀ {w place}, WriteStill s t w place → WriteStill v t w place := fun h =>
    writeStill_of_tc h (by rw [tc]) (by rw [tc]) (by rw [tc]) (by rw [tc]) cx mtb
  have same : ∀ q, Resumes (v.tc t) q ↔ Resumes (s.tc t) q := fun q => by rw [tc]; rfl
  refine ⟨fun w job intake closed held abort verdict => ⟨fun stays => ?_, fun place stand entries some_left resumes => ?_⟩,
    fun w place job stand none_left ends => ?_, fun r i b q job no_compare running short head => ⟨fun full => ?_, fun room => ?_⟩⟩
  · have runs := writeHitched_runs hitch job
    rw [hv] at runs ⊢
    rw [writePump_idle (w := w) (by rw [tc]; exact job) (by rw [cx]; exact closed) (by rw [cx]; exact held)
      (.inl (by rw [tc]; exact intake)) fun _ start => ⟨?_, abort, verdict⟩] at runs
    · exact runs
    · rw [same, queue]
      exact stays.resolve_left start
  · have runs := writeHitched_runs hitch job
    rw [hv] at runs
    have ⟨streams, _⟩ := writePump_streams (s := v) (t := t) (w := w) (by rw [tc]; exact job) waiting (still stand)
      (by rw [queue]; exact entries) (fun h => absurd (queue ▸ h) some_left) (fun _ => ⟨by simp [abort], verdict⟩)
      (.inl (by rw [same, queue]; exact resumes))
    rw [queue] at streams
    exact ⟨_, runs, writeStreams_of_gov streams (by rw [tc]) mtb chg⟩
  · have runs := writeHitched_runs hitch job
    rw [hv] at runs
    have ⟨streams, _⟩ := writePump_streams (s := v) (t := t) (w := w) (by rw [tc]; exact job) waiting (still stand)
      (by rw [queue, none_left]; exact fun _ h => nomatch h) (fun _ => ends)
      (fun h => absurd (queue.trans none_left) h) (.inr ends)
    rw [queue, none_left] at streams
    exact ⟨_, runs, writeStreams_of_gov streams (by rw [tc]) mtb chg⟩
  all_goals
    have runs := readHitched_runs hitch job
    rw [readPump_running (r := r) (by rw [State.setTc_tc]; exact job)
      (by rw [State.setTc_tc]; exact .inr ⟨i, b, q, head⟩) running no_compare short, State.setTc_tc, setTc_setTc] at runs
  · rw [if_neg (by simp; omega)] at runs
    exact runs
  · rw [if_pos ⟨rfl, room⟩] at runs
    exact runs

end Sys2Proof.Proofs
end

section
/-! PROOFS. What the formatter's choice and the gathering of a write job can do (R91, R113, R120, R126). -/

open Sys2Proof Sys2Proof.Machine Sys2Proof.Claims

namespace Sys2Proof.Proofs

-- One declaration at a time: elaborated in parallel, the joined text needs more threads than the memory limit holds.
set_option Elab.async false

/-! ## Notices of other kinds (R176) -/

def isWatch : Notice → Bool
  | .watchReached _ _ _ _ _ _ => true
  | _ => false

theorem watches_eq (l : Lnk) : watches l = l.notices.filter isWatch := by
  unfold watches
  refine List.filter_congr fun n _ => ?_
  cases n <;> rfl

theorem noCredit_isWatch : NoCredit isWatch := fun _ _ => rfl

/-- The notice queue is full, with no more than one CREDIT of t in it (R108, R176). -/
def FullBut (t : Tr) (l : Lnk) : Prop := 32 ≤ l.notices.length ∧ (l.notices.filter (Notice.isCredit t)).length ≤ 1

/-- The notice queue with other notices than WATCH_REACHED and JOB_END joined or lost. -/
structure Grew (l l' : Lnk) : Prop where
  full : ∀ t, FullBut t l → FullBut t l'
  watches : watches l' = watches l
  ends : jobEnds l' = jobEnds l
  lost : l.lost = true → l'.lost = true
  length : l.notices.length ≤ l'.notices.length

theorem Grew.refl (l : Lnk) : Grew l l := ⟨fun _ => id, rfl, rfl, id, Nat.le_refl _⟩

theorem Grew.trans {l m n : Lnk} (h : Grew l m) (h' : Grew m n) : Grew l n :=
  ⟨fun t => h'.full t ∘ h.full t, h'.watches.trans h.watches, h'.ends.trans h.ends, h'.lost ∘ h.lost, Nat.le_trans h.length h'.length⟩

theorem grew_push {n : Notice} (watch : isWatch n = false) (ends : isJobEnd n = false) (l : Lnk) : Grew l (l.pushNotice n) := by
  obtain ⟨room, e⟩ | ⟨-, e⟩ := l.pushNotice_cases n
  all_goals rw [e]
  · refine ⟨fun _ h => absurd h.1 (by omega), ?_, ?_, id, by simp⟩
    · rw [watches_eq, watches_eq, List.filter_append, List.filter_cons, List.filter_nil, watch]
      exact List.append_nil _
    · rw [jobEnds_eq, jobEnds_eq, List.filter_append, List.filter_cons, List.filter_nil, ends]
      exact List.append_nil _
  · exact ⟨fun _ => id, rfl, rfl, fun _ => rfl, Nat.le_refl _⟩

theorem isCredit_addCredit (t u : Tr) (n : Nat) (x : Notice) : (Notice.addCredit u n x).isCredit t = x.isCredit t := by
  cases x with
  | credit v k =>
    rw [addCredit_credit]
    rfl
  | _ => rfl

theorem grew_formCredit (s : State) (t : Tr) : Grew s.lnk (s.formCredit t).lnk := by
  refine ⟨fun u full => ?_, ?_, ?_, fun h => ?_, ?_⟩
  · obtain ⟨g, q, l, -, e, -, same | raised | ⟨-, room⟩⟩ := formCredit_eq s t
    all_goals unfold FullBut
    · rw [e, State.setTc_lnk]
      dsimp only
      rw [same]
      exact full
    · rw [e, State.setTc_lnk]
      dsimp only
      rw [raised, List.length_map, List.filter_map, List.length_map]
      have same : (Notice.isCredit u ∘ Notice.addCredit t (s.tc t).pendingCredits) = Notice.isCredit u :=
        funext fun x => isCredit_addCredit u t _ x
      rw [same]
      exact full
    · exact absurd full.1 (by omega)
  · rw [watches_eq, watches_eq, formCredit_filter noCredit_isWatch]
  · rw [jobEnds_eq, jobEnds_eq, formCredit_filter noCredit_isJobEnd]
  · rw [formCredit_lost, h]
  · obtain ⟨g, q, l, -, e, -, same | raised | ⟨formed, -⟩⟩ := formCredit_eq s t
    all_goals rw [e, State.setTc_lnk]; dsimp only
    · exact Nat.le_of_eq (by rw [same])
    · exact Nat.le_of_eq (by rw [raised, List.length_map])
    · rw [formed, List.length_append]
      omega

theorem grew_warning (l : Lnk) (t : Tr) (w : WriteJob) (zone place : Nat) : Grew l (queued l (warning t w zone place)) := by
  unfold warning
  split
  · exact grew_push rfl rfl l
  · exact Grew.refl l

/-- Credits earned: their sum, in the controller alone (R108). -/
theorem earn_eq (s : State) (t : Tr) (n : Nat) :
    ∃ g p l, g + p = (s.tc t).granted + (s.tc t).pendingCredits + n ∧
      s.earn t n = State.setTc { s with lnk := l } t { s.tc t with granted := g, pendingCredits := p } ∧ Grew s.lnk l := by
  have grew := grew_formCredit (s.setTc t { s.tc t with pendingCredits := (s.tc t).pendingCredits + n }) t
  obtain ⟨g, p, l, sum, e, -, -⟩ :=
    formCredit_eq (s.setTc t { s.tc t with pendingCredits := (s.tc t).pendingCredits + n }) t
  rw [e, State.setTc_lnk, State.setTc_lnk] at grew
  rw [State.setTc_tc] at sum e
  refine ⟨g, p, l, by dsimp only at sum; omega, ?_, grew⟩
  unfold State.earn
  rw [modTc_eq, e]
  cases t <;> rfl

/-! ## Gathering (R90, R91, R110) -/

/-- What a gathering can change: the queues, the credits and the count of the job, and the context. -/
structure Gathered (t : Tr) (s u : State) (w : WriteJob) : Prop where
  tc : ∃ intake blockQ accepted granted pending, u.tc t = { s.tc t with
    intake := intake, blockQ := blockQ, granted := granted, pendingCredits := pending
    job := some (.write { w with rawAccepted := accepted }) }
  lnk : Grew s.lnk u.lnk
  mtb : u.mtb = s.mtb
  chg : u.chg = s.chg

theorem gather_gathered {s : State} {t : Tr} {w : WriteJob} (job : (s.tc t).job = some (.write w)) :
    Gathered t s (s.gather t) w := by
  obtain ⟨p, hp⟩ : ∃ p, Pump.gather { cx := s.cx t, intake := (s.tc t).intake, blockQ := (s.tc t).blockQ } = p := ⟨_, rfl⟩
  rw [gather_eq job hp]
  split
  · exact ⟨⟨p.intake, p.blockQ, w.rawAccepted + p.accepted, (s.tc t).granted, (s.tc t).pendingCredits, by rw [State.setTc_tc]⟩,
      by rw [State.setTc_lnk, State.setCx_lnk]; exact Grew.refl _, by rw [State.setTc_mtb, State.setCx_mtb],
      by rw [State.setTc_chg, State.setCx_chg]⟩
  · obtain ⟨g, q, l, -, e, grew⟩ := earn_eq ((s.setCx t p.cx).setTc t { s.tc t with
      intake := p.intake, blockQ := p.blockQ, job := some (.write { w with rawAccepted := w.rawAccepted + p.accepted }) }) t p.earned
    rw [State.setTc_lnk, State.setCx_lnk] at grew
    show Gathered t s (State.earn _ t p.earned) w
    rw [e, State.setTc_tc]
    refine ⟨⟨p.intake, p.blockQ, w.rawAccepted + p.accepted, g, q, by rw [State.setTc_tc]⟩, ?_, ?_, ?_⟩
    · rw [State.setTc_lnk]
      exact grew
    · rw [State.setTc_mtb]
      dsimp only
      rw [State.setTc_mtb, State.setCx_mtb]
    · rw [State.setTc_chg]
      dsimp only
      rw [State.setTc_chg, State.setCx_chg]

theorem gather_no_write {s : State} {t : Tr} (none_there : (s.tc t).writeJob = none) : s.gather t = s := by
  unfold State.gather
  rw [none_there]

/-! ## Giving up (R110, R117, R124, R126) -/

section
variable {s : State} {t : Tr} {w : WriteJob}

/-- What a discarding leaves, with the block queue kept or not (R110, R124). -/
theorem discardWork_eq (job : (s.tc t).job = some (.write w)) (keep : Bool) :
    s.discardWork t keep =
      (s.clearCtx t .write).setTc t { s.tc t with
        intake := []
        blockQ := if keep then (s.tc t).blockQ else []
        job := some (.write { w with rawDiscarded :=
          w.rawDiscarded + (intakeRaw (s.tc t).intake + (s.cx t).raw +
            if keep then 0 else ((s.tc t).blockQ.map QEntry.raw).sum) }) } := by
  unfold State.discardWork
  dsimp only
  rw [modTc_eq, clearCtx_tc, modWrite_of_write (by rw [State.setTc_tc]; exact job), State.setTc_tc, setTc_setTc]

/-- The job that has given up entries with a decision (R117, R126). -/
def gaveUp (s : State) (t : Tr) (w : WriteJob) (v : JobResult) (given : List WEntry) : WriteJob :=
  { w with
    verdict := some (w.verdict.getD v)
    blocksLost := w.blocksLost + given.length
    rawDiscarded := w.rawDiscarded + (intakeRaw (s.tc t).intake + (s.cx t).raw + ((s.tc t).blockQ.map QEntry.raw).sum) +
      (given.map WEntry.raw).sum
    nextAddr := match given with | e :: _ => e.addr | [] => w.nextAddr
    nextFile := match given with | e :: _ => e.file | [] => w.nextFile }

/-- The state after a job has stopped writing entries (R121). -/
def drainState (st : TcState) : TcState := if st = .writing then .draining else st

theorem toDrain_eq (c : Tc) : c.toDrain = { c with st := drainState c.st } := by
  unfold drainState
  split
  next writing => exact toDrain_writing writing
  next other => exact if_neg other

theorem giveUp_eq (job : (s.tc t).job = some (.write w)) (v : JobResult) (given : List WEntry) :
    s.giveUp t v given =
      (s.clearCtx t .write).setTc t { s.tc t with
        st := drainState (s.tc t).st
        intake := [], blockQ := [], rewrite := []
        job := some (.write (gaveUp s t w v given)) } := by
  unfold State.giveUp
  dsimp only
  rw [discardWork_eq job, modWrite_of_write (by rw [State.setTc_tc]), State.setTc_tc, setTc_setTc, modTc_eq, State.setTc_tc,
    setTc_setTc, toDrain_eq]
  rfl

theorem clearCtx_parts (s : State) (t : Tr) (d : Dir) :
    (s.clearCtx t d).mtb = s.mtb ∧ (s.clearCtx t d).chg = s.chg ∧ (s.clearCtx t d).lnk = s.lnk ∧
      (s.clearCtx t d).cx t = { dir := d } := by
  cases t <;> exact ⟨rfl, rfl, rfl, rfl⟩

/-! ## The choice (R113) -/

/-- The tape streams on, or to a drain. -/
def GoesOn (c d : Tc) : Prop :=
  d.inflight = c.inflight ∧ d.gov = c.gov ∧ (d.st = c.st ∨ (c.st = .writing ∧ d.st = .draining))

/-- The tape stops in a hitch: only FILLERs were in flight, and they have left the list (R120). -/
def Hitches (c d : Tc) : Prop :=
  c.st = .writing ∧ d.st = .hitch ∧ d.gov = armedMoved c.gov ∧
    d.inflight = (c.inflight.filter fun f => !f.isKind .filler) ∧ ∀ f ∈ c.inflight, f.entry = none ∧ f.hdr.kind ≠ 5

theorem GoesOn.trans {c d e : Tc} (h : GoesOn c d) (h' : GoesOn d e) : GoesOn c e := by
  obtain ⟨flight, gov, st⟩ := h
  obtain ⟨flight', gov', st'⟩ := h'
  refine ⟨flight'.trans flight, gov'.trans gov, ?_⟩
  obtain st | ⟨writing, st⟩ := st
  · rwa [st] at st'
  · obtain st' | ⟨still, -⟩ := st'
    · exact .inr ⟨writing, st'.trans st⟩
    · rw [st] at still
      cases still

theorem GoesOn.hitches {c d e : Tc} (h : GoesOn c d) (h' : Hitches d e) : Hitches c e := by
  obtain ⟨flight, gov, st⟩ := h
  obtain ⟨writing, hitch, moved, flight', none_told⟩ := h'
  rw [flight] at flight' none_told
  rw [gov] at moved
  refine ⟨?_, hitch, moved, flight', none_told⟩
  obtain st | ⟨-, st⟩ := st
  · exact st.symm.trans writing
  · rw [st] at writing
    cases writing

/-- What a choice of the formatter can do to its transport: a frame begun, an ending decided, a drain begun, a hitch; the
tape's motion follows, and nothing of it reaches the records, the changer or a watch point. -/
structure Chose (t : Tr) (s u : State) (w w' : WriteJob) : Prop where
  job : (u.tc t).job = some (.write w')
  kept : w' = { w with
    inProgress := w'.inProgress, nextAddr := w'.nextAddr, nextFile := w'.nextFile, warned := w'.warned
    verdict := w'.verdict, blocksLost := w'.blocksLost, rawDiscarded := w'.rawDiscarded
    fillers := w'.fillers, fillerLimit := w'.fillerLimit, hitches := w'.hitches }
  fills : w'.fillers = w.fillers ∨ w'.fillers = 0
  motion : GoesOn (s.tc t) (u.tc t) ∨ (w.inProgress = none ∧ Hitches (s.tc t) (u.tc t))
  tc : (u.tc t).watch = (s.tc t).watch ∧ (u.tc t).pos = (s.tc t).pos ∧ (u.tc t).locate = (s.tc t).locate ∧
    (u.tc t).labelCount = (s.tc t).labelCount ∧ (u.tc t).granted = (s.tc t).granted ∧
    (u.tc t).pendingCredits = (s.tc t).pendingCredits ∧ (u.tc t).delivery = (s.tc t).delivery
  work : ((u.tc t).intake = (s.tc t).intake ∧ u.cx t = s.cx t) ∨ ((u.tc t).intake = [] ∧ u.cx t = { dir := .write })
  queue : (u.tc t).blockQ <:+ (s.tc t).blockQ
  lnk : Grew s.lnk u.lnk
  mtb : u.mtb = s.mtb
  chg : u.chg = s.chg

theorem Chose.refl (job : (s.tc t).job = some (.write w)) : Chose t s s w w :=
  ⟨job, rfl, .inl rfl, .inl ⟨rfl, rfl, .inl rfl⟩, ⟨rfl, rfl, rfl, rfl, rfl, rfl, rfl⟩, .inl ⟨rfl, rfl⟩, List.suffix_refl _, Grew.refl _, rfl, rfl⟩

/-- A choice that leaves the motion of the tape or begins to drain. -/
theorem chose_of_eq {u : State} {w' : WriteJob} {l : Lnk} {blockQ : List QEntry} {rewrite : List WEntry} {st : TcState}
    (e : u = State.setTc { s with lnk := l } t
      { s.tc t with st := st, blockQ := blockQ, rewrite := rewrite, job := some (.write w') })
    (kept : w' = { w with
      inProgress := w'.inProgress, nextAddr := w'.nextAddr, nextFile := w'.nextFile, warned := w'.warned
      verdict := w'.verdict, blocksLost := w'.blocksLost, rawDiscarded := w'.rawDiscarded
      fillers := w'.fillers, fillerLimit := w'.fillerLimit, hitches := w'.hitches })
    (fills : w'.fillers = w.fillers) (queue : blockQ <:+ (s.tc t).blockQ)
    (motion : st = (s.tc t).st ∨ ((s.tc t).st = .writing ∧ st = .draining)) (grew : Grew s.lnk l) : Chose t s u w w' := by
  subst e
  refine ⟨by rw [State.setTc_tc], kept, .inl fills, .inl ?_, ?_, .inl ⟨by rw [State.setTc_tc], by cases t <;> rfl⟩, by rw [State.setTc_tc]; exact queue, by rw [State.setTc_lnk]; exact grew, by rw [State.setTc_mtb],
    by rw [State.setTc_chg]⟩
  · rw [State.setTc_tc]
    exact ⟨rfl, rfl, motion⟩
  · rw [State.setTc_tc]
    exact ⟨rfl, rfl, rfl, rfl, rfl, rfl, rfl⟩

theorem drainFrame_chose (job : (s.tc t).job = some (.write w)) (place : Nat) :
    ∃ w', Chose t s (s.drainFrame t place) w w' :=
  ⟨_, chose_of_eq (drainFrame_eq job place) rfl rfl (List.suffix_refl _) (.inl rfl) (grew_warning ..)⟩

/-- The fields of a write job that a choice does not reach. -/
theorem kept_trans {w w₁ w₂ : WriteJob}
    (h : w₁ = { w with
      inProgress := w₁.inProgress, nextAddr := w₁.nextAddr, nextFile := w₁.nextFile, warned := w₁.warned
      verdict := w₁.verdict, blocksLost := w₁.blocksLost, rawDiscarded := w₁.rawDiscarded
      fillers := w₁.fillers, fillerLimit := w₁.fillerLimit, hitches := w₁.hitches })
    (h' : w₂ = { w₁ with
      inProgress := w₂.inProgress, nextAddr := w₂.nextAddr, nextFile := w₂.nextFile, warned := w₂.warned
      verdict := w₂.verdict, blocksLost := w₂.blocksLost, rawDiscarded := w₂.rawDiscarded
      fillers := w₂.fillers, fillerLimit := w₂.fillerLimit, hitches := w₂.hitches }) :
    w₂ = { w with
      inProgress := w₂.inProgress, nextAddr := w₂.nextAddr, nextFile := w₂.nextFile, warned := w₂.warned
      verdict := w₂.verdict, blocksLost := w₂.blocksLost, rawDiscarded := w₂.rawDiscarded
      fillers := w₂.fillers, fillerLimit := w₂.fillerLimit, hitches := w₂.hitches } := by
  rw [h] at h'
  exact h'

/-- A choice behind a step in which the tape goes on. -/
theorem Chose.after {v u : State} {w₁ w₂ : WriteJob} (first : Chose t s v w w₁) (still : GoesOn (s.tc t) (v.tc t))
    (idle : w₁.inProgress = none → w.inProgress = none) (next : Chose t v u w₁ w₂) : Chose t s u w w₂ := by
  obtain ⟨-, kept, fills, -, ⟨a, b, c, d, e, f, g⟩, work, queue, lnk, mtb, chg⟩ := first
  obtain ⟨job', kept', fills', motion', ⟨a', b', c', d', e', f', g'⟩, work', queue', lnk', mtb', chg'⟩ := next
  refine ⟨job', kept_trans kept kept', ?_, ?_, ⟨a'.trans a, b'.trans b, c'.trans c, d'.trans d, e'.trans e, f'.trans f, g'.trans g⟩, ?_,
    queue'.trans queue, lnk.trans lnk', mtb'.trans mtb, chg'.trans chg⟩
  · obtain same | zero := fills'
    · rwa [same]
    · exact .inr zero
  · obtain goes | ⟨stands, hitch⟩ := motion'
    · exact .inl (still.trans goes)
    · exact .inr ⟨idle stands, still.hitches hitch⟩
  · obtain ⟨intake, cx⟩ | given := work'
    · rwa [intake, cx]
    · exact .inr given

theorem giveUp_chose (job : (s.tc t).job = some (.write w)) (v : JobResult) (given : List WEntry) :
    Chose t s (s.giveUp t v given) w (gaveUp s t w v given) ∧ GoesOn (s.tc t) ((s.giveUp t v given).tc t) := by
  obtain ⟨mtb, chg, lnk, cx⟩ := clearCtx_parts s t .write
  have goes : GoesOn (s.tc t) ((s.giveUp t v given).tc t) := by
    rw [giveUp_eq job, State.setTc_tc]
    refine ⟨rfl, rfl, ?_⟩
    unfold drainState
    dsimp only
    split
    next writing => exact .inr ⟨writing, rfl⟩
    next => exact .inl rfl
  refine ⟨⟨?_, rfl, .inl rfl, .inl goes, ?_, .inr ?_, ?_, ?_, ?_, ?_⟩, goes⟩
  all_goals rw [giveUp_eq job]
  · rw [State.setTc_tc]
  · rw [State.setTc_tc]
    exact ⟨rfl, rfl, rfl, rfl, rfl, rfl, rfl⟩
  · rw [State.setTc_tc, State.setTc_cx]
    exact ⟨rfl, cx⟩
  · rw [State.setTc_tc]
    exact List.nil_suffix
  · rw [State.setTc_lnk, lnk]
    exact Grew.refl _
  · rw [State.setTc_mtb, mtb]
  · rw [State.setTc_chg, chg]

/-- A hitch of a write job (R120). -/
theorem writeHitch_eq (job : (s.tc t).job = some (.write w)) :
    s.writeHitch t = s.setTc t { (s.tc t).goto .hitch with
      inflight := (s.tc t).inflight.filter fun f => !f.isKind .filler
      job := some (.write { w with
        hitches := w.hitches + 1, fillers := 0, fillerLimit := ((s.tc t).goto .hitch).gov.active.filler }) } := by
  unfold State.writeHitch
  dsimp only
  rw [modTc_eq, modWrite_of_write (w := w) (by rw [State.setTc_tc]; exact (Tc.goto_job ..).trans job), State.setTc_tc, setTc_setTc]

theorem writeHitch_chose (job : (s.tc t).job = some (.write w)) (stands : w.inProgress = none)
    (writing : (s.tc t).st = .writing) (flight : ∀ f ∈ (s.tc t).inflight, f.entry = none ∧ f.hdr.kind ≠ 5) :
    ∃ w', Chose t s (s.writeHitch t) w w' := by
  refine ⟨_, ⟨by rw [writeHitch_eq job, State.setTc_tc], rfl, .inr rfl, .inr ⟨stands, ?_⟩, ?_, .inl ?_, ?_, ?_, ?_, ?_⟩⟩
  all_goals rw [writeHitch_eq job]
  · rw [State.setTc_tc]
    refine ⟨writing, Tc.goto_st .., ?_, rfl, flight⟩
    show ((s.tc t).goto .hitch).gov = _
    rw [goto_gov, writing]
    rfl
  · rw [State.setTc_tc]
    exact ⟨Tc.goto_watch .., Tc.goto_pos .., Tc.goto_locate .., Tc.goto_labelCount .., Tc.goto_granted ..,
      Tc.goto_pendingCredits .., Tc.goto_delivery ..⟩
  · rw [State.setTc_tc, State.setTc_cx]
    exact ⟨Tc.goto_intake .., rfl⟩
  · rw [State.setTc_tc]
    exact ⟨[], Tc.goto_blockQ ..⟩
  · rw [State.setTc_lnk]
    exact Grew.refl _
  · rw [State.setTc_mtb]
  · rw [State.setTc_chg]

theorem chooseFrame_chose {place : Nat} (job : (s.tc t).job = some (.write w)) (may : (s.tc t).mayChoose w place = true) :
    ∃ w', Chose t s (s.chooseFrame t w place) w w' := by
  obtain ⟨st, stands, flight⟩ := (mayChoose_iff _ _ _).mp may
  by_cases reserve : s.reserveAt t ≤ place ∧ ((s.tc t).st ≠ .draining ∨ (s.tc t).rewrite ≠ [])
  · obtain ⟨beyond, open_⟩ := reserve
    obtain ⟨given, goes⟩ := giveUp_chose job .endOfMedia (s.tc t).rewrite
    obtain ⟨w', drained⟩ := drainFrame_chose given.job place
    rw [chooseFrame_reserve beyond open_]
    exact ⟨w', given.after goes id drained⟩
  · cases rewrite : (s.tc t).rewrite with
    | cons e more =>
      have free : place < s.reserveAt t := Nat.lt_of_not_le fun beyond =>
        reserve ⟨beyond, .inr (by rw [rewrite]; exact List.cons_ne_nil e more)⟩
      exact ⟨_, chose_of_eq (chooseFrame_rewrite job rewrite free) rfl rfl (List.suffix_refl _) (.inl rfl) (grew_warning ..)⟩
    | nil =>
      by_cases draining : (s.tc t).st = .draining
      · rw [chooseFrame_drain rewrite draining]
        exact drainFrame_chose job place
      · have writing : (s.tc t).st = .writing := st.resolve_right draining
        have free : place < s.reserveAt t := Nat.lt_of_not_le fun beyond => reserve ⟨beyond, .inl draining⟩
        have no_entry_cases : NoEntry (s.tc t).blockQ ∨ (∃ b q, (s.tc t).blockQ = .block b :: q) ∨
            (∃ q, (s.tc t).blockQ = .mark :: q) ∨ ∃ q, (s.tc t).blockQ = .close :: q := by
          unfold NoEntry
          cases (s.tc t).blockQ with
          | nil => simp
          | cons e q => cases e <;> simp
        obtain none_left | ⟨b, q, head⟩ | ⟨q, head⟩ | ⟨q, head⟩ := no_entry_cases
        · rw [chooseFrame_empty rewrite draining free none_left]
          split
          · exact ⟨_, chose_of_eq (beginFrame_eq job _) rfl rfl (List.suffix_refl _) (.inl rfl) (grew_warning ..)⟩
          next limit =>
            refine writeHitch_chose job stands writing fun f hf => ⟨?_, (flight f hf).2⟩
            have no_blocks : (s.tc t).blocksInFlight = false := by
              simpa using fun h => limit (.inr h)
            unfold Tc.blocksInFlight at no_blocks
            simpa using List.any_eq_false.mp no_blocks f hf
        · exact ⟨_, chose_of_eq (chooseFrame_entry job rewrite draining free (b := some b) head rfl) rfl rfl
            (by rw [head]; exact List.suffix_cons ..) (.inl rfl)
            (grew_warning ..)⟩
        · exact ⟨_, chose_of_eq (chooseFrame_entry job rewrite draining free (b := none) head rfl) rfl rfl
            (by rw [head]; exact List.suffix_cons ..) (.inl rfl)
            (grew_warning ..)⟩
        · have drains : s.modTc t (fun c => ({ c with blockQ := q } : Tc).toDrain) =
              s.setTc t { s.tc t with st := .draining, blockQ := q } := by
            rw [modTc_eq, toDrain_writing (show ({ s.tc t with blockQ := q } : Tc).st = .writing from writing)]
          have first := chose_of_eq (s := s) (t := t) (w := w) (w' := w) (l := s.lnk) (blockQ := q) (rewrite := (s.tc t).rewrite)
            (st := .draining) (u := s.setTc t { s.tc t with st := .draining, blockQ := q })
            (by rw [← job]) rfl rfl (by rw [head]; exact List.suffix_cons ..) (.inr ⟨writing, rfl⟩) (Grew.refl _)
          rw [chooseFrame_close rewrite draining free head, drains]
          obtain ⟨w', next⟩ := drainFrame_chose first.job place
          exact ⟨w', first.after (by rw [State.setTc_tc]; exact ⟨rfl, rfl, .inr ⟨writing, rfl⟩⟩) id next⟩

/-- What a choice can do, whether or not the formatter may choose (R113, R121). -/
theorem choose_chose (job : (s.tc t).job = some (.write w)) : ∃ w', Chose t s (s.choose t) w w' := by
  have steady : (s.tc t).finishQueued = s.tc t ∨
      ((s.tc t).finishQueued = (s.tc t).toDrain) := by
    unfold Tc.finishQueued
    split
    · split
      · exact .inr rfl
      · exact .inl rfl
    · exact .inl rfl
  have goes : GoesOn (s.tc t) (s.tc t).finishQueued ∧ ∃ st, (s.tc t).finishQueued = { s.tc t with st := st } := by
    obtain same | drains := steady
    · rw [same]
      exact ⟨⟨rfl, rfl, .inl rfl⟩, (s.tc t).st, rfl⟩
    · rw [drains, toDrain_eq]
      refine ⟨⟨rfl, rfl, ?_⟩, _, rfl⟩
      unfold drainState
      dsimp only
      split
      next writing => exact .inr ⟨writing, rfl⟩
      next => exact .inl rfl
  obtain ⟨on, st, same⟩ := goes
  have first : Chose t s (s.modTc t Tc.finishQueued) w w := by
    refine chose_of_eq (l := s.lnk) (blockQ := (s.tc t).blockQ) (rewrite := (s.tc t).rewrite) (st := st) ?_ rfl rfl (List.suffix_refl _) ?_ (Grew.refl _)
    · rw [modTc_eq, same, ← job]
    · obtain ⟨-, -, h⟩ := on
      rwa [same] at h
  unfold State.choose
  dsimp only
  split
  next w₁ place running pos =>
    have mine := first.job
    rw [job_of_writeJob running] at mine
    cases mine
    split
    next may =>
      obtain ⟨w', next⟩ := chooseFrame_chose (job_of_writeJob running) may
      exact ⟨w', first.after (by rw [State.modTc_tc]; exact on) id next⟩
    next => exact ⟨w, first⟩
  next => exact ⟨w, first⟩

end

end Sys2Proof.Proofs
end

section
/-! PROOFS. What follows in a read job, in general: before its end tests, and its end (R141, R149, R152, R156 to R158,
R161). -/

open Sys2Proof Sys2Proof.Machine Sys2Proof.Claims

namespace Sys2Proof.Proofs

-- One declaration at a time: elaborated in parallel, the joined text needs more threads than the memory limit holds.
set_option Elab.async false

/-! ## The comparison (R156 to R158) -/

/-- A read job with another state of its comparison and other gaps waiting. -/
def ComparedTo (r r' : ReadJob) : Prop :=
  r' = { r with
    pendingGaps := r'.pendingGaps, short := r'.short, unaligned := r'.unaligned, compared := r'.compared
    uncompared := r'.uncompared, faultCount := r'.faultCount, faults := r'.faults, mismatchAt := r'.mismatchAt }

theorem ComparedTo.refl (r : ReadJob) : ComparedTo r r := rfl

theorem ComparedTo.trans {r₁ r₂ r₃ : ReadJob} (h : ComparedTo r₁ r₂) (h' : ComparedTo r₂ r₃) : ComparedTo r₁ r₃ := by
  unfold ComparedTo at h h' ⊢
  rw [h] at h'
  exact h'

theorem pair_comparedTo (r : ReadJob) (d : DByte) (host : Byte) : ComparedTo r (r.pair d host) := by
  unfold ReadJob.pair
  split
  · rfl
  · split
    · rfl
    · rfl

theorem cmpStep_comparedTo {c d : Cmp} (step : c.step = some d) : ComparedTo c.job d.job := by
  unfold Cmp.step at step
  split at step
  · cases step
  · split at step
    · split at step
      · cases step
        rw [Cmp.takeHost_job]
        rfl
      · split at step
        · cases step; rfl
        · split at step
          · cases step; rfl
          · cases step
        · cases step; rfl
        · cases step
    · split at step
      · cases step
      · cases step; rfl
      · cases step; rfl
      · split at step
        · cases step; rfl
        · split at step
          · cases step
            rw [Cmp.takeHost_job]
            rfl
          · cases step; rfl
          · cases step
      · cases step; rfl
      · split at step
        · split at step
          · cases step
            rw [Cmp.takeHost_job]
            exact pair_comparedTo ..
          · cases step
            rw [Cmp.takeHost_job]
            rfl
          · cases step; rfl
          · cases step
        · cases step

theorem cmpRun_comparedTo (n : Nat) (c : Cmp) : ComparedTo c.job (c.run n).job := by
  induction n generalizing c with
  | zero => exact ComparedTo.refl _
  | succ n ih =>
    unfold Cmp.run
    split
    · exact ComparedTo.refl _
    next d step => exact (cmpStep_comparedTo step).trans (ih d)

/-! ## Before the end tests -/

/-- What follows in a read job before its end tests: its queues move on, its comparison runs, its tape may start again;
nothing of it reaches the records, the changer or a watch point. -/
structure ReadOn (t : Tr) (s u : State) (r r' : ReadJob) : Prop where
  tc : ∃ blockQ delivery intake granted pending st gov, u.tc t = { s.tc t with
    blockQ := blockQ, delivery := delivery, intake := intake, granted := granted, pendingCredits := pending
    st := st, gov := gov, job := some (.read r') }
  motion : ((u.tc t).st = (s.tc t).st ∧ (u.tc t).gov = (s.tc t).gov) ∨
    ((s.tc t).st = .waiting ∧ r.ended = none ∧ (u.tc t).st = .reading ∧ (u.tc t).gov = started (s.tc t).gov)
  job : ComparedTo r r'
  lnk : Grew s.lnk u.lnk
  mtb : u.mtb = s.mtb
  chg : u.chg = s.chg

theorem ReadOn.ended {t : Tr} {s u : State} {r r' : ReadJob} (h : ReadOn t s u r r') : r'.ended = r.ended := by
  rw [h.job]

theorem ReadOn.running {t : Tr} {s u : State} {r r' : ReadJob} (h : ReadOn t s u r r') :
    (u.tc t).job = some (.read r') := by
  obtain ⟨_, _, _, _, _, _, _, e⟩ := h.tc
  rw [e]

theorem ReadOn.trans {t : Tr} {s v u : State} {r r₁ r₂ : ReadJob} (h : ReadOn t s v r r₁) (h' : ReadOn t v u r₁ r₂) :
    ReadOn t s u r r₂ := by
  have same := h.ended
  obtain ⟨⟨_, _, _, _, _, _, _, e⟩, motion, job, lnk, mtb, chg⟩ := h
  obtain ⟨⟨q, d, i, g, p, st, gov, e'⟩, motion', job', lnk', mtb', chg'⟩ := h'
  refine ⟨⟨q, d, i, g, p, st, gov, by rw [e', e]⟩, ?_, job.trans job', lnk.trans lnk', mtb'.trans mtb, chg'.trans chg⟩
  rw [same] at motion'
  obtain ⟨st₁, gov₁⟩ | ⟨waiting, running, st₁, gov₁⟩ := motion
  · rw [st₁, gov₁] at motion'
    exact motion'
  · obtain ⟨st₂, gov₂⟩ | ⟨waiting₂, -⟩ := motion'
    · exact .inr ⟨waiting, running, st₂.trans st₁, gov₂.trans gov₁⟩
    · rw [st₁] at waiting₂
      cases waiting₂

section
variable {s : State} {t : Tr} {r : ReadJob}

/-- A step of a read job that changes its queues and its comparison only. -/
theorem readOn_of_eq {u : State} {r' : ReadJob} {blockQ : List QEntry} {delivery : List DItem} {intake : List IntakeItem}
    (e : u = s.setTc t { s.tc t with
      blockQ := blockQ, delivery := delivery, intake := intake, job := some (.read r') })
    (job : ComparedTo r r') : ReadOn t s u r r' := by
  subst e
  refine ⟨⟨blockQ, delivery, intake, (s.tc t).granted, (s.tc t).pendingCredits, (s.tc t).st, (s.tc t).gov,
    by rw [State.setTc_tc]⟩, .inl ?_, job, ?_, ?_, ?_⟩
  · rw [State.setTc_tc]
    exact ⟨rfl, rfl⟩
  · rw [State.setTc_lnk]
    exact Grew.refl _
  · rw [State.setTc_mtb]
  · rw [State.setTc_chg]

theorem ReadOn.refl (job : (s.tc t).job = some (.read r)) : ReadOn t s s r r :=
  readOn_of_eq (by rw [← job, setTc_self]) (ComparedTo.refl r)

theorem takeHeads_readOn (job : (s.tc t).job = some (.read r)) : ReadOn t s (s.takeHeads t) r r :=
  readOn_of_eq (intake := (s.tc t).intake) (by rw [takeHeads_eq job, ← job]) (ComparedTo.refl r)

theorem lastGaps_readOn (job : (s.tc t).job = some (.read r)) : ∃ r', ReadOn t s (s.lastGaps t) r r' := by
  unfold State.lastGaps
  rw [readJob_of_job job]
  dsimp only
  split
  · rw [modTc_eq, modRead_of_read (r := r) (by rw [State.setTc_tc]; exact job), State.setTc_tc, setTc_setTc]
    exact ⟨{ r with pendingGaps := [] }, readOn_of_eq (blockQ := (s.tc t).blockQ) (intake := (s.tc t).intake) rfl rfl⟩
  · exact ⟨r, ReadOn.refl job⟩

theorem readResume_readOn (job : (s.tc t).job = some (.read r)) : ReadOn t s (s.readResume t) r r := by
  rw [readResume_eq job]
  split
  next resumes =>
    obtain ⟨waiting, running, -⟩ := resumes
    refine ⟨⟨(s.tc t).blockQ, (s.tc t).delivery, (s.tc t).intake, (s.tc t).granted, (s.tc t).pendingCredits, .reading,
      started (s.tc t).gov, by rw [State.setTc_tc, ← job]⟩, .inr ?_, ComparedTo.refl r, ?_, ?_, ?_⟩
    · rw [State.setTc_tc]
      exact ⟨waiting, running, rfl, rfl⟩
    · rw [State.setTc_lnk]
      exact Grew.refl _
    · rw [State.setTc_mtb]
    · rw [State.setTc_chg]
  next => exact ReadOn.refl job

theorem compare_readOn (job : (s.tc t).job = some (.read r)) : ∃ r', ReadOn t s (s.compare t) r r' := by
  unfold State.compare
  rw [readJob_of_job job]
  dsimp only
  split
  · obtain ⟨c, hc⟩ : ∃ c : Cmp, { delivery := (s.tc t).delivery, intake := (s.tc t).intake, job := r } = c := ⟨_, rfl⟩
    have compared : ComparedTo r (c.run c.steps).job := by
      have step := cmpRun_comparedTo c.steps c
      rw [← hc] at step ⊢
      exact step
    rw [hc]
    obtain ⟨d, hd⟩ : ∃ d, c.run c.steps = d := ⟨_, rfl⟩
    rw [hd] at compared ⊢
    have first : ReadOn t s (s.setTc t { s.tc t with delivery := d.delivery, intake := d.intake, job := some (.read d.job) }) r d.job :=
      readOn_of_eq (blockQ := (s.tc t).blockQ) rfl compared
    rw [modTc_eq]
    split
    · exact ⟨d.job, first⟩
    · obtain ⟨g, p, l, -, e, grew⟩ := earn_eq
        (s.setTc t { s.tc t with delivery := d.delivery, intake := d.intake, job := some (.read d.job) }) t d.earned
      refine ⟨d.job, first.trans ⟨⟨(s.tc t).blockQ, d.delivery, d.intake, g, p, (s.tc t).st, (s.tc t).gov, ?_⟩, .inl ?_,
        ComparedTo.refl _, ?_, ?_, ?_⟩⟩
      all_goals rw [e]
      · rw [State.setTc_tc, State.setTc_tc]
      · rw [State.setTc_tc]
        exact ⟨rfl, rfl⟩
      · rw [State.setTc_lnk, State.setTc_lnk]
        rw [State.setTc_lnk] at grew
        exact grew
      · rw [State.setTc_mtb]
      · rw [State.setTc_chg]
  · exact ⟨r, ReadOn.refl job⟩

/-! ## The end of a read job (R152, R158, R161) -/

/-- What follows in a read job: it goes on, or it ends (R152, R158, R161). -/
theorem readPump_cases (job : (s.tc t).job = some (.read r)) :
    ∃ v r', ReadOn t s v r r' ∧ (s.readPump t = v ∨ ∃ res, s.readPump t = v.endRead t res) := by
  have first := takeHeads_readOn job
  obtain ⟨r₁, second⟩ := lastGaps_readOn first.running
  have third := readResume_readOn second.running
  obtain ⟨r₂, fourth⟩ := compare_readOn third.running
  have on := ((first.trans second).trans third).trans fourth
  unfold State.readPump
  obtain ⟨v, hv⟩ : ∃ v, ((((s.takeHeads t).lastGaps t).readResume t).compare t) = v := ⟨_, rfl⟩
  rw [hv] at on ⊢
  have running := on.running
  unfold State.shortEnd
  rw [readJob_of_job running]
  dsimp only
  split
  · refine ⟨v, r₂, on, .inr ⟨if r₂.atMark then .aborted else .compareShort, ?_⟩⟩
    unfold State.readEndTest
    split
    next r₃ job₃ =>
      have gone : ((v.endRead t (if r₂.atMark then .aborted else .compareShort)).tc t).job = none := by
        have counted : (((v.countSurplus t).modTc t fun c => c.goto .ready).tc t).job =
            some (.read (r₂.leave (v.tc t).intake)) := by
          rw [State.modTc_tc]
          refine (Tc.goto_job ..).trans ?_
          unfold State.countSurplus
          rw [modRead_of_read running, State.setTc_tc]
        unfold State.endRead
        rw [endJob_tc _ counted]
      rw [job_of_readJob job₃] at gone
      cases gone
    next => rfl
  · unfold State.readEndTest
    rw [readJob_of_job running]
    dsimp only
    split
    · split
      next restore =>
        have closed : ReadOn t v (v.modTc t fun c => { c with delivery := closeFilling c.delivery }) r₂ r₂ :=
          readOn_of_eq (blockQ := (v.tc t).blockQ) (intake := (v.tc t).intake) (by rw [modTc_eq, ← running])
            (ComparedTo.refl _)
        split
        · exact ⟨_, r₂, on.trans closed, .inr ⟨_, rfl⟩⟩
        · exact ⟨_, r₂, on.trans closed, .inl rfl⟩
      next =>
        split
        · exact ⟨v, r₂, on, .inr ⟨_, rfl⟩⟩
        · exact ⟨v, r₂, on, .inl rfl⟩
    · exact ⟨v, r₂, on, .inl rfl⟩

/-- The controller at the end of a read job (R152, R158, R161). -/
def readOver (c : Tc) (r : ReadJob) : Tc := Tc.goto { c with job := some (.read (r.leave c.intake)) } .ready

theorem endRead_eq (job : (s.tc t).job = some (.read r)) (res : JobResult) :
    s.endRead t res = (s.setTc t (readOver (s.tc t) r)).endJob t res := by
  unfold State.endRead State.countSurplus
  rw [modRead_of_read job, modTc_eq, State.setTc_tc, setTc_setTc]
  rfl

theorem readOver_job (c : Tc) (r : ReadJob) : (readOver c r).job = some (.read (r.leave c.intake)) := Tc.goto_job ..

/-- A read job ends: READY at the place held, an armed copy moved, the rest of a comparison's intake surplus (R131, R152,
R158). -/
theorem endRead_ends (job : (s.tc t).job = some (.read r)) (res : JobResult) :
    JobEnded t (Job.kind (.read r)) res
        (reportOf (s.endRead t res) (s.mtb.get (.bay t)) s.free (.read (r.leave (s.tc t).intake)) res) s (s.endRead t res) ∧
      ((s.endRead t res).tc t).st = .ready ∧ ((s.endRead t res).tc t).pos = (s.tc t).pos ∧
      ((s.endRead t res).tc t).watch = (s.tc t).watch ∧
      ((s.endRead t res).tc t).gov = if (s.tc t).st.streams then armedMoved (s.tc t).gov else (s.tc t).gov := by
  rw [endRead_eq job]
  refine ⟨endJob_after (s := s) (t := t) (readOver_job (s.tc t) r) res, ?_⟩
  rw [endJob_after_tc (readOver_job (s.tc t) r)]
  refine ⟨Tc.goto_st .., Tc.goto_pos .., Tc.goto_watch .., ?_⟩
  show (readOver (s.tc t) r).gov = _
  unfold readOver
  rw [goto_gov, show TcState.streams .ready = false from rfl, Bool.not_false, Bool.and_true]

end

/-! ## What APPLY makes of the settings (O37) -/

/-- The active and the pending copy of a governor, no copy armed. -/
def Unarmed (p q : GovSet) (g : Gov) : Prop := g.active = p ∧ g.pending = q ∧ g.armed = false

theorem unarmed_moved {p q : GovSet} {g : Gov} (h : Unarmed p q g) : armedMoved g = g := by
  unfold armedMoved
  rw [h.2.2]
  rfl

theorem readPump_unarmed {s : State} {t : Tr} {p q : GovSet} {r : ReadJob} (job : (s.tc t).job = some (.read r))
    (h : Unarmed p q (s.tc t).gov) : Unarmed p q ((s.readPump t).tc t).gov := by
  obtain ⟨v, r', on, ends⟩ := readPump_cases job
  have before : Unarmed p q (v.tc t).gov := by
    obtain ⟨-, gov⟩ | ⟨-, -, -, gov⟩ := on.motion
    · rw [gov]; exact h
    · rw [gov]; exact h
  obtain same | ⟨res, ends⟩ := ends
  · rw [same]
    exact before
  · obtain ⟨-, -, -, -, gov⟩ := endRead_ends on.running res
    rw [ends, gov, unarmed_moved before, ite_self]
    exact before

theorem choose_unarmed {s : State} {t : Tr} {p q : GovSet} {w : WriteJob} (job : (s.tc t).job = some (.write w))
    (h : Unarmed p q (s.tc t).gov) : Unarmed p q ((s.choose t).tc t).gov := by
  obtain ⟨w', chose⟩ := choose_chose job
  obtain ⟨-, gov, -⟩ | ⟨-, -, -, gov, -⟩ := chose.motion
  · rw [gov]; exact h
  · rw [gov, unarmed_moved h]; exact h

theorem gather_unarmed {s : State} {t : Tr} {p q : GovSet} {w : WriteJob} (job : (s.tc t).job = some (.write w))
    (h : Unarmed p q (s.tc t).gov) : Unarmed p q ((s.gather t).tc t).gov ∧ ∃ w', ((s.gather t).tc t).job = some (.write w') := by
  obtain ⟨_, _, _, _, _, e⟩ := (gather_gathered job).tc
  rw [e]
  exact ⟨h, _, rfl⟩

theorem writeResume_unarmed {s : State} {t : Tr} {p q : GovSet} {w : WriteJob} (job : (s.tc t).job = some (.write w))
    (h : Unarmed p q (s.tc t).gov) :
    Unarmed p q ((s.writeResume t).tc t).gov ∧ ∃ w', ((s.writeResume t).tc t).job = some (.write w') := by
  unfold State.writeResume
  rw [writeJob_of_job job]
  dsimp only
  split
  · have streams : ((s.modTc t fun c => c.stream (c.resumeState w)).tc t).job = some (.write w) := by
      rw [State.modTc_tc]
      exact job
    obtain ⟨w', chose⟩ := choose_chose streams
    refine ⟨choose_unarmed streams ?_, w', chose.job⟩
    rw [State.modTc_tc]
    exact h
  · exact ⟨h, w, job⟩

theorem writePump_unarmed {s : State} {t : Tr} {p q : GovSet} {w : WriteJob} (job : (s.tc t).job = some (.write w))
    (h : Unarmed p q (s.tc t).gov) : Unarmed p q ((s.writePump t).tc t).gov := by
  obtain ⟨first, w₁, job₁⟩ := gather_unarmed job h
  obtain ⟨second, w₂, job₂⟩ := writeResume_unarmed job₁ first
  exact (gather_unarmed job₂ second).1

theorem settingsMoved_unarmed {s : State} {t : Tr} {p q : GovSet} (h : Unarmed p q (s.tc t).gov) :
    Unarmed p q ((s.settingsMoved t).tc t).gov := by
  unfold State.settingsMoved
  split
  next w job => exact writePump_unarmed job h
  next r job => exact readPump_unarmed job h
  next => exact h

theorem settingsMoved_local (s : State) (t : Tr) : Local t s (s.settingsMoved t) := by
  unfold State.settingsMoved
  split
  · exact (Local.refl t s).writePump
  · exact (Local.refl t s).readPump
  · exact Local.refl t s

theorem takeApply_eq (s : State) (t : Tr) (tag : Byte) :
    s.takeApply t tag =
      (replied s (.transport t) tag 0x2B (.done [if (s.tc t).engaged then 2 else 1])).setTc t (s.tc t).applied := by
  cases t <;> rfl

theorem apply_runs {s : State} (takes : Takes s) (t : Tr) (tag : Byte) : Runs (.apply t tag) s (s.takeApplyMove t tag) :=
  runs_of_gate (take := fun s => s.takeApplyMove t tag) rfl takes

/-- An APPLY that moves the copy at once, and the tests that follow (R131, R132, R142). -/
theorem takeApplyMove_moves {s : State} {t : Tr} (idle : (s.tc t).engaged = false) (tag : Byte) :
    s.takeApplyMove t tag =
      ((replied s (.transport t) tag 0x2B (.done [1])).setTc t
        { s.tc t with gov := movedGov (s.tc t).gov }).settingsMoved t := by
  unfold State.takeApplyMove
  rw [takeApply_eq, idle]
  dsimp only
  unfold Tc.applied
  rw [idle]
  rfl

/-- Settles O37: the copy armed, moved, and the resuming that the move allows. -/
theorem applyMovesOrArmsTheCopy : Obligations.ApplyMovesOrArmsTheCopy := by
  unfold Obligations.ApplyMovesOrArmsTheCopy
  intro s t tag takes
  have runs := apply_runs takes t tag
  refine ⟨fun engaged => ?_, fun g p a idle hg hp ha => ?_⟩
  · unfold State.takeApplyMove at runs
    rw [takeApply_eq, engaged] at runs
    unfold Tc.applied at runs
    rw [engaged] at runs
    exact runs
  · subst hg hp ha
    rw [takeApplyMove_moves idle] at runs
    obtain ⟨v, hv⟩ : ∃ v, (replied s (.transport t) tag 0x2B (.done [1])).setTc t
        { s.tc t with gov := movedGov (s.tc t).gov } = v := ⟨_, rfl⟩
    have tc : v.tc t = { s.tc t with gov := movedGov (s.tc t).gov } := by rw [← hv, State.setTc_tc]
    have mtb : v.mtb = s.mtb := by rw [← hv, State.setTc_mtb]; rfl
    have chg : v.chg = s.chg := by rw [← hv, State.setTc_chg]; rfl
    have cx : v.cx t = s.cx t := by rw [← hv, State.setTc_cx]; cases t <;> rfl
    have link : v.lnk.replies = s.lnk.replies ++ [{ chan := .transport t, tag := tag, code := 0x2B, body := .done [1] }] := by
      rw [← hv, State.setTc_lnk]
      rfl
    rw [hv] at runs
    refine ⟨⟨_, runs, ?_⟩, fun none_runs => ?_, fun moved hm waiting => ⟨fun w place job still entries abort verdict =>
      ⟨fun resumes some_left => ?_, fun stays => ?_⟩, fun r i b q job no_compare running short head => ?_⟩⟩
    · have left := settingsMoved_unarmed (s := v) (t := t) (p := (movedGov (s.tc t).gov).active) (q := (s.tc t).gov.pending)
        (by rw [tc]; exact ⟨rfl, rfl, rfl⟩)
      obtain ⟨active, pending, armed⟩ := left
      refine ⟨active, pending, armed, ?_⟩
      rw [(settingsMoved_local v t).replies, link]
    · have stands : v.settingsMoved t = v := by
        unfold State.settingsMoved
        rw [tc, none_runs]
      rw [stands, ← hv] at runs
      exact runs
    all_goals
      have same : v.tc t = moved.tc t := by rw [tc, hm, State.setTc_tc]; rfl
      have answered : replied moved (.transport t) tag 0x2B (.done [1]) = v := by
        rw [hm, replied_setTc]
        exact hv
      have queue : (v.tc t).blockQ = (s.tc t).blockQ := by rw [tc]
    · have pumps : v.settingsMoved t = v.writePump t := by
        unfold State.settingsMoved
        rw [tc, job]
      rw [pumps] at runs
      have resumes' : Resumes (v.tc t) (v.tc t).blockQ := by
        rw [queue, same]
        exact resumes
      have ⟨streams, _⟩ := writePump_streams (s := v) (t := t) (w := w) (by rw [tc]; exact job) (by rw [tc]; exact waiting)
        (writeStill_of_tc still (by rw [tc]) (by rw [tc]) (by rw [tc]) (by rw [tc]) cx mtb) (by rw [queue]; exact entries)
        (fun h => absurd (queue.symm.trans h) some_left) (fun _ => ⟨by simp [abort], verdict⟩) (.inl resumes')
      rw [queue] at streams
      exact ⟨_, runs, writeStreams_of_gov streams (by rw [same]) (by rw [mtb, hm, State.setTc_mtb])
        (by rw [chg, hm, State.setTc_chg])⟩
    · have ⟨_, _, _, _, intake, closed, held, _⟩ := still
      have stands : v.settingsMoved t = v := by
        have pumps : v.settingsMoved t = v.writePump t := by
          unfold State.settingsMoved
          rw [tc, job]
        rw [pumps]
        refine writePump_idle (w := w) (by rw [tc]; exact job) (by rw [cx]; exact closed) (by rw [cx]; exact held)
          (.inl (by rw [tc]; exact intake)) fun _ _ => ⟨?_, abort, verdict⟩
        rw [queue, same]
        exact stays
      rw [answered]
      rw [stands] at runs
      exact runs
    · have pumps : v.settingsMoved t = v.readPump t := by
        unfold State.settingsMoved
        rw [tc, job]
      rw [pumps, readPump_running (r := r) (by rw [tc]; exact job) (by rw [queue]; exact .inr ⟨i, b, q, head⟩) running no_compare
        short, queue] at runs
      have resume : (v.tc t).gov.active.resume = (s.tc t).gov.pending.resume := by
        rw [tc]
        rfl
      have still_waiting : (v.tc t).st = .waiting := by
        rw [tc]
        exact waiting
      rw [resume] at runs
      dsimp only
      by_cases room : (s.tc t).blockQ.length ≤ (s.tc t).gov.pending.resume
      · rw [if_pos ⟨still_waiting, room⟩] at runs
        rw [if_pos room, replied_setTc, answered, ← same]
        exact runs
      · rw [if_neg fun h => room h.2] at runs
        rw [if_neg room, answered]
        exact runs

end Sys2Proof.Proofs
end

section
/-! PROOFS. The accumulator of the governor, and the events that count its frames (R113, R131, R136, R137, R139, R160). -/

open Sys2Proof Sys2Proof.Machine Sys2Proof.Claims

namespace Sys2Proof.Proofs

-- One declaration at a time: elaborated in parallel, the joined text needs more threads than the memory limit holds.
set_option Elab.async false

/-! ## An evaluation (R136, R137) -/

theorem countFrame_before {g : Gov} (before : g.evalCount + 1 < g.active.n) (writing : Bool) (q : Nat) :
    g.countFrame writing q = { g with evalCount := g.evalCount + 1 } :=
  if_neg (by omega)

/-- An armed copy moves first, the count anew (R131, R136, R137). -/
theorem moveArmed_anew (g : Gov) : ({ g with evalCount := 0 } : Gov).moveArmed = { armedMoved g with evalCount := 0 } := by
  unfold Gov.moveArmed armedMoved
  split <;> rfl

theorem countFrame_at {g : Gov} (reached : g.active.n ≤ g.evalCount + 1) (writing : Bool) (q : Nat) :
    g.countFrame writing q =
      ({ armedMoved g with evalCount := 0 } : Gov).update
        (({ armedMoved g with evalCount := 0 } : Gov).active.error writing q) := by
  unfold Gov.countFrame
  rw [if_pos reached]
  dsimp only
  rw [moveArmed_anew]

theorem update_inside {g : Gov} {e : Int} (lo : -(g.active.d : Int) ≤ e) (hi : e ≤ g.active.d) : g.update e = g :=
  if_pos (by omega)

theorem delta_eq (g : GovSet) (e : Int) :
    g.delta e = (e * (if 0 < e then (16 + (g.ma : Int)) * 2 ^ g.ea else (16 + (g.md : Int)) * 2 ^ g.ed)).tdiv 16 := by
  unfold GovSet.delta gain
  push_cast
  rfl

theorem update_outside {g : Gov} {e : Int} (outside : e < -(g.active.d : Int) ∨ (g.active.d : Int) < e) :
    g.update e = { g with
      a := g.active.clampA (g.a + g.active.delta e), l := levelOf (g.active.clampA (g.a + g.active.delta e)) } :=
  if_neg (by omega)

/-! ## A frame of a write job (R107, R113, R114, R136) -/

/-- The controller with a written frame in flight and counted (R113, R114, R136). -/
def wroteOne (c : Tc) (w : WriteJob) (f : WFrame) : Tc :=
  { c with
    pos := some (f.hdr.frame + 1)
    inflight := if f.joins then c.inflight ++ [f] else c.inflight
    job := some (.write (w.wroteFrame f c.gov.active.filler))
    gov := if c.st = .writing then c.gov.countFrame true c.blockQ.length else c.gov }

/-- The media table behind a written frame: the first one of a job opens the end of data (R107). -/
def wroteMtb (m : Mtb) (t : Tr) (w : WriteJob) : Mtb := if w.wrote then m else m.modify (.bay t) fun r => r.firstFrame w.mode

section
variable {s : State} {t : Tr} {w : WriteJob} {f : WFrame}

theorem frameWritten_eq (job : (s.tc t).job = some (.write w)) (busy : w.inProgress = some f) :
    s.frameWritten t w =
      ((State.setTc { s with mtb := wroteMtb s.mtb t w } t (wroteOne (s.tc t) w f)).choose t).gather t := by
  unfold State.frameWritten
  rw [busy]
  dsimp only
  obtain ⟨v, hv⟩ : ∃ v : State, { s with mtb := wroteMtb s.mtb t w } = v := ⟨_, rfl⟩
  have first : (if w.wrote then s else s.modBay t fun r => r.firstFrame w.mode) = v := by
    rw [← hv]
    unfold wroteMtb
    split <;> rfl
  have tc : v.tc t = s.tc t := by rw [← hv]; cases t <;> rfl
  have flown : v.modTc t (fun c => { c with
      pos := some (f.hdr.frame + 1), inflight := if f.joins then c.inflight ++ [f] else c.inflight }) =
      v.setTc t { s.tc t with
        pos := some (f.hdr.frame + 1), inflight := if f.joins then (s.tc t).inflight ++ [f] else (s.tc t).inflight } := by
    rw [modTc_eq, tc]
  rw [first, flown, hv, modWrite_of_write (w := w) (by rw [State.setTc_tc]; exact job), State.setTc_tc, setTc_setTc,
    modTc_eq, State.setTc_tc, setTc_setTc]
  unfold wroteOne
  dsimp only
  split <;> rfl

theorem writeCompletion_runs (job : (s.tc t).job = some (.write w)) (busy : w.inProgress = some f) :
    Runs (.writeCompletion t) s
      (((State.setTc { s with mtb := wroteMtb s.mtb t w } t (wroteOne (s.tc t) w f)).choose t).gather t) := by
  refine runs_of_eq (v := s.writeCompleted t) rfl ?_
  unfold State.writeCompleted
  rw [job]
  exact frameWritten_eq job busy

/-- Behind a written frame the tape goes on, drains or hitches (R113, R120, R121). -/
theorem writeCompletion_chose (job : (s.tc t).job = some (.write w)) (busy : w.inProgress = some f) :
    ∃ u w' v, Runs (.writeCompletion t) s u ∧ Gathered t v u w' ∧
      Chose t (State.setTc { s with mtb := wroteMtb s.mtb t w } t (wroteOne (s.tc t) w f)) v
        (w.wroteFrame f (s.tc t).gov.active.filler) w' := by
  obtain ⟨w', chose⟩ := choose_chose (t := t) (w := w.wroteFrame f (s.tc t).gov.active.filler)
    (s := State.setTc { s with mtb := wroteMtb s.mtb t w } t (wroteOne (s.tc t) w f)) (by rw [State.setTc_tc]; rfl)
  exact ⟨_, w', _, writeCompletion_runs job busy, gather_gathered chose.job, chose⟩

end

theorem Gathered.motion {t : Tr} {s u : State} {w : WriteJob} (h : Gathered t s u w) :
    (u.tc t).st = (s.tc t).st ∧ (u.tc t).gov = (s.tc t).gov ∧ (u.tc t).watch = (s.tc t).watch ∧
      (u.tc t).inflight = (s.tc t).inflight ∧ (u.tc t).pos = (s.tc t).pos := by
  obtain ⟨_, _, _, _, _, e⟩ := h.tc
  rw [e]
  exact ⟨rfl, rfl, rfl, rfl, rfl⟩

/-! ## A frame of a reading (R136, R139, R146, R147) -/

/-- What the read pump makes of the tape's motion and the governor where no reading waits to resume. -/
theorem readPump_motion {s : State} {t : Tr} {r : ReadJob} (job : (s.tc t).job = some (.read r))
    (no_resume : (s.tc t).st ≠ .waiting ∨ r.ended ≠ none) :
    (((s.readPump t).tc t).st = (s.tc t).st ∧ ((s.readPump t).tc t).gov = (s.tc t).gov) ∨
      (((s.readPump t).tc t).st = .ready ∧
        ((s.readPump t).tc t).gov = if (s.tc t).st.streams then armedMoved (s.tc t).gov else (s.tc t).gov) := by
  obtain ⟨v, r', on, ends⟩ := readPump_cases job
  have still : (v.tc t).st = (s.tc t).st ∧ (v.tc t).gov = (s.tc t).gov := by
    obtain same | ⟨waiting, running, -⟩ := on.motion
    · exact same
    · obtain h | h := no_resume
      · exact absurd waiting h
      · exact absurd running h
  obtain ⟨st, gov⟩ := still
  obtain same | ⟨res, ends⟩ := ends
  · rw [same]
    exact .inl ⟨st, gov⟩
  · obtain ⟨-, ready, -, -, moved⟩ := endRead_ends on.running res
    rw [st, gov] at moved
    rw [ends]
    exact .inr ⟨ready, moved⟩

section
variable {s : State} {t : Tr} {r : ReadJob}

/-- The controller of a reading that has ended (R147). -/
def readingOver (c : Tc) (r : ReadJob) (res : JobResult) : Tc :=
  { Tc.goto { c with job := some (.read { r with ended := some res }) } .waiting with locate := none }

theorem endReading_eq (job : (s.tc t).job = some (.read r)) (res : JobResult) :
    s.endReading t res = s.setTc t (readingOver (s.tc t) r res) := by
  unfold State.endReading
  rw [modRead_of_read job, modTc_eq, State.setTc_tc, setTc_setTc]
  rfl

theorem readingOver_parts (c : Tc) (r : ReadJob) (res : JobResult) :
    ∃ gov, gov = (if c.st.streams then armedMoved c.gov else c.gov) ∧
      readingOver c r res = { c with
        st := .waiting, locate := none, gov := gov, job := some (.read { r with ended := some res }) } := by
  refine ⟨_, rfl, ?_⟩
  unfold readingOver
  rw [goto_eq, goto_gov, show TcState.streams .waiting = false from rfl, Bool.not_false, Bool.and_true]

/-- The controller of a reading with its heads taken and the frame counted with Q as it then stands (R136, R149). -/
def countedTc (c : Tc) (r : ReadJob) : Tc :=
  { c with
    blockQ := (Machine.takeHeads r.isRestore c.blockQ c.delivery).1
    delivery := (Machine.takeHeads r.isRestore c.blockQ c.delivery).2
    gov := c.gov.countFrame false (Machine.takeHeads r.isRestore c.blockQ c.delivery).1.length }

theorem afterFrame_counted (job : (s.tc t).job = some (.read r)) :
    (s.takeHeads t).modTc t (fun c => { c with gov := c.gov.countFrame false c.blockQ.length }) =
      s.setTc t (countedTc (s.tc t) r) := by
  rw [takeHeads_eq job, modTc_eq, State.setTc_tc, setTc_setTc]
  rfl

/-- A frame that ends the reading (R147). -/
theorem afterFrame_stops (job : (s.tc t).job = some (.read r)) (res : JobResult) :
    s.afterFrame t (some res) = (s.setTc t (readingOver (countedTc (s.tc t) r) r res)).readPump t := by
  unfold State.afterFrame
  dsimp only
  rw [afterFrame_counted job, endReading_eq (r := r) (by rw [State.setTc_tc]; exact job), State.setTc_tc, setTc_setTc]

/-- A frame that does not end the reading: a hitch at 32 entries, or the next frame (R139). -/
theorem afterFrame_goes (job : (s.tc t).job = some (.read r)) :
    s.afterFrame t none =
      (if 32 ≤ (countedTc (s.tc t) r).blockQ.length then
        s.setTc t (Tc.goto { countedTc (s.tc t) r with job := some (.read { r with hitches := r.hitches + 1 }) } .hitch)
      else s.setTc t (countedTc (s.tc t) r)).readPump t := by
  unfold State.afterFrame
  dsimp only
  rw [afterFrame_counted job, State.setTc_tc]
  unfold Config.blockMax
  split
  · rw [modRead_of_read (r := r) (by rw [State.setTc_tc]; exact job), State.setTc_tc, setTc_setTc, modTc_eq, State.setTc_tc,
      setTc_setTc]
  · rfl

/-- Where a reading goes from a frame: it reads on with the frame counted, or it has left READING with an armed copy
moved. -/
def FrameCounted (u : Tc) (counted : Gov) : Prop :=
  u.gov = if u.st = .reading then counted else armedMoved counted

/-- A pump behind a change of the controller that has left READING. -/
theorem frameCounted_left {v : State} {r' : ReadJob} {counted : Gov} (job : (v.tc t).job = some (.read r'))
    (no_resume : (v.tc t).st ≠ .waiting ∨ r'.ended ≠ none) (left : (v.tc t).st.streams = false)
    (gov : (v.tc t).gov = armedMoved counted) : FrameCounted ((v.readPump t).tc t) counted := by
  have not_reading : (v.tc t).st ≠ .reading := fun h => by
    rw [h] at left
    cases left
  unfold FrameCounted
  obtain ⟨st, same⟩ | ⟨st, moved⟩ := readPump_motion job no_resume
  · rw [st, if_neg not_reading, same, gov]
  · rw [st, if_neg (by decide), moved, left, if_neg (by decide), gov]

theorem frameCounted_reading {v : State} {r' : ReadJob} {counted : Gov} (job : (v.tc t).job = some (.read r'))
    (reading : (v.tc t).st = .reading) (gov : (v.tc t).gov = counted) : FrameCounted ((v.readPump t).tc t) counted := by
  unfold FrameCounted
  obtain ⟨st, same⟩ | ⟨st, moved⟩ := readPump_motion job (.inl (by rw [reading]; decide))
  · rw [st, if_pos reading, same, gov]
  · rw [st, if_neg (by decide), moved, reading, gov]
    rfl

theorem afterFrame_frameCounted (reading : (s.tc t).st = .reading) (job : (s.tc t).job = some (.read r))
    (stop : Option JobResult) : FrameCounted ((s.afterFrame t stop).tc t) (countedTc (s.tc t) r).gov := by
  cases stop with
  | some res =>
    obtain ⟨gov, moved, over_⟩ := readingOver_parts (countedTc (s.tc t) r) r res
    have streams : (countedTc (s.tc t) r).st.streams = true := by
      show (s.tc t).st.streams = true
      rw [reading]
      rfl
    rw [streams, if_pos rfl] at moved
    rw [afterFrame_stops job, over_]
    refine frameCounted_left (r' := { r with ended := some res }) ?_ (.inr (by simp)) ?_ ?_
    all_goals rw [State.setTc_tc]
    · rfl
    · exact moved
  | none =>
    rw [afterFrame_goes job]
    split
    · refine frameCounted_left (r' := { r with hitches := r.hitches + 1 }) ?_ (.inl ?_) ?_ ?_
      all_goals rw [State.setTc_tc]
      · exact Tc.goto_job ..
      · rw [Tc.goto_st]
        decide
      · rw [Tc.goto_st]
        rfl
      · rw [goto_gov]
        show (if (s.tc t).st.streams && _ then _ else _) = _
        rw [reading]
        rfl
    · refine frameCounted_reading (r' := r) ?_ ?_ ?_
      all_goals rw [State.setTc_tc]
      · exact job
      · exact reading

/-- A read fault of a reading with the frame counted (R160). -/
theorem readFault_frameCounted (reading : (s.tc t).st = .reading) (job : (s.tc t).job = some (.read r)) :
    FrameCounted ((s.readFault t).tc t) (s.tc t).gov := by
  have ends : ∀ (v : State) (r' : ReadJob) (res : JobResult), (v.tc t).job = some (.read r') → (v.tc t).st = .reading →
      (v.tc t).gov = (s.tc t).gov → FrameCounted (((v.endReading t res).readPump t).tc t) (s.tc t).gov := by
    intro v r' res job' reading' gov'
    obtain ⟨gov, moved, over_⟩ := readingOver_parts (v.tc t) r' res
    rw [reading', gov', show TcState.streams .reading = true from rfl, if_pos rfl] at moved
    rw [endReading_eq job', over_]
    refine frameCounted_left (r' := { r' with ended := some res }) ?_ (.inr (by simp)) ?_ ?_
    all_goals rw [State.setTc_tc]
    · rfl
    · exact moved
  unfold State.readFault
  rw [readJob_of_job job]
  dsimp only
  split
  · rw [modRead_of_read job]
    refine ends _ { r with readFault := some r.x } .readFault ?_ ?_ ?_
    all_goals rw [State.setTc_tc]
    exact reading
  · rw [modRead_of_read job]
    split
    · refine ends _ r.unreadable _ ?_ ?_ ?_
      all_goals rw [State.setTc_tc]
      exact reading
    · split
      · refine ends _ r.unreadable _ ?_ ?_ ?_
        all_goals rw [State.setTc_tc]
        exact reading
      · rw [modRead_of_read (r := r.unreadable) (by rw [State.setTc_tc]), State.setTc_tc, setTc_setTc, modTc_eq,
          State.setTc_tc, setTc_setTc]
        refine frameCounted_left (r' := r.unreadable.resync) ?_ (.inl ?_) ?_ ?_
        all_goals rw [State.setTc_tc]
        · exact Tc.goto_job ..
        · show (Tc.goto _ .locating).st ≠ _
          rw [Tc.goto_st]
          decide
        · show (Tc.goto _ .locating).st.streams = false
          rw [Tc.goto_st]
          rfl
        · show (Tc.goto _ .locating).gov = _
          rw [goto_gov]
          show (if (s.tc t).st.streams && _ then _ else _) = _
          rw [reading]
          rfl

/-! ### The frame itself -/

theorem passed_parts (c : Tc) (raw : RawFrame) : ∃ pos, c.passed raw = { c with pos := pos } := by
  unfold Tc.passed
  split <;> exact ⟨_, rfl⟩

/-- The controller of a reading past one frame more (R76, R165). -/
def readSeen (c : Tc) (r : ReadJob) (raw : RawFrame) : Tc :=
  { c.passed raw with job := some (.read { r with framesRead := r.framesRead + 1 }) }

theorem readOne_eq (reading : (s.tc t).st = .reading) (job : (s.tc t).job = some (.read r)) (raw : RawFrame) :
    s.readOne t raw =
      match classify r.x raw with
      | .accepted f mark =>
        let v := (s.setTc t (readSeen (s.tc t) r raw)).acceptFrame t r f mark
        v.afterFrame t (((v.tc t).readJob).bind (·.endsAt mark))
      | .endOfData _ => (s.setTc t (readSeen (s.tc t) r raw)).afterFrame t (some r.atEnd)
      | .uncounted => (s.setTc t (readSeen (s.tc t) r raw)).afterFrame t none
      | .counted =>
        let v := (s.setTc t (readSeen (s.tc t) r raw)).modRead t fun r => r.skipOne raw
        if 64 ≤ r.skip + 1 then
          (v.modTc t fun c => { c with gov := c.gov.countFrame false c.blockQ.length }).readFault t
        else v.afterFrame t none := by
  have seen : (s.modTc t fun c => c.passed raw).modRead t (fun r => { r with framesRead := r.framesRead + 1 }) =
      s.setTc t (readSeen (s.tc t) r raw) := by
    have running : ((s.tc t).passed raw).job = some (.read r) := by
      obtain ⟨pos, e⟩ := passed_parts (s.tc t) raw
      rw [e]
      exact job
    rw [modTc_eq, modRead_of_read (r := r) (by rw [State.setTc_tc]; exact running), State.setTc_tc, setTc_setTc]
    rfl
  unfold State.readOne
  rw [reading, readJob_of_job job]
  dsimp only
  rw [seen] <;> cases classify r.x raw <;> rfl

/-- An acceptance, its learning and its watch test apart (R146). -/
theorem acceptFrame_eq {r₁ : ReadJob} (job : (s.tc t).job = some (.read r₁)) (f : ReadFrame) (mark : Bool) :
    s.acceptFrame t r f mark =
      ((s.setTc t { s.tc t with
        blockQ := (s.tc t).blockQ ++ [f.entry mark r.pendingGaps]
        job := some (.read (r₁.take f mark)) }).learn t f.info mark).watchTest t (Job.kind (.read r)) mark f.hdr.addr f.hdr.file
          f.hdr.frame := by
  unfold State.acceptFrame
  dsimp only
  rw [modTc_eq, modRead_of_read (r := r₁) (by rw [State.setTc_tc]; exact job), State.setTc_tc, setTc_setTc]

/-- What a watch test leaves of the controller but the watch point (R164). -/
theorem watchTest_tc (s : State) (t : Tr) (kind : JobKind) (mark : Bool) (addr file frame : Nat) :
    ∃ w, (s.watchTest t kind mark addr file frame).tc t = { s.tc t with watch := w } := by
  unfold State.watchTest
  split
  · exact ⟨_, rfl⟩
  · split
    · rw [State.notify_tc]
      exact ⟨_, rfl⟩
    · exact ⟨_, rfl⟩
  · split
    · rw [State.notify_tc, State.modTc_tc]
      exact ⟨_, rfl⟩
    · exact ⟨_, rfl⟩

theorem learn_tc (s : State) (t u : Tr) (i : ReadInfo) (mark : Bool) : (s.learn t i mark).tc u = s.tc u := by
  unfold State.learn
  split
  · rw [modBay_tc]
  · rfl

theorem acceptFrame_tc {r₁ : ReadJob} (job : (s.tc t).job = some (.read r₁)) (f : ReadFrame) (mark : Bool) :
    ∃ w, (s.acceptFrame t r f mark).tc t = { s.tc t with
      blockQ := (s.tc t).blockQ ++ [f.entry mark r.pendingGaps], job := some (.read (r₁.take f mark)), watch := w } := by
  rw [acceptFrame_eq job]
  obtain ⟨w, e⟩ := watchTest_tc ((s.setTc t { s.tc t with
    blockQ := (s.tc t).blockQ ++ [f.entry mark r.pendingGaps]
    job := some (.read (r₁.take f mark)) }).learn t f.info mark) t (Job.kind (.read r)) mark f.hdr.addr f.hdr.file f.hdr.frame
  rw [learn_tc, State.setTc_tc] at e
  exact ⟨w, e⟩

/-- Q behind an acceptance: a mark at the head does not stay (R149; log entry 29). -/
theorem takeHeads_accepted {q : List QEntry} (plain : HeadPlain q) (f : ReadFrame) (mark : Bool) (gaps : List Gap)
    (restore : Bool) (d : List DItem) :
    (Machine.takeHeads restore (q ++ [f.entry mark gaps]) d).1.length =
      if mark ∧ q = [] then 0 else q.length + 1 := by
  obtain rfl | ⟨i, b, rest, rfl⟩ := plain
  · cases mark
    · rfl
    · rw [if_pos ⟨rfl, rfl⟩]
      cases restore <;> rfl
  · rw [if_neg (by simp)]
    simp [Machine.takeHeads]

end

section
variable {s : State} {t : Tr}

theorem readSeen_parts (c : Tc) (r : ReadJob) (raw : RawFrame) :
    ∃ pos, readSeen c r raw = { c with pos := pos, job := some (.read { r with framesRead := r.framesRead + 1 }) } := by
  obtain ⟨pos, e⟩ := passed_parts c raw
  refine ⟨pos, ?_⟩
  unfold readSeen
  rw [e]

/-- Every frame read in READING counts with the block queue after its acceptance (R136, R146, R149). -/
theorem readOne_frameCounted {r : ReadJob} {q : Nat} {counted : Gov} (reading : (s.tc t).st = .reading)
    (job : (s.tc t).job = some (.read r))
    (head : (s.tc t).blockQ = [] ∨ ∃ i b rest, (s.tc t).blockQ = .readBlock i b [] :: rest) (raw : RawFrame)
    (hq : q = (match classify r.x raw with
        | .accepted _ mark => if mark ∧ (s.tc t).blockQ = [] then 0 else (s.tc t).blockQ.length + 1
        | _ => (s.tc t).blockQ.length))
    (hc : counted = (s.tc t).gov.countFrame false q) : FrameCounted ((s.readOne t raw).tc t) counted := by
  obtain ⟨pos, seen⟩ := readSeen_parts (s.tc t) r raw
  obtain ⟨r₁, hr⟩ : ∃ r₁, { r with framesRead := r.framesRead + 1 } = r₁ := ⟨_, rfl⟩
  rw [hr] at seen
  obtain ⟨v, hv⟩ : ∃ v, s.setTc t (readSeen (s.tc t) r raw) = v := ⟨_, rfl⟩
  have tc : v.tc t = { s.tc t with pos := pos, job := some (.read r₁) } := by rw [← hv, State.setTc_tc, seen]
  have running : (v.tc t).job = some (.read r₁) := by rw [tc]
  have plain : ∀ (r' : ReadJob) (c : Tc), c.blockQ = (s.tc t).blockQ → c.gov = (s.tc t).gov →
      (countedTc c r').gov = (s.tc t).gov.countFrame false (s.tc t).blockQ.length := fun r' c queue gov => by
    unfold countedTc
    rw [queue, gov, takeHeads_plain head]
  have whole : ∀ stop, FrameCounted ((v.afterFrame t stop).tc t) ((s.tc t).gov.countFrame false (s.tc t).blockQ.length) :=
    fun stop => by
      rw [← plain r₁ (v.tc t) (by rw [tc]) (by rw [tc])]
      exact afterFrame_frameCounted (by rw [tc]; exact reading) running stop
  rw [readOne_eq reading job, hv]
  cases verdict : classify r.x raw with
  | accepted f mark =>
    rw [verdict] at hq
    dsimp only at hq ⊢
    obtain ⟨w, accepted⟩ := acceptFrame_tc (r := r) running f mark
    obtain ⟨u, hu⟩ : ∃ u, v.acceptFrame t r f mark = u := ⟨_, rfl⟩
    rw [hu] at accepted ⊢
    rw [tc] at accepted
    have gov : (countedTc (u.tc t) (r₁.take f mark)).gov = counted := by
      unfold countedTc
      rw [accepted]
      dsimp only
      rw [takeHeads_accepted head, hc, hq]
    rw [← gov]
    exact afterFrame_frameCounted (by rw [accepted]; exact reading) (by rw [accepted]) _
  | endOfData f =>
    rw [verdict] at hq
    subst hc hq
    exact whole _
  | uncounted =>
    rw [verdict] at hq
    subst hc hq
    exact whole _
  | counted =>
    rw [verdict] at hq
    subst hc hq
    dsimp only
    rw [modRead_of_read running]
    have skipped : ∀ c : Tc, c.st = .reading → c.blockQ = (s.tc t).blockQ → c.gov = (s.tc t).gov →
        c.job = some (.read (r₁.skipOne raw)) →
        FrameCounted (((v.setTc t c).afterFrame t none).tc t) ((s.tc t).gov.countFrame false (s.tc t).blockQ.length) := by
      intro c st queue gov skip
      rw [← plain (r₁.skipOne raw) c queue gov]
      have after := afterFrame_frameCounted (s := v.setTc t c) (t := t) (r := r₁.skipOne raw) (by rw [State.setTc_tc]; exact st)
        (by rw [State.setTc_tc]; exact skip) none
      rw [State.setTc_tc] at after
      exact after
    split
    · have fault := readFault_frameCounted (t := t) (r := r₁.skipOne raw)
        (s := (v.setTc t { v.tc t with job := some (.read (r₁.skipOne raw)) }).modTc t fun c =>
          { c with gov := c.gov.countFrame false c.blockQ.length })
        (by rw [State.modTc_tc, State.setTc_tc, tc]; exact reading) (by rw [State.modTc_tc, State.setTc_tc])
      have gov : (((v.setTc t { v.tc t with job := some (.read (r₁.skipOne raw)) }).modTc t fun c =>
          { c with gov := c.gov.countFrame false c.blockQ.length }).tc t).gov =
          (s.tc t).gov.countFrame false (s.tc t).blockQ.length := by
        rw [State.modTc_tc, State.setTc_tc, tc]
      rw [gov] at fault
      exact fault
    · exact skipped _ (by rw [tc]; exact reading) (by rw [tc]) (by rw [tc]) rfl

/-! ## The ends of streaming jobs -/

/-- A read job that an ABORT IMMEDIATE ends (R162, R165). -/
theorem abortReadNow_ends {r : ReadJob} (job : (s.tc t).job = some (.read r)) (tach : Nat) :
    JobEnded t (Job.kind (.read r)) .aborted
        (reportOf (s.abortReadNow t tach) (s.mtb.get (.bay t)) s.free
          (.read (ReadJob.leave { r with ended := some .aborted } (s.tc t).intake)) .aborted) s (s.abortReadNow t tach) ∧
      ((s.abortReadNow t tach).tc t).st = .ready ∧ ((s.abortReadNow t tach).tc t).pos = (s.tc t).abortPos tach ∧
      (s.abortReadNow t tach).lnk.replies = s.lnk.replies ∧
      ((s.abortReadNow t tach).tc t).gov = if (s.tc t).st.streams then armedMoved (s.tc t).gov else (s.tc t).gov := by
  obtain ⟨v, hv⟩ : ∃ v, s.setTc t { s.tc t with
      pos := (s.tc t).abortPos tach, job := some (.read { r with ended := some .aborted }) } = v := ⟨_, rfl⟩
  have before : (s.modRead t fun r => { r with ended := some .aborted }).modTc t (fun c => { c with pos := c.abortPos tach }) = v := by
    rw [modRead_of_read job, modTc_eq, State.setTc_tc, setTc_setTc, ← hv]
    rfl
  have tc : v.tc t = { s.tc t with
      pos := (s.tc t).abortPos tach, job := some (.read { r with ended := some .aborted }) } := by rw [← hv, State.setTc_tc]
  have running : (v.tc t).job = some (.read { r with ended := some .aborted }) := by rw [tc]
  obtain ⟨ended, st, pos, -, gov⟩ := endRead_ends running .aborted
  have replies := ((Local.refl t v).endRead .aborted).replies
  have link : v.lnk = s.lnk := by rw [← hv, State.setTc_lnk]
  have kept : Local t s v := by
    rw [← hv]
    exact (Local.refl t s).setTc _
  have mtb : v.mtb = s.mtb := by rw [← hv, State.setTc_mtb]
  have free : v.free = s.free := by rw [← hv, State.setTc_free]
  unfold State.abortReadNow
  dsimp only
  rw [before]
  rw [tc] at ended pos gov
  rw [mtb, free] at ended
  refine ⟨jobEnded_of_local kept link ended, st, pos, by rw [replies, link], gov⟩

/-- An ABORT IMMEDIATE of a read job outside its first locate (R162). -/
theorem abort_read_now {r : ReadJob} (takes : Takes s) (job : (s.tc t).job = some (.read r)) (short : r.short = none)
    (no_locate : (s.tc t).locate = none) (tag : Byte) (bay : BaySense) :
    Runs (.abort t tag .immediate bay) s
      ((replied s (.transport t) tag 0x27 (.done [])).abortReadNow t bay.tach) := by
  have runs : Runs (.abort t tag .immediate bay) s (s.takeAbort t tag .immediate bay) :=
    runs_of_gate (take := fun s => s.takeAbort t tag .immediate bay) rfl takes
  unfold State.takeAbort Tc.locatingFirst State.abortRead at runs
  rw [job, no_locate] at runs
  dsimp only at runs
  rw [short] at runs
  exact runs

/-- A write job after its drain, with what its last EOD frame gives (R122, R123). -/
def writeOver (c : Tc) (w : WriteJob) (h : Header) (unconfirmed : Bool) : Tc :=
  { Tc.goto { c with inflight := c.inflight.tail } .ready with
    pos := some (h.frame + 1)
    job := some (.write { w with
      eodAddr := some h.addr, eodFrame := some h.frame, eodUnconfirmed := unconfirmed
      rawDiscarded := w.rawDiscarded + intakeRaw c.intake }) }

/-- The state before the end of a write job after its drain (R122, R123). -/
def beforeEnd (s : State) (t : Tr) (w : WriteJob) (h : Header) (unconfirmed : Bool) : State :=
  State.setTc { s with mtb := s.mtb.modify (.bay t) fun r => r.writeEnd h } t (writeOver (s.tc t) w h unconfirmed)

variable {w : WriteJob}

theorem endWrite_eq (job : (s.tc t).job = some (.write w)) (h : Header) (unconfirmed : Bool) :
    (s.setTc t { s.tc t with inflight := (s.tc t).inflight.tail }).endWrite t h unconfirmed =
      (beforeEnd s t w h unconfirmed).endJob t w.result := by
  have running : ((s.setTc t { s.tc t with inflight := (s.tc t).inflight.tail }).tc t).job = some (.write w) := by
    rw [State.setTc_tc]
    exact job
  unfold State.endWrite
  rw [writeJob_of_job running]
  dsimp only
  refine congrArg (fun v : State => v.endJob t w.result) ?_
  obtain ⟨m, hm⟩ : ∃ m, (s.mtb.modify (.bay t) fun r => r.writeEnd h) = m := ⟨_, rfl⟩
  have recorded : (s.setTc t { s.tc t with inflight := (s.tc t).inflight.tail }).modBay t (fun r => r.writeEnd h) =
      State.setTc { s with mtb := m } t { s.tc t with inflight := (s.tc t).inflight.tail } := by
    rw [← hm]
    cases t <;> rfl
  unfold beforeEnd
  rw [recorded, hm, modTc_eq, State.setTc_tc, setTc_setTc, modWrite_of_write (w := w)
    (by rw [State.setTc_tc]; exact (Tc.goto_job ..).trans job)]
  simp only [State.setTc_tc, setTc_setTc]
  rfl

/-- The end of a write job at an EOD frame (R122, R123). -/
theorem eodEnd_ends (s : State) (t : Tr) (w : WriteJob) (f : WFrame) (unconfirmed : Bool) :
    JobEnded t .write w.result
        (reportOf ((beforeEnd s t w f.hdr unconfirmed).endJob t w.result)
          ((s.mtb.get (.bay t)).map fun r => r.writeEnd f.hdr) s.free
          (.write { w with
            eodAddr := some f.hdr.addr, eodFrame := some f.hdr.frame, eodUnconfirmed := unconfirmed
            rawDiscarded := w.rawDiscarded + intakeRaw (s.tc t).intake }) w.result) s
        ((beforeEnd s t w f.hdr unconfirmed).endJob t w.result) ∧
      (((beforeEnd s t w f.hdr unconfirmed).endJob t w.result).tc t).st = .ready ∧
      (((beforeEnd s t w f.hdr unconfirmed).endJob t w.result).tc t).pos = some (f.hdr.frame + 1) ∧
      (((beforeEnd s t w f.hdr unconfirmed).endJob t w.result).tc t).gov =
        if (s.tc t).st.streams then armedMoved (s.tc t).gov else (s.tc t).gov := by
  obtain ⟨c, hc⟩ : ∃ c, writeOver (s.tc t) w f.hdr unconfirmed = c := ⟨_, rfl⟩
  obtain ⟨m, hm⟩ : ∃ m, (s.mtb.modify (.bay t) fun r => r.writeEnd f.hdr) = m := ⟨_, rfl⟩
  have running : c.job = some (.write { w with
      eodAddr := some f.hdr.addr, eodFrame := some f.hdr.frame, eodUnconfirmed := unconfirmed
      rawDiscarded := w.rawDiscarded + intakeRaw (s.tc t).intake }) := by rw [← hc]; rfl
  have record : m.get (.bay t) = (s.mtb.get (.bay t)).map fun r => r.writeEnd f.hdr := by rw [← hm, Mtb.get_modify]
  have before : beforeEnd s t w f.hdr unconfirmed = State.setTc { s with mtb := m } t c := by rw [← hc, ← hm]; rfl
  have kept : Local t s { s with mtb := m } := by
    rw [← hm]
    exact (Local.refl t s).modBay _
  have ended := jobEnded_of_local kept rfl (endJob_after (s := { s with mtb := m }) (t := t) running w.result)
  rw [record] at ended
  rw [before, endJob_after_tc running]
  refine ⟨ended, ?_, ?_, ?_⟩
  all_goals rw [← hc]
  · exact Tc.goto_st ..
  · rfl
  · show (Tc.goto _ .ready).gov = _
    rw [goto_gov, show TcState.streams .ready = false from rfl, Bool.not_false, Bool.and_true]

theorem readBack_eod {f : WFrame} {raw : RawFrame} (job : (s.tc t).job = some (.write w))
    (flight : (s.tc t).inflight = [f]) (no_entry : f.entry = none) (eod : f.hdr.kind = 5)
    (last : judge f.hdr raw = true ∨ 3 ≤ w.eodFrames ∨ s.frames t ≤ (s.tc t).pos.getD 0) :
    Runs (.readBackResult t f.hdr.frame raw) s ((beforeEnd s t w f.hdr (!judge f.hdr raw)).endJob t w.result) := by
  refine runs_of_eq (v := s.readBack t f.hdr.frame raw) rfl ?_
  have result : s.readBack t f.hdr.frame raw = s.eodResult t w f (judge f.hdr raw) := by
    unfold State.readBack
    rw [job]
    show s.writeResult t w f.hdr.frame raw = _
    unfold State.writeResult
    rw [flight]
    dsimp only
    rw [if_neg (by simp), no_entry]
    exact if_pos (decide_eq_true eod)
  rw [result, ← endWrite_eq job]
  unfold State.eodResult
  dsimp only
  cases good : judge f.hdr raw with
  | true => rfl
  | false =>
    rw [if_neg Bool.false_ne_true, if_neg]
    · rfl
    · rw [good] at last
      obtain h | h | h := last
      · cases h
      · omega
      · omega

end

/-- Settles O38: an evaluation, the frames of a write job and of a reading, and the ways out of streaming. -/
theorem evaluationMovesTheAccumulator : Obligations.EvaluationMovesTheAccumulator := by
  unfold Obligations.EvaluationMovesTheAccumulator
  refine ⟨fun g m writing q e k hm he hk => ⟨fun before => countFrame_before before writing q, fun reached => ?_⟩,
    fun s t w f counted job busy hc => ?_, fun s t r raw q counted reading job running head hq hc => ?_,
    fun s t streams => ⟨?_, fun r tag bay takes job short no_locate => ?_, fun w f raw job flight no_entry eod good => ?_⟩⟩
  · have at_ := countFrame_at reached writing q
    have error : m.active.error writing q = e := by rw [he]; rfl
    rw [← hm, error] at at_
    refine ⟨fun lo hi => at_.trans (update_inside lo hi), fun outside => ⟨_, at_.trans (update_outside outside), ?_⟩⟩
    rw [delta_eq, ← hk]
    rfl
  · obtain ⟨u, w', v, runs, gathered, chose⟩ := writeCompletion_chose job busy
    obtain ⟨st, gov, -⟩ := gathered.motion
    have before := chose.motion
    rw [State.setTc_tc] at before
    refine ⟨u, runs, fun writing => ?_, fun draining => ?_⟩
    · have gov₀ : (wroteOne (s.tc t) w f).gov = counted := by
        rw [hc]
        exact if_pos writing
      rw [st, gov]
      obtain ⟨-, same, goes⟩ | ⟨-, -, hitch, moved, -⟩ := before
      · have not_hitch : (v.tc t).st ≠ .hitch := by
          obtain h | ⟨-, h⟩ := goes
          · rw [h]
            show (s.tc t).st ≠ .hitch
            rw [writing]
            decide
          · rw [h]
            decide
        rw [if_neg not_hitch, same, gov₀]
      · rw [if_pos hitch, moved, gov₀]
    · have gov₀ : (wroteOne (s.tc t) w f).gov = (s.tc t).gov := if_neg (by rw [draining]; decide)
      rw [gov]
      obtain ⟨-, same, -⟩ | ⟨-, writing, -⟩ := before
      · rw [same, gov₀]
      · have st₀ : (wroteOne (s.tc t) w f).st = (s.tc t).st := rfl
        rw [st₀, draining] at writing
        cases writing
  · exact ⟨_, runs_of_eq (v := s.readOne t raw) rfl rfl, readOne_frameCounted reading job head raw hq hc⟩
  · refine ⟨_, portFault_runs ?_, ?_, ?_⟩
    · obtain h | h | h := streams <;> rw [h] <;> decide
    · rw [mechFault_tc]
      exact Tc.goto_st ..
    · rw [mechFault_tc]
      show (Tc.goto (tcCut (s.tc t)) .faulted).gov = _
      rw [goto_gov]
      have moving : (tcCut (s.tc t)).st.streams = true := by
        show (s.tc t).st.streams = true
        obtain h | h | h := streams <;> rw [h] <;> rfl
      rw [moving]
      rfl
  · obtain ⟨ends, st, -, -, gov⟩ := abortReadNow_ends (s := replied s (.transport t) tag 0x27 (.done [])) (t := t)
      (r := r) (by rw [replied_tc]; exact job) bay.tach
    refine ⟨_, abort_read_now takes job short no_locate tag bay, st, ?_⟩
    rw [gov, replied_tc, if_pos (by obtain h | h | h := streams <;> rw [h] <;> rfl)]
  · refine ⟨_, readBack_eod job flight no_entry eod (.inl good), ?_⟩
    obtain ⟨-, st, -, gov⟩ := eodEnd_ends s t w f (!judge f.hdr raw)
    refine ⟨st, ?_⟩
    rw [gov, if_pos (by obtain h | h | h := streams <;> rw [h] <;> rfl)]

end Sys2Proof.Proofs
end

section
/-! PROOFS. The watch point: its request, its test, and the events that test it (R163, R164). -/

open Sys2Proof Sys2Proof.Machine Sys2Proof.Claims

namespace Sys2Proof.Proofs

-- One declaration at a time: elaborated in parallel, the joined text needs more threads than the memory limit holds.
set_option Elab.async false

/-! ## The test (R164) -/

section
variable {s : State} {t : Tr}

theorem watchTest_off (off : (s.tc t).watch = .off) (kind : JobKind) (mark : Bool) (addr file frame : Nat) :
    s.watchTest t kind mark addr file frame = s := by
  unfold State.watchTest
  rw [off]

theorem watchTest_marks (marks : (s.tc t).watch = .marks) (kind : JobKind) (mark : Bool) (addr file frame : Nat) :
    s.watchTest t kind mark addr file frame =
      if mark then { s with lnk := queued s.lnk [.watchReached t kind addr mark file frame] } else s := by
  unfold State.watchTest
  rw [marks]
  rfl

theorem watchTest_address {a : Word} (watch : (s.tc t).watch = .address a) (kind : JobKind) (mark : Bool)
    (addr file frame : Nat) :
    s.watchTest t kind mark addr file frame =
      if addr = a.toNat then
        State.setTc { s with lnk := queued s.lnk [.watchReached t kind addr mark file frame] } t { s.tc t with watch := .off }
      else s := by
  unfold State.watchTest
  rw [watch]
  dsimp only
  split
  · cases t <;> rfl
  · rfl

end

/-- A WATCH_REACHED joins the notices, or meets them full (R176, R177). -/
theorem watches_push (l : Lnk) (t : Tr) (kind : JobKind) (addr : Nat) (mark : Bool) (file frame : Nat) :
    watches (queued l [.watchReached t kind addr mark file frame]) =
        watches l ++ [.watchReached t kind addr mark file frame] ∨
      ((queued l [.watchReached t kind addr mark file frame]).lost = true ∧ 32 ≤ l.notices.length ∧
        watches (queued l [.watchReached t kind addr mark file frame]) = watches l) := by
  show watches (l.pushNotice _) = _ ∨ (l.pushNotice _).lost = true ∧ _ ∧ watches (l.pushNotice _) = _
  obtain ⟨-, e⟩ | ⟨full, e⟩ := l.pushNotice_cases (.watchReached t kind addr mark file frame)
  all_goals rw [e]
  · refine .inl ?_
    rw [watches_eq, watches_eq, List.filter_append]
    rfl
  · exact .inr ⟨rfl, full, rfl⟩

/-- The notices of a link in which no WATCH_REACHED has come or gone, and no loss has been forgotten. -/
def Told (l l' : Lnk) : Prop := watches l' = watches l ∧ (l.lost = true → l'.lost = true)

theorem Told.trans {l m n : Lnk} (h : Told l m) (h' : Told m n) : Told l n := ⟨h'.1.trans h.1, h'.2 ∘ h.2⟩

theorem Told.refl (l : Lnk) : Told l l := ⟨rfl, id⟩

theorem told_push {n : Notice} (watch : isWatch n = false) (l : Lnk) : Told l (l.pushNotice n) := by
  obtain ⟨-, e⟩ | ⟨-, e⟩ := l.pushNotice_cases n
  all_goals rw [e]
  · refine ⟨?_, id⟩
    rw [watches_eq, watches_eq, List.filter_append, List.filter_cons, List.filter_nil, watch]
    exact List.append_nil _
  · exact ⟨rfl, fun _ => rfl⟩

theorem Grew.told {l l' : Lnk} (h : Grew l l') : Told l l' := ⟨h.watches, h.lost⟩

/-- A watch test with events before it that leave the notices and the watch point, and after it that leave both. -/
theorem watchTested_of {s v u : State} {t : Tr} {kind : JobKind} {mark : Bool} {addr file frame : Nat}
    (watch : (v.tc t).watch = (s.tc t).watch) (before : watches v.lnk = watches s.lnk)
    (full : 32 ≤ v.lnk.notices.length → 32 ≤ s.lnk.notices.length ∨ 32 ≤ u.lnk.notices.length)
    (after : Told (v.watchTest t kind mark addr file frame).lnk u.lnk ∧
      (u.tc t).watch = ((v.watchTest t kind mark addr file frame).tc t).watch) :
    WatchTested t kind addr mark file frame s u := by
  obtain ⟨⟨told, lost⟩, point⟩ := after
  unfold WatchTested
  dsimp only
  rw [← watch, ← before]
  cases at_ : (v.tc t).watch with
  | off =>
    rw [watchTest_off at_] at told point
    refine ⟨fun named => ?_, fun _ => ⟨point.trans at_, told⟩⟩
    simp at named
  | marks =>
    rw [watchTest_marks at_] at told lost point
    cases mark with
    | false =>
      refine ⟨fun named => ?_, fun _ => ⟨point.trans at_, told⟩⟩
      simp at named
    | true =>
      refine ⟨fun _ => ⟨?_, ?_⟩, fun unnamed => absurd (.inl ⟨rfl, rfl⟩) unnamed⟩
      · rw [if_pos rfl]
        exact (point.trans (by cases t <;> rfl)).trans at_
      · rw [if_pos rfl] at told lost
        obtain joined | ⟨dropped, met, same⟩ := watches_push v.lnk t kind addr true file frame
        · exact .inl (told.trans joined)
        · exact .inr ⟨lost dropped, full met, told.trans same⟩
  | address a =>
    rw [watchTest_address at_] at told lost point
    by_cases hit : addr = a.toNat
    · rw [if_pos hit] at told lost point
      rw [State.setTc_lnk] at told lost
      refine ⟨fun _ => ⟨?_, ?_⟩, fun unnamed => absurd (.inr ⟨a, rfl, hit.symm⟩) unnamed⟩
      · rw [if_neg (by simp)]
        exact point.trans (by rw [State.setTc_tc])
      · obtain joined | ⟨dropped, met, same⟩ := watches_push v.lnk t kind addr mark file frame
        · exact .inl (told.trans joined)
        · exact .inr ⟨lost dropped, full met, told.trans same⟩
    · rw [if_neg hit] at told point
      refine ⟨fun named => ?_, fun _ => ⟨point.trans at_, told⟩⟩
      obtain ⟨h, -⟩ | ⟨b, h, eq⟩ := named
      · cases h
      · cases h
        exact absurd eq.symm hit

/-! ## What leaves it alone -/

theorem told_voidCredits (s : State) (t : Tr) : Told s.lnk (s.voidCredits t).lnk := by
  refine ⟨?_, fun lost => ?_⟩
  · rw [watches_eq, watches_eq, voidCredits_filter noCredit_isWatch]
  · rw [voidCredits_lost, lost]

/-- The end of a job takes no WATCH_REACHED away and leaves the watch point (R123, R164). -/
theorem endJob_told {s : State} {t : Tr} {j : Job} (job : (s.tc t).job = some j) (res : JobResult) :
    Told s.lnk (s.endJob t res).lnk ∧ ((s.endJob t res).tc t).watch = (s.tc t).watch := by
  refine ⟨?_, by rw [endJob_tc res job]⟩
  obtain ⟨n, ends⟩ := endJob_eq job res
  rw [ends, jobEnd_lnk]
  have cleared : Told s.lnk (jobCleared s t).lnk := by
    have voided := told_voidCredits (s.clearCtx t .none) t
    obtain ⟨-, -, -, same⟩ := clearCtx_frame s t .none
    rw [same] at voided
    unfold jobCleared
    rw [State.modTc_lnk]
    exact voided
  exact cleared.trans (told_push rfl _)

theorem readPump_told {s : State} {t : Tr} {r : ReadJob} (job : (s.tc t).job = some (.read r)) :
    Told s.lnk (s.readPump t).lnk ∧ ((s.readPump t).tc t).watch = (s.tc t).watch := by
  obtain ⟨v, r', on, ends⟩ := readPump_cases job
  obtain ⟨_, _, _, _, _, _, _, tc⟩ := on.tc
  have watch : (v.tc t).watch = (s.tc t).watch := by rw [tc]
  obtain same | ⟨res, ends⟩ := ends
  · rw [same]
    exact ⟨on.lnk.told, watch⟩
  · have left := endJob_told (s := v.setTc t (readOver (v.tc t) r')) (t := t) (by rw [State.setTc_tc]; exact readOver_job _ _) res
    rw [State.setTc_lnk, State.setTc_tc] at left
    rw [ends, endRead_eq on.running]
    exact ⟨on.lnk.told.trans left.1, left.2.trans ((Tc.goto_watch ..).trans watch)⟩

/-- A pump behind a change of the controller that leaves the watch point. -/
theorem readPump_told_after {s : State} {t : Tr} {c : Tc} {r : ReadJob} (job : c.job = some (.read r))
    (watch : c.watch = (s.tc t).watch) :
    Told s.lnk ((s.setTc t c).readPump t).lnk ∧ (((s.setTc t c).readPump t).tc t).watch = (s.tc t).watch := by
  have left := readPump_told (s := s.setTc t c) (t := t) (r := r) (by rw [State.setTc_tc]; exact job)
  rw [State.setTc_lnk, State.setTc_tc] at left
  exact ⟨left.1, left.2.trans watch⟩

theorem readingOver_watch (c : Tc) (r : ReadJob) (res : JobResult) : (readingOver c r res).watch = c.watch :=
  Tc.goto_watch ..

theorem readingOver_job (c : Tc) (r : ReadJob) (res : JobResult) :
    (readingOver c r res).job = some (.read { r with ended := some res }) :=
  Tc.goto_job ..

theorem afterFrame_told {s : State} {t : Tr} {r : ReadJob} (job : (s.tc t).job = some (.read r)) (stop : Option JobResult) :
    Told s.lnk (s.afterFrame t stop).lnk ∧ ((s.afterFrame t stop).tc t).watch = (s.tc t).watch := by
  cases stop with
  | some res =>
    rw [afterFrame_stops job]
    exact readPump_told_after (readingOver_job ..) (readingOver_watch ..)
  | none =>
    rw [afterFrame_goes job]
    split
    · exact readPump_told_after (r := { r with hitches := r.hitches + 1 }) (Tc.goto_job ..) (Tc.goto_watch ..)
    · exact readPump_told_after (r := r) job rfl

theorem readFault_told {s : State} {t : Tr} {r : ReadJob} (job : (s.tc t).job = some (.read r)) :
    Told s.lnk (s.readFault t).lnk ∧ ((s.readFault t).tc t).watch = (s.tc t).watch := by
  have ends : ∀ (r' : ReadJob) (res : JobResult),
      Told s.lnk (((s.setTc t { s.tc t with job := some (.read r') }).endReading t res).readPump t).lnk ∧
        ((((s.setTc t { s.tc t with job := some (.read r') }).endReading t res).readPump t).tc t).watch = (s.tc t).watch := by
    intro r' res
    rw [endReading_eq (r := r') (by rw [State.setTc_tc]), State.setTc_tc, setTc_setTc]
    exact readPump_told_after (readingOver_job ..) (readingOver_watch ..)
  unfold State.readFault
  rw [readJob_of_job job]
  dsimp only
  split
  · rw [modRead_of_read job]
    exact ends _ _
  · rw [modRead_of_read job]
    split
    · exact ends _ _
    · split
      · exact ends _ _
      · rw [modRead_of_read (r := r.unreadable) (by rw [State.setTc_tc]), State.setTc_tc, setTc_setTc, modTc_eq,
          State.setTc_tc, setTc_setTc]
        refine readPump_told_after (r := r.unreadable.resync) ?_ ?_
        · exact Tc.goto_job ..
        · exact Tc.goto_watch ..

theorem choose_gather_told {s : State} {t : Tr} {w : WriteJob} (job : (s.tc t).job = some (.write w)) :
    Told s.lnk ((s.choose t).gather t).lnk ∧ (((s.choose t).gather t).tc t).watch = (s.tc t).watch := by
  obtain ⟨w', chose⟩ := choose_chose job
  have gathered := gather_gathered chose.job
  obtain ⟨watch, -⟩ := chose.tc
  obtain ⟨-, -, watch', -⟩ := gathered.motion
  exact ⟨chose.lnk.told.trans gathered.lnk.told, watch'.trans watch⟩

/-! ## A confirmation (R115, R164) -/

section
variable {s : State} {t : Tr} {w : WriteJob}

/-- The state of a confirmation before its watch test (R115). -/
def confirmed (s : State) (t : Tr) (w : WriteJob) (f : WFrame) (e : WEntry) : State :=
  State.setTc { s with mtb := s.mtb.modify (.bay t) fun r => r.confirm e f.hdr.frame } t
    { s.tc t with inflight := (s.tc t).inflight.tail, job := some (.write (w.confirm e)) }

theorem confirm_eq (job : (s.tc t).job = some (.write w)) (f : WFrame) (e : WEntry) :
    s.confirm t f e = (confirmed s t w f e).watchTest t .write e.block.isNone e.addr e.file f.hdr.frame := by
  unfold State.confirm
  dsimp only
  refine congrArg (fun v : State => v.watchTest t .write e.block.isNone e.addr e.file f.hdr.frame) ?_
  unfold confirmed
  obtain ⟨m, hm⟩ : ∃ m, (s.mtb.modify (.bay t) fun r => r.confirm e f.hdr.frame) = m := ⟨_, rfl⟩
  have recorded : (s.modTc t fun c => { c with inflight := c.inflight.tail }).modBay t (fun r => r.confirm e f.hdr.frame) =
      State.setTc { s with mtb := m } t { s.tc t with inflight := (s.tc t).inflight.tail } := by
    rw [← hm]
    cases t <;> rfl
  rw [recorded, hm, modWrite_of_write (w := w) (by rw [State.setTc_tc]; exact job), State.setTc_tc, setTc_setTc]

/-- The result of the oldest frame, of an entry (R114, R115, R117). -/
theorem readBack_entry {f : WFrame} {rest : List WFrame} {e : WEntry} (job : (s.tc t).job = some (.write w))
    (flight : (s.tc t).inflight = f :: rest) (entry : f.entry = some e) (raw : RawFrame) :
    Runs (.readBackResult t f.hdr.frame raw) s
      (((if judge f.hdr raw then s.confirm t f e else s.tailRewrite t w).choose t).gather t) := by
  refine runs_of_eq (v := s.readBack t f.hdr.frame raw) rfl ?_
  unfold State.readBack
  rw [job]
  show s.writeResult t w f.hdr.frame raw = _
  unfold State.writeResult
  rw [flight]
  dsimp only
  rw [if_neg (by simp), entry]

theorem watchTest_job (v : State) (t : Tr) (kind : JobKind) (mark : Bool) (addr file frame : Nat) :
    ((v.watchTest t kind mark addr file frame).tc t).job = (v.tc t).job := by
  obtain ⟨_, e⟩ := watchTest_tc v t kind mark addr file frame
  rw [e]

end

/-! ## A frame of a reading (R146, R164) -/

section
variable {s : State} {t : Tr} {r : ReadJob}

theorem learn_lnk (s : State) (t : Tr) (i : ReadInfo) (mark : Bool) : (s.learn t i mark).lnk = s.lnk := by
  unfold State.learn State.modBay
  split
  · rw [State.modMtb_lnk]
  · rfl

/-- A watch test of an acceptance, with what follows it leaving both (R146, R164). -/
theorem acceptFrame_tested {v u : State} {r₁ : ReadJob} (job : (v.tc t).job = some (.read r₁)) (f : ReadFrame) (mark : Bool)
    (watch : (v.tc t).watch = (s.tc t).watch) (before : watches v.lnk = watches s.lnk)
    (full : 32 ≤ v.lnk.notices.length → 32 ≤ s.lnk.notices.length ∨ 32 ≤ u.lnk.notices.length)
    (after : Told (v.acceptFrame t r f mark).lnk u.lnk ∧ (u.tc t).watch = ((v.acceptFrame t r f mark).tc t).watch) :
    WatchTested t (Job.kind (.read r)) f.hdr.addr mark f.hdr.file f.hdr.frame s u := by
  rw [acceptFrame_eq job] at after
  refine watchTested_of ?_ ?_ ?_ after
  · rw [learn_tc, State.setTc_tc]
    exact watch
  · rw [learn_lnk, State.setTc_lnk]
    exact before
  · rw [learn_lnk, State.setTc_lnk]
    exact full

theorem readOne_tested (reading : (s.tc t).st = .reading) (job : (s.tc t).job = some (.read r)) (raw : RawFrame) :
    (∀ f mark, classify r.x raw = .accepted f mark →
        WatchTested t (Job.kind (.read r)) f.hdr.addr mark f.hdr.file f.hdr.frame s (s.readOne t raw)) ∧
      ((∀ f mark, classify r.x raw ≠ .accepted f mark) →
        Told s.lnk (s.readOne t raw).lnk ∧ ((s.readOne t raw).tc t).watch = (s.tc t).watch) := by
  obtain ⟨pos, seen⟩ := readSeen_parts (s.tc t) r raw
  obtain ⟨r₁, hr⟩ : ∃ r₁, { r with framesRead := r.framesRead + 1 } = r₁ := ⟨_, rfl⟩
  rw [hr] at seen
  obtain ⟨v, hv⟩ : ∃ v, s.setTc t (readSeen (s.tc t) r raw) = v := ⟨_, rfl⟩
  have tc : v.tc t = { s.tc t with pos := pos, job := some (.read r₁) } := by rw [← hv, State.setTc_tc, seen]
  have running : (v.tc t).job = some (.read r₁) := by rw [tc]
  have watch : (v.tc t).watch = (s.tc t).watch := by rw [tc]
  have link : v.lnk = s.lnk := by rw [← hv, State.setTc_lnk]
  have plain : ∀ stop, Told s.lnk (v.afterFrame t stop).lnk ∧ ((v.afterFrame t stop).tc t).watch = (s.tc t).watch := fun stop => by
    have left := afterFrame_told running stop
    rw [link, watch] at left
    exact left
  rw [readOne_eq reading job, hv]
  cases verdict : classify r.x raw with
  | accepted f mark =>
    refine ⟨fun f' mark' same => ?_, fun other => absurd rfl (other f mark)⟩
    cases same
    obtain ⟨w, accepted⟩ := acceptFrame_tc (r := r) running f mark
    exact acceptFrame_tested running f mark watch (by rw [link]) (by rw [link]; exact .inl) (afterFrame_told (by rw [accepted]) _)
  | endOfData f => exact ⟨fun _ _ h => (nomatch h), fun _ => plain _⟩
  | uncounted => exact ⟨fun _ _ h => (nomatch h), fun _ => plain _⟩
  | counted =>
    refine ⟨fun _ _ h => (nomatch h), fun _ => ?_⟩
    dsimp only
    rw [modRead_of_read running]
    split
    · have left := readFault_told (t := t) (r := r₁.skipOne raw)
        (s := (v.setTc t { v.tc t with job := some (.read (r₁.skipOne raw)) }).modTc t fun c =>
          { c with gov := c.gov.countFrame false c.blockQ.length })
        (by rw [State.modTc_tc, State.setTc_tc])
      rw [State.modTc_lnk, State.setTc_lnk, link, State.modTc_tc, State.setTc_tc] at left
      exact ⟨left.1, left.2.trans watch⟩
    · have left := afterFrame_told (s := v.setTc t { v.tc t with job := some (.read (r₁.skipOne raw)) }) (t := t)
        (r := r₁.skipOne raw) (by rw [State.setTc_tc]) none
      rw [State.setTc_lnk, link, State.setTc_tc] at left
      exact ⟨left.1, left.2.trans watch⟩

end

/-! ## The start of a reading (R146, R153, R164; log entry 53) -/

theorem length_filter_split {α : Type} (p : α → Bool) (l : List α) :
    l.length = (l.filter p).length + (l.filter fun a => !p a).length := by
  induction l with
  | nil => rfl
  | cons a l ih =>
    rw [List.filter_cons, List.filter_cons, List.length_cons, ih]
    cases p a with
    | true => exact Nat.add_right_comm _ _ 1
    | false => rfl

/-- A queue that is full but for a CREDIT of t is full again behind the end of a job of t (R110, R176). -/
theorem endJob_full {s : State} {t : Tr} {j : Job} (job : (s.tc t).job = some j) (res : JobResult)
    (full : FullBut t s.lnk) : 32 ≤ (s.endJob t res).lnk.notices.length := by
  obtain ⟨n, ends⟩ := endJob_eq job res
  obtain ⟨long, one⟩ := full
  have voided : 31 ≤ (jobCleared s t).lnk.notices.length := by
    obtain ⟨-, -, -, same⟩ := clearCtx_frame s t .none
    unfold jobCleared State.voidCredits State.withdrawCredit
    rw [State.modTc_lnk]
    split
    · unfold State.noticeLeft
      refine Nat.le_trans ?_ (Nat.le_trans (grew_formCredit _ .tc0).length (grew_formCredit _ .tc1).length)
      rw [State.modLnk_lnk, State.modTc_lnk, same]
      have split_ := length_filter_split (Notice.isCredit t) s.lnk.notices
      dsimp only
      omega
    · rw [State.modTc_lnk, same]
      omega
  rw [ends, jobEnd_lnk]
  obtain ⟨-, e⟩ | ⟨met, e⟩ := (jobCleared s t).lnk.pushNotice_cases
    (.jobEnd t j.kind res (reportOf (s.endJob t res) (s.mtb.get (.bay t)) s.free j res))
  · rw [e, List.length_append]
    exact Nat.succ_le_succ voided
  · rw [e]
    exact met

theorem readPump_full {s : State} {t : Tr} {r : ReadJob} (job : (s.tc t).job = some (.read r)) (full : FullBut t s.lnk) :
    32 ≤ (s.readPump t).lnk.notices.length := by
  obtain ⟨v, r', on, same | ⟨res, ends⟩⟩ := readPump_cases job
  · rw [same]
    exact (on.lnk.full t full).1
  · rw [ends, endRead_eq on.running]
    refine endJob_full (by rw [State.setTc_tc]; exact readOver_job _ _) res ?_
    rw [State.setTc_lnk]
    exact on.lnk.full t full

/-- A CREDIT that fills the notice queue is the one CREDIT of its transport (R108). -/
theorem formCredit_full (s : State) (t : Tr) (filled : 32 ≤ (s.formCredit t).lnk.notices.length) :
    32 ≤ s.lnk.notices.length ∨ FullBut t (s.formCredit t).lnk := by
  unfold State.formCredit Lnk.placeCredit at filled ⊢
  dsimp only at filled ⊢
  by_cases none_pending : (s.tc t).pendingCredits = 0
  · rw [if_pos none_pending] at filled
    exact .inl filled
  rw [if_neg none_pending] at filled ⊢
  by_cases waits : s.lnk.notices.any (Notice.isCredit t) = true
  · simp only [if_pos waits, State.setTc_lnk, List.length_map] at filled
    exact .inl filled
  by_cases room : s.lnk.notices.length < Config.noticeMax
  · simp only [if_neg waits, if_pos room, State.setTc_lnk] at filled ⊢
    have before : s.lnk.notices.filter (Notice.isCredit t) = [] := by
      rw [List.filter_eq_nil_iff]
      intro n mem credit
      exact waits (List.any_eq_true.mpr ⟨n, mem, credit⟩)
    refine .inr ⟨filled, ?_⟩
    dsimp only
    rw [List.filter_append, before]
    exact List.length_filter_le _ [_]
  · simp only [if_neg waits, if_neg room] at filled
    exact .inl filled

theorem earn_full (s : State) (t : Tr) (n : Nat) (filled : 32 ≤ (s.earn t n).lnk.notices.length) :
    32 ≤ s.lnk.notices.length ∨ FullBut t (s.earn t n).lnk := by
  have formed := formCredit_full (s.modTc t fun c => { c with pendingCredits := c.pendingCredits + n }) t filled
  rw [State.modTc_lnk] at formed
  exact formed

/-- An accepted frame is the DATA or MARK frame of the expected address (R82). -/
theorem classify_accepted {x : Nat} {raw : RawFrame} {f : ReadFrame} {mark : Bool} (accepted : classify x raw = .accepted f mark) :
    readFrame raw = some f ∧ kindOf f.hdr.kind = some (if mark then .mark else .data) ∧ f.hdr.addr = x := by
  unfold classify at accepted
  split at accepted
  · cases accepted
  rename_i g read
  split at accepted
  · cases accepted
  · cases accepted
  · cases accepted
  all_goals rename_i kind
  all_goals split at accepted
  all_goals try cases accepted
  all_goals split at accepted
  all_goals cases accepted
  · rename_i hit
    exact ⟨read, kind, hit.1⟩
  · rename_i hit
    exact ⟨read, kind, hit.1⟩

section
variable {s : State} {t : Tr} {r : ReadJob}

/-- The controller at which a reading starts at a frame (R146). -/
def readStarted (c : Tc) (r : ReadJob) (f : ReadFrame) : Tc :=
  { c.stream .reading with locate := none, job := some (.read { r with framesRead := 1, x := f.hdr.addr }) }

theorem readStart_eq (job : (s.tc t).job = some (.read r)) (f : ReadFrame) (mark : Bool) :
    s.readStart t f mark =
      let v := (if r.isCompare then (s.setTc t (readStarted (s.tc t) r f)).earn t 16
        else s.setTc t (readStarted (s.tc t) r f)).acceptFrame t r f mark
      match ((v.tc t).readJob).bind (·.endsAt mark) with
      | some res => (v.endReading t res).readPump t
      | none => v.readPump t := by
  have begun : (s.modTc t fun c => { c.stream .reading with locate := none }).modRead t
      (fun r => { r with framesRead := 1, x := f.hdr.addr }) = s.setTc t (readStarted (s.tc t) r f) := by
    rw [modTc_eq, modRead_of_read (r := r) (by rw [State.setTc_tc]; exact job), State.setTc_tc, setTc_setTc]
    rfl
  unfold State.readStart
  rw [readJob_of_job job]
  dsimp only
  rw [begun] <;> rfl

/-- What follows the first acceptance of a reading (R146, R147): it leaves the watch point, and a queue full but for the
CREDIT of t full. -/
theorem readBegun_told {v : State} {r₁ : ReadJob} (job : (v.tc t).job = some (.read r₁)) (stop : Option JobResult) :
    let u := match stop with
      | some res => (v.endReading t res).readPump t
      | none => v.readPump t
    (Told v.lnk u.lnk ∧ (u.tc t).watch = (v.tc t).watch) ∧ (FullBut t v.lnk → 32 ≤ u.lnk.notices.length) := by
  cases stop with
  | none => exact ⟨readPump_told job, readPump_full job⟩
  | some res =>
    dsimp only
    rw [endReading_eq job]
    have running := readingOver_job (v.tc t) r₁ res
    refine ⟨readPump_told_after running (readingOver_watch ..), fun full => ?_⟩
    exact readPump_full (r := { r₁ with ended := some res }) (by rw [State.setTc_tc]; exact running)
      (by rw [State.setTc_lnk]; exact full)

theorem watchTest_full {v : State} {kind : JobKind} {mark : Bool} {addr file frame : Nat} (full : FullBut t v.lnk) :
    FullBut t (v.watchTest t kind mark addr file frame).lnk := by
  have pushed : FullBut t (v.lnk.pushNotice (.watchReached t kind addr mark file frame)) := by
    obtain ⟨long, one⟩ := full
    obtain ⟨-, e⟩ | ⟨met, e⟩ := v.lnk.pushNotice_cases (.watchReached t kind addr mark file frame)
    all_goals rw [e]
    · refine ⟨?_, ?_⟩
      · rw [List.length_append]
        omega
      · rw [List.filter_append]
        simpa [Notice.isCredit] using one
    · exact ⟨long, one⟩
  unfold State.watchTest State.notify
  split
  · exact full
  · split
    · exact pushed
    · exact full
  · split
    · rw [State.modLnk_lnk, State.modTc_lnk]
      exact pushed
    · exact full

/-- The frame on which a reading starts is tested (R146, R164); the credits of a comparison go first (log entry 53). -/
theorem readStart_tested (job : (s.tc t).job = some (.read r)) (f : ReadFrame) (mark : Bool) :
    WatchTested t (Job.kind (.read r)) f.hdr.addr mark f.hdr.file f.hdr.frame s (s.readStart t f mark) := by
  rw [readStart_eq job]
  dsimp only
  have started : ((s.setTc t (readStarted (s.tc t) r f)).tc t) = readStarted (s.tc t) r f := by rw [State.setTc_tc]
  obtain ⟨v, hv⟩ : ∃ v, (if r.isCompare then (s.setTc t (readStarted (s.tc t) r f)).earn t 16
    else s.setTc t (readStarted (s.tc t) r f)) = v := ⟨_, rfl⟩
  have credited : ((v.tc t).job = (readStarted (s.tc t) r f).job ∧ (v.tc t).watch = (s.tc t).watch) ∧ Told s.lnk v.lnk ∧
      (32 ≤ v.lnk.notices.length → 32 ≤ s.lnk.notices.length ∨ FullBut t v.lnk) := by
    rw [← hv]
    split
    · have full := earn_full (s.setTc t (readStarted (s.tc t) r f)) t 16
      obtain ⟨g, p, l, -, e, grew⟩ := earn_eq (s.setTc t (readStarted (s.tc t) r f)) t 16
      rw [State.setTc_lnk] at full grew
      refine ⟨?_, ?_, full⟩
      · rw [e, State.setTc_tc, started]
        exact ⟨rfl, rfl⟩
      · rw [e, State.setTc_lnk]
        exact grew.told
    · rw [started, State.setTc_lnk]
      exact ⟨⟨rfl, rfl⟩, Told.refl _, .inl⟩
  rw [hv]
  obtain ⟨⟨running, watch⟩, told, full⟩ := credited
  obtain ⟨w, accepted⟩ := acceptFrame_tc (r := r) running f mark
  obtain ⟨after, filled⟩ := readBegun_told (t := t) (v := v.acceptFrame t r f mark) (by rw [accepted])
    (((((v.acceptFrame t r f mark).tc t)).readJob).bind (·.endsAt mark))
  refine acceptFrame_tested running f mark watch told.1 (fun long => ?_) after
  refine (full long).imp id fun all => filled ?_
  rw [acceptFrame_eq running]
  refine watchTest_full ?_
  rw [learn_lnk, State.setTc_lnk]
  exact all

end

/-! ## The frames of a locate (R63, R64) -/

section
variable {s : State} {t : Tr} {l : Locate}

theorem noted_eq (l : Locate) (raw : RawFrame) : ∃ h, l.noted raw = { l with lastHeader := h } := by
  unfold Locate.noted
  split <;> exact ⟨_, rfl⟩

theorem locateFrame_forward {n : Nat} (locate : (s.tc t).locate = some l) (phase : l.phase = .forward n) (raw : RawFrame) :
    s.locateFrame t raw = (s.setTc t ((s.tc t).passed raw)).forwardFrame t (l.noted raw) n raw := by
  obtain ⟨h, noted⟩ := noted_eq l raw
  unfold State.locateFrame
  rw [locate, modTc_eq]
  dsimp only
  rw [noted]
  dsimp only
  rw [phase]

theorem locateFrame_counting {found : Bool} (locate : (s.tc t).locate = some l) (phase : l.phase = .counting found)
    (raw : RawFrame) : s.locateFrame t raw = s.countFrame t (l.noted raw) found raw := by
  obtain ⟨h, noted⟩ := noted_eq l raw
  unfold State.locateFrame
  rw [locate]
  dsimp only
  rw [noted]
  dsimp only
  rw [phase]

theorem countFrame_accepted {f : ReadFrame} {mark found : Bool} {raw : RawFrame} (accepted : classify l.x raw = .accepted f mark) :
    s.countFrame t l found raw = (s.setTc t ((s.tc t).passed raw)).countAccept t l found f mark := by
  unfold State.countFrame
  rw [accepted, modTc_eq]

/-- The block a reading locate seeks ends it (R63). -/
theorem forwardFrame_located {f : ReadFrame} {mark : Bool} {n : Nat} {raw : RawFrame} (reads : l.writing = false)
    (accepted : classify l.a raw = .accepted f mark) : s.forwardFrame t l n raw = s.located t l f mark := by
  obtain ⟨read, kind, addr⟩ := classify_accepted accepted
  have miss : l.writingHit f = false := by unfold Locate.writingHit; rw [reads]; rfl
  have eod : l.eodHit f = false := by
    unfold Locate.eodHit
    rw [Bool.and_eq_false_iff]
    refine .inl (decide_eq_false fun five => ?_)
    rw [five] at kind
    cases mark <;> cases kind
  unfold State.forwardFrame
  rw [read]
  dsimp only
  rw [miss, eod, accepted, reads]
  rfl

theorem locateFail_told {r : ReadJob} (job : (s.tc t).job = some (.read r)) (l : Locate) {res : JobResult}
    (fault : res = .readFault → l.sought = l.x) :
    Told s.lnk (s.locateFail t l res).lnk ∧ ((s.locateFail t l res).tc t).watch = (s.tc t).watch := by
  obtain ⟨running, -, -⟩ := locateOver_fields (s.tc t) (.read r) l.sought res
  have left := endJob_told (s := s.setTc t (locateOver (s.tc t) (.read r) l.sought res)) (t := t)
    (by rw [State.setTc_tc]; exact running) res
  rw [State.setTc_lnk, State.setTc_tc] at left
  rw [locateFail_eq job l fault]
  exact ⟨left.1, left.2.trans (Tc.goto_watch ..)⟩

/-- A mark that a count passes leaves the watch point and the notices of it (R164). -/
theorem countOn_told {r : ReadJob} (job : (s.tc t).job = some (.read r)) (l : Locate) :
    Told s.lnk (s.countOn t l).lnk ∧ ((s.countOn t l).tc t).watch = (s.tc t).watch := by
  unfold State.countOn
  split
  · exact locateFail_told job l (res := .beyondEod) nofun
  · rw [State.modTc_lnk, State.modTc_tc]
    exact ⟨Told.refl _, rfl⟩

theorem writePump_no_write (none_there : (s.tc t).writeJob = none) : s.writePump t = s := by
  unfold State.writePump
  rw [gather_no_write none_there, writeResume_of_not, gather_no_write none_there]
  intro w job
  rw [writeJob_of_job job] at none_there
  cases none_there

/-- No write job starts where a read job locates. -/
theorem writeStart_told {r : ReadJob} (job : (s.tc t).job = some (.read r)) (addr file : Nat) (recovered : Bool) :
    Told s.lnk (s.writeStart t addr file recovered).lnk ∧
      ((s.writeStart t addr file recovered).tc t).watch = (s.tc t).watch := by
  have stopped : ∀ c : Tc, c.job = some (.read r) → c.watch = (s.tc t).watch → ∀ res,
      Told s.lnk ((s.setTc t c).endJob t res).lnk ∧ (((s.setTc t c).endJob t res).tc t).watch = (s.tc t).watch := by
    intro c running watch res
    have left := endJob_told (s := s.setTc t c) (t := t) (by rw [State.setTc_tc]; exact running) res
    rw [State.setTc_lnk, State.setTc_tc] at left
    exact ⟨left.1, left.2.trans watch⟩
  unfold State.writeStart
  dsimp only
  rw [modWrite_of_read job, modTc_eq, modTc_eq, modTc_eq]
  simp only [State.setTc_tc, setTc_setTc]
  split
  · split
    · exact stopped (Tc.goto { s.tc t with locate := none } .ready) ((Tc.goto_job ..).trans job) (Tc.goto_watch ..) _
    · obtain ⟨g, p, l, -, e, grew⟩ := earn_eq (s.setTc t (Tc.goto { s.tc t with locate := none } .waiting)) t Config.startCredits
      have idle : ((State.setTc { s.setTc t (Tc.goto { s.tc t with locate := none } .waiting) with lnk := l } t
          { Tc.goto { s.tc t with locate := none } .waiting with granted := g, pendingCredits := p }).tc t).writeJob = none := by
        rw [State.setTc_tc]
        unfold Tc.writeJob
        dsimp only
        rw [Tc.goto_job]
        dsimp only
        rw [job]
      rw [State.setTc_lnk] at grew
      rw [State.setTc_tc] at e
      rw [e, writePump_no_write idle, State.setTc_lnk, State.setTc_tc]
      exact ⟨grew.told, Tc.goto_watch ..⟩
  · rw [State.setTc_lnk, State.setTc_tc]
    exact ⟨Told.refl _, rfl⟩

/-- A frame that a count passes leaves the watch point and the notices of it (R64, R164). -/
theorem countAccept_told {r : ReadJob} (job : (s.tc t).job = some (.read r)) (l : Locate) (f : ReadFrame) (mark : Bool) :
    Told s.lnk (s.countAccept t l false f mark).lnk ∧ ((s.countAccept t l false f mark).tc t).watch = (s.tc t).watch := by
  have learned : ((s.learn t f.info mark).tc t).job = some (.read r) := by rw [learn_tc]; exact job
  have starts := writeStart_told learned (f.hdr.addr + 1) l.goal.file false
  have goes := countOn_told learned
    { l with x := f.hdr.addr + 1, skip := 0, phase := .counting (l.goal.soughtMark f mark) }
  rw [learn_tc, learn_lnk] at starts goes
  unfold State.countAccept
  dsimp only
  split
  · exact absurd ‹_› Bool.false_ne_true
  · split
    · exact starts
    · exact goes

end

/-- Settles O39: each test is a test behind events that leave the notices and the watch point, and before such. -/
theorem watchPointIsSetAndFires : Obligations.WatchPointIsSetAndFires := by
  unfold Obligations.WatchPointIsSetAndFires
  refine ⟨fun s t tag w takes => ?_, fun s t kind mark addr file frame => ?_, fun s t w f e rest raw job flight entry good => ?_,
    fun s t r raw reading job => ?_, fun s t l r raw f mark locate job => ?_⟩
  · have answers : ∀ {w u}, s.takeWatch t tag w = u → Runs (.watch t tag w) s u := fun {w u} taken =>
      taken ▸ runs_of_gate (take := fun s => s.takeWatch t tag w) rfl takes
    refine ⟨fun ne => answers ?_, answers ?_⟩
    · unfold State.takeWatch
      rw [if_neg ne, modTc_eq, done_eq, replied_setTc]
    · unfold State.takeWatch
      rw [if_pos rfl, refuse_eq]
  · refine ⟨fun off => watchTest_off off .., fun marks => ⟨?_, ?_⟩, fun a watch => ⟨fun hit => ?_, fun miss => ?_⟩⟩
    · rw [watchTest_marks marks, if_pos rfl]
    · rw [watchTest_marks marks, if_neg Bool.false_ne_true]
    · rw [watchTest_address watch, if_pos hit]
    · rw [watchTest_address watch, if_neg miss]
  · refine ⟨_, readBack_entry job flight entry raw, ?_⟩
    rw [if_pos good, confirm_eq job]
    have begun : (confirmed s t w f e).tc t =
        { s.tc t with inflight := (s.tc t).inflight.tail, job := some (.write (w.confirm e)) } := State.setTc_tc ..
    have link : (confirmed s t w f e).lnk = s.lnk := State.setTc_lnk ..
    refine watchTested_of (v := confirmed s t w f e) (by rw [begun]) (by rw [link]) (by rw [link]; exact .inl) ?_
    exact choose_gather_told (w := w.confirm e) ((watchTest_job ..).trans (by rw [begun]))
  · refine ⟨_, runs_of_eq (v := s.readOne t raw) rfl rfl, ?_⟩
    obtain ⟨accepts, others⟩ := readOne_tested reading job raw
    exact ⟨accepts, fun other => ⟨(others other).2, (others other).1.1⟩⟩
  · have runs : ∀ {u}, s.locateFrame t raw = u → Runs (.locateFrameRead t raw) s u := fun {u} e =>
      runs_of_eq (v := s.locateFrame t raw) rfl e
    obtain ⟨h, noted⟩ := noted_eq l raw
    obtain ⟨pos, passed⟩ := passed_parts (s.tc t) raw
    obtain ⟨c, hc⟩ : ∃ c, (s.tc t).passed raw = c := ⟨_, rfl⟩
    have running : ((s.setTc t c).tc t).job = some (.read r) := by rw [State.setTc_tc, ← hc, passed]; exact job
    have watch : ((s.setTc t c).tc t).watch = (s.tc t).watch := by rw [State.setTc_tc, ← hc, passed]
    have started : WatchTested t (Job.kind (.read r)) f.hdr.addr mark f.hdr.file f.hdr.frame s
        ((s.setTc t c).readStart t f mark) := by
      have tested := readStart_tested running f mark
      unfold WatchTested at tested ⊢
      rw [watch, State.setTc_lnk] at tested
      exact tested
    refine ⟨?_, fun counting accepted => ?_, fun counting accepted => ?_⟩
    · rintro ⟨n, forward, reads, goal, accepted⟩
      refine ⟨_, runs (locateFrame_forward locate forward raw), ?_⟩
      rw [noted, forwardFrame_located (l := { l with lastHeader := h }) reads accepted, hc]
      unfold State.located
      rw [goal]
      exact started
    · refine ⟨_, runs (locateFrame_counting locate counting raw), ?_⟩
      rw [noted, countFrame_accepted (l := { l with lastHeader := h }) accepted, hc]
      exact started
    · refine ⟨_, runs (locateFrame_counting locate counting raw), ?_⟩
      rw [noted, countFrame_accepted (l := { l with lastHeader := h }) accepted, hc]
      have left := countAccept_told running { l with lastHeader := h } f mark
      rw [State.setTc_lnk] at left
      exact ⟨left.2.trans watch, left.1.1⟩

end Sys2Proof.Proofs
end

section
/-! PROOFS. The write job: the frame written, its result, and the end of the drain (R107, R113 to R117, R119 to R123). -/

open Sys2Proof Sys2Proof.Machine Sys2Proof.Claims

namespace Sys2Proof.Proofs

-- One declaration at a time: elaborated in parallel, the joined text needs more threads than the memory limit holds.
set_option Elab.async false

section
variable {s : State} {t : Tr} {w : WriteJob}

/-! ## The result of an EOD frame (R122) -/

theorem readBack_eod_eq {f : WFrame} (job : (s.tc t).job = some (.write w)) (flight : (s.tc t).inflight = [f])
    (no_entry : f.entry = none) (eod : f.hdr.kind = 5) (raw : RawFrame) :
    s.readBack t f.hdr.frame raw = s.eodResult t w f (judge f.hdr raw) := by
  unfold State.readBack
  rw [job]
  show s.writeResult t w f.hdr.frame raw = _
  unfold State.writeResult
  rw [flight]
  dsimp only
  rw [if_neg (by simp), no_entry]
  exact if_pos (decide_eq_true eod)

/-- The record that the end of a drain leaves (R59, R123). -/
theorem eodEnd_record {r : CartRecord} (record : s.mtb.get (.bay t) = some r) (f : WFrame) (unconfirmed : Bool) :
    ((beforeEnd s t w f.hdr unconfirmed).endJob t w.result).mtb.get (.bay t) =
      some { r.writeEnd f.hdr with binding := none } := by
  rw [endJob_mtb (j := .write { w with
    eodAddr := some f.hdr.addr, eodFrame := some f.hdr.frame, eodUnconfirmed := unconfirmed
    rawDiscarded := w.rawDiscarded + intakeRaw (s.tc t).intake })]
  · unfold beforeEnd
    rw [State.setTc_mtb, Mtb.get_modify, Mtb.get_modify, record]
    rfl
  · unfold beforeEnd
    rw [State.setTc_tc]
    rfl

/-- A drain with nothing in flight goes on with an EOD frame (R121, R122). -/
theorem choose_eod (job : (s.tc t).job = some (.write w)) (draining : (s.tc t).st = .draining) (idle : w.inProgress = none)
    (flight : (s.tc t).inflight = []) (rewrite : (s.tc t).rewrite = []) {p : Nat} (pos : (s.tc t).pos = some p) :
    s.choose t =
      State.setTc { s with lnk := queued s.lnk (warning t w (s.warningAt t) (w.plainFrame .eod p).hdr.frame) } t
        { s.tc t with job := some (.write (handed w (s.warningAt t) (w.plainFrame .eod p))) } := by
  have steady : (s.tc t).finishQueued = s.tc t :=
    finishQueued_self fun _ _ _ _ _ => by rw [draining]; decide
  have no_blocks : (s.tc t).blocksInFlight = false := by
    unfold Tc.blocksInFlight
    rw [flight]
    rfl
  rw [choose_eq job pos steady, mayChoose_still (.inr draining) idle flight p, if_pos rfl,
    chooseFrame_drain rewrite draining, drainFrame_eq job, no_blocks]
  rfl

end

/-! ## A written frame (R107, R113, R114) -/

section
variable {s : State} {t : Tr} {w : WriteJob} {f : WFrame}

theorem wroteFrame_eq (w : WriteJob) (f : WFrame) (limit : Nat) :
    w.wroteFrame f limit = { w with
      inProgress := none, wrote := true, framesWritten := w.framesWritten + 1
      rewritesWritten := if f.fromRewrite then w.rewritesWritten + 1 else w.rewritesWritten
      fillers := if f.hdr.kind = 4 then w.fillers + 1 else if f.hdr.kind = 5 then w.fillers else 0
      fillersWritten := if f.hdr.kind = 4 then w.fillersWritten + 1 else w.fillersWritten
      eodFrames := if f.hdr.kind = 5 ∧ f.hdr.kind ≠ 4 then w.eodFrames + 1 else w.eodFrames
      fillerLimit := if f.hdr.kind = 4 ∨ f.hdr.kind = 5 then w.fillerLimit else limit } := by
  have filler : FrameKind.byte .filler = 4 := rfl
  have eod : FrameKind.byte .eod = 5 := rfl
  unfold WriteJob.wroteFrame WFrame.isKind
  simp only [filler, eod, decide_eq_true_eq]
  by_cases four : f.hdr.kind = 4
  · simp [four]
  · by_cases five : f.hdr.kind = 5 <;> simp [four, five]

theorem joins_iff (f : WFrame) : f.joins = true ↔ f.entry ≠ none ∨ f.hdr.kind = 4 ∨ f.hdr.kind = 5 := by
  have filler : FrameKind.byte .filler = 4 := rfl
  have eod : FrameKind.byte .eod = 5 := rfl
  unfold WFrame.joins WFrame.isKind
  simp [filler, eod, Option.isSome_iff_ne_none, or_assoc]

/-- A frame that joins the list makes it longer by itself (R114). -/
theorem wroteOne_inflight (joins : f.entry ≠ none ∨ f.hdr.kind = 4 ∨ f.hdr.kind = 5) (c : Tc) :
    (wroteOne c w f).inflight = c.inflight ++ [f] := if_pos ((joins_iff f).mpr joins)

theorem wroteOne_flight (c : Tc) :
    (wroteOne c w f).inflight =
      c.inflight ++ (if f.entry = none ∧ f.hdr.kind ≠ 4 ∧ f.hdr.kind ≠ 5 then [] else [f]) := by
  by_cases joins : f.entry ≠ none ∨ f.hdr.kind = 4 ∨ f.hdr.kind = 5
  · rw [wroteOne_inflight joins, if_neg fun ⟨bare, four, five⟩ => joins.elim (· bare) (·.elim four five)]
  · have left : (wroteOne c w f).inflight = c.inflight := if_neg (by rwa [joins_iff])
    rw [left, if_pos ⟨Classical.not_not.mp fun h => joins (.inl h), fun h => joins (.inr (.inl h)),
      fun h => joins (.inr (.inr h))⟩, List.append_nil]

theorem wroteOne_job (c : Tc) (w : WriteJob) (f : WFrame) :
    (wroteOne c w f).job = some (.write (w.wroteFrame f c.gov.active.filler)) := rfl

/-- A written frame that is not the first of its job leaves the records. -/
theorem wrote_again (wrote : w.wrote = true) :
    State.setTc { s with mtb := wroteMtb s.mtb t w } t (wroteOne (s.tc t) w f) = s.setTc t (wroteOne (s.tc t) w f) := by
  unfold wroteMtb
  rw [if_pos wrote]

/-- The choice of a job that may choose, with the drain that an ABORT FINISH_QUEUED begins at an empty queue (R113,
R121; log entry 43). -/
theorem choose_may (job : (s.tc t).job = some (.write w)) {place : Nat} (pos : (s.tc t).pos = some place)
    (may : (s.tc t).mayChoose w place = true) :
    ∃ st, (st = (s.tc t).st ∨ (w.abort = .finishQueued ∧ (s.tc t).blockQ = [] ∧ st = .draining)) ∧
      (st = .writing ∨ st = .draining) ∧
      s.choose t = (s.setTc t { s.tc t with st := st }).chooseFrame t w place := by
  obtain ⟨streams, idle, flight⟩ := (mayChoose_iff _ _ _).mp may
  have drains : ∃ st, (st = (s.tc t).st ∨ (w.abort = .finishQueued ∧ (s.tc t).blockQ = [] ∧ st = .draining)) ∧
      (st = .writing ∨ st = .draining) ∧ (s.tc t).finishQueued = { s.tc t with st := st } := by
    unfold Tc.finishQueued
    rw [writeJob_of_job job]
    dsimp only
    split
    next queued =>
      rw [toDrain_eq]
      refine ⟨_, ?_, .inr ?_, rfl⟩
      all_goals
        have drains : drainState (s.tc t).st = .draining := by
          obtain h | h := streams <;> rw [h] <;> rfl
        rw [drains]
      exact .inr ⟨queued.1, queued.2.1, rfl⟩
    next => exact ⟨(s.tc t).st, .inl rfl, streams, rfl⟩
  obtain ⟨st, why, streams', drained⟩ := drains
  refine ⟨st, why, streams', ?_⟩
  obtain ⟨c, hc⟩ : ∃ c, { s.tc t with st := st } = c := ⟨_, rfl⟩
  have running : c.job = some (.write w) := by rw [← hc]; exact job
  have at_ : c.pos = some place := by rw [← hc]; exact pos
  have may' : c.mayChoose w place = true := by
    rw [mayChoose_iff, ← hc]
    exact ⟨streams', idle, flight⟩
  unfold State.choose
  dsimp only
  rw [modTc_eq, drained, hc, State.setTc_tc, writeJob_of_job running, at_]
  exact if_pos may'

/-- The completion of a frame of a job that has written before, when nothing waits to be gathered afterwards. -/
theorem writeCompletion_of_choose (job : (s.tc t).job = some (.write w)) (wrote : w.wrote = true)
    (busy : w.inProgress = some f) {u : State} {w' : WriteJob}
    (chosen : (s.setTc t (wroteOne (s.tc t) w f)).choose t = u) (running : (u.tc t).job = some (.write w'))
    (intake : (u.tc t).intake = []) (closed : (u.cx t).closed = none) (held : (u.cx t).held = none) :
    Runs (.writeCompletion t) s u := by
  have runs := writeCompletion_runs job busy
  rw [wrote_again wrote, chosen, gather_idle running closed held (.inl intake)] at runs
  exact runs

/-- A frame handed to the mechanism behind a written one (R113, R125). -/
theorem chosen_of_begun (job : (s.tc t).job = some (.write w)) (wrote : w.wrote = true) (busy : w.inProgress = some f)
    (closed : (s.cx t).closed = none) (held : (s.cx t).held = none) {c : CartClass} {place limit : Nat} {g : WFrame}
    {d : Tc} {w' : WriteJob} (frame : g.hdr.frame = place) (pos : d.pos = some place) (intake : d.intake = [])
    (begun : w' = { handed (w.wroteFrame f limit) (Config.capacity c - 2048) g with
      nextAddr := w'.nextAddr, nextFile := w'.nextFile })
    (chosen : (s.setTc t (wroteOne (s.tc t) w f)).choose t =
      State.setTc { s with lnk := queued s.lnk (warning t (w.wroteFrame f limit) (Config.capacity c - 2048) place) } t
        { d with job := some (.write w') }) :
    ∃ u, Runs (.writeCompletion t) s u ∧ Chosen s u t w w' g d.inflight c place ∧ u.tc t = { d with job := some (.write w') } := by
  obtain ⟨u, hu⟩ : ∃ u, State.setTc { s with
      lnk := queued s.lnk (warning t (w.wroteFrame f limit) (Config.capacity c - 2048) place) } t
        { d with job := some (.write w') } = u := ⟨_, rfl⟩
  have tc : u.tc t = { d with job := some (.write w') } := by rw [← hu, State.setTc_tc]
  have same : u.cx t = s.cx t := by rw [← hu]; cases t <;> rfl
  rw [hu] at chosen
  refine ⟨u, writeCompletion_of_choose job wrote busy chosen (w' := w') (by rw [tc]) (by rw [tc]; exact intake)
    (by rw [same]; exact closed) (by rw [same]; exact held), ?_, tc⟩
  rw [wroteFrame_eq] at begun
  refine ⟨by rw [tc], by rw [tc]; exact pos, by rw [tc], by rw [begun]; rfl, frame, by rw [begun]; rfl, ?_, ?_, ?_, ?_⟩
  · rw [begun, ← frame]
    rfl
  · rw [← hu, State.setTc_lnk, wroteFrame_eq]
    rfl
  · rw [← hu, State.setTc_mtb]
  · rw [← hu, State.setTc_chg]

theorem frame_carries (e : WEntry) (place : Nat) (again : Bool) : Carries (e.frame place again) e := by
  obtain ⟨block, addr, file, rewrites⟩ := e
  cases block with
  | none => exact ⟨rfl, rfl, rfl, rfl, rfl, rfl⟩
  | some b => exact ⟨rfl, rfl, rfl, rfl, rfl, rfl, rfl, rfl⟩

end

/-! ## The choice behind a written frame (R113) -/

section
variable {s : State} {t : Tr} {w : WriteJob} {f : WFrame}

theorem setTc_relinked (s : State) (t : Tr) (c d : Tc) (l : Lnk) :
    State.setTc { s.setTc t c with lnk := l } t d = State.setTc { s with lnk := l } t d := by cases t <;> rfl

/-- The job and the controller from which the formatter chooses behind a written frame. -/
def wroteJob (s : State) (t : Tr) (w : WriteJob) (f : WFrame) : WriteJob := w.wroteFrame f (s.tc t).gov.active.filler

theorem wroteJob_idle : (wroteJob s t w f).inProgress = none := by
  unfold wroteJob
  rw [wroteFrame_eq]

/-- Behind a written frame the formatter chooses where no result is outstanding (R113). -/
theorem wrote_choose {place : Nat} {flight : List WFrame} (at_ : place = f.hdr.frame + 1)
    (streams : (s.tc t).st = .writing ∨ (s.tc t).st = .draining) (flown : (wroteOne (s.tc t) w f).inflight = flight)
    (free : ∀ g ∈ flight, g.hdr.kind ≠ 5 ∧ place < g.hdr.frame + 4) :
    ∃ st, (st = (s.tc t).st ∨ (w.abort = .finishQueued ∧ (s.tc t).blockQ = [] ∧ st = .draining)) ∧
      (st = .writing ∨ st = .draining) ∧
      (s.setTc t (wroteOne (s.tc t) w f)).choose t =
        (s.setTc t { wroteOne (s.tc t) w f with st := st }).chooseFrame t (wroteJob s t w f) place := by
  have tc : (s.setTc t (wroteOne (s.tc t) w f)).tc t = wroteOne (s.tc t) w f := State.setTc_tc ..
  have may : (wroteOne (s.tc t) w f).mayChoose (wroteJob s t w f) place = true := by
    rw [mayChoose_iff, flown]
    exact ⟨streams, wroteJob_idle, fun g hg => (free g hg).symm⟩
  have chosen := choose_may (s := s.setTc t (wroteOne (s.tc t) w f)) (t := t) (w := wroteJob s t w f) (place := place)
    (by rw [tc]; rfl) (by rw [tc, at_]; rfl) (by rw [tc]; exact may)
  have abort : (wroteJob s t w f).abort = w.abort := by
    unfold wroteJob
    rw [wroteFrame_eq]
  rw [tc, abort] at chosen
  obtain ⟨st, why, streams', chosen⟩ := chosen
  rw [setTc_setTc] at chosen
  exact ⟨st, why, streams', chosen⟩

variable (job : (s.tc t).job = some (.write w)) (wrote : w.wrote = true) (busy : w.inProgress = some f)
  {r : CartRecord} {c : CartClass} (record : s.mtb.get (.bay t) = some r) (cls : r.cls = some c)
  (closed : (s.cx t).closed = none) (held : (s.cx t).held = none)

include record cls in
/-- The zones of a state with another controller are those of its record (R77, R125). -/
theorem zones_setTc (d : Tc) : (s.setTc t d).reserveAt t = Config.capacity c - 16 ∧
    (s.setTc t d).warningAt t = Config.capacity c - 2048 := by
  have same : (s.setTc t d).mtb.get (.bay t) = some r := by rw [State.setTc_mtb]; exact record
  exact ⟨reserveAt_of_record same cls, warningAt_of_record same cls⟩

include job wrote busy record cls closed held in
/-- The head of the rewrite list is written again (R113, R118). -/
theorem completion_rewrite {place : Nat} {st : TcState} {e : WEntry} {more : List WEntry}
    (at_ : place = f.hdr.frame + 1) (intake : (s.tc t).intake = []) (free : place < Config.capacity c - 16)
    (rewrite : (s.tc t).rewrite = e :: more)
    (chosen : (s.setTc t (wroteOne (s.tc t) w f)).choose t =
      (s.setTc t { wroteOne (s.tc t) w f with st := st }).chooseFrame t (wroteJob s t w f) place) :
    ∃ u w' g, Runs (.writeCompletion t) s u ∧ Chosen s u t w w' g (wroteOne (s.tc t) w f).inflight c place ∧ Carries g e ∧
      g.fromRewrite = true ∧ (u.tc t).rewrite = more ∧ (u.tc t).blockQ = (s.tc t).blockQ ∧ w'.nextAddr = w.nextAddr ∧
      w'.nextFile = w.nextFile := by
  obtain ⟨reserve, zone⟩ := zones_setTc record cls { wroteOne (s.tc t) w f with st := st }
  have tc : (s.setTc t { wroteOne (s.tc t) w f with st := st }).tc t = { wroteOne (s.tc t) w f with st := st } := State.setTc_tc ..
  have next := chooseFrame_rewrite (s := s.setTc t { wroteOne (s.tc t) w f with st := st }) (t := t) (w := wroteJob s t w f)
    (by rw [tc]; rfl) (e := e) (more := more) (by rw [tc]; exact rewrite) (place := place) (by rw [reserve]; exact free)
  have frame : (e.frame place true).hdr.frame = place := by
    unfold WEntry.frame
    dsimp only
    split <;> rfl
  rw [zone, tc, frame, setTc_relinked, State.setTc_lnk] at next
  obtain ⟨u, runs, given, left⟩ := chosen_of_begun job wrote busy closed held frame
    (d := { wroteOne (s.tc t) w f with st := st, rewrite := more }) (by rw [at_]; rfl) intake rfl (chosen.trans next)
  refine ⟨u, _, _, runs, given, frame_carries e place true, rfl, by rw [left], by rw [left]; rfl, ?_, ?_⟩
  all_goals
    unfold wroteJob
    rw [wroteFrame_eq]
    rfl

include job wrote busy record cls closed held in
/-- A drain goes on with a FILLER or the EOD frame (R121, R122). -/
theorem completion_drain {place : Nat} {d : Tc} (intake : d.intake = [])
    (running : d.job = some (.write (wroteJob s t w f))) (pos : d.pos = some place)
    (chosen : (s.setTc t (wroteOne (s.tc t) w f)).choose t = (s.setTc t d).drainFrame t place) :
    ∃ u w' g, Runs (.writeCompletion t) s u ∧ Chosen s u t w w' g d.inflight c place ∧ g.entry = none ∧ g.payload = [] ∧
      g.hdr.kind = (if d.inflight.any (·.entry.isSome) then 4 else 5) ∧ g.hdr.addr = w.nextAddr ∧
      g.hdr.file = w.nextFile ∧ g.hdr.pass = 0 ∧ (u.tc t).st = d.st ∧ (u.tc t).blockQ = d.blockQ := by
  obtain ⟨-, zone⟩ := zones_setTc record cls d
  have tc : (s.setTc t d).tc t = d := State.setTc_tc ..
  have next := drainFrame_eq (s := s.setTc t d) (t := t) (w := wroteJob s t w f) (by rw [tc]; exact running) place
  obtain ⟨g, hg⟩ : ∃ g, (wroteJob s t w f).plainFrame (if d.blocksInFlight then .filler else .eod) place = g := ⟨_, rfl⟩
  have frame : g.hdr.frame = place := by rw [← hg]; rfl
  rw [zone, tc, hg, frame, setTc_relinked, State.setTc_lnk] at next
  obtain ⟨u, runs, given, left⟩ := chosen_of_begun job wrote busy closed held frame pos intake rfl (chosen.trans next)
  refine ⟨u, _, g, runs, given, ?_, ?_, ?_, ?_, ?_, ?_, by rw [left], by rw [left]⟩
  all_goals rw [← hg]
  · rfl
  · rfl
  · show FrameKind.byte _ = _
    unfold Tc.blocksInFlight
    split <;> rfl
  · unfold wroteJob
    rw [wroteFrame_eq]
    rfl
  · unfold wroteJob
    rw [wroteFrame_eq]
    rfl
  · rfl

include job wrote busy record cls closed held in
/-- The head of the block queue is written with the next address (R112, R113). -/
theorem completion_entry {place : Nat} {b : Option Block} {q : List QEntry} (at_ : place = f.hdr.frame + 1)
    (intake : (s.tc t).intake = []) (writing : (s.tc t).st = .writing) (free : place < Config.capacity c - 16)
    (rewrite : (s.tc t).rewrite = [])
    (head : (s.tc t).blockQ = (match b with | some b => .block b | none => .mark) :: q) {e : WEntry}
    (entry : e = { block := b, addr := w.nextAddr, file := w.nextFile, rewrites := 0 })
    (chosen : (s.setTc t (wroteOne (s.tc t) w f)).choose t =
      (s.setTc t (wroteOne (s.tc t) w f)).chooseFrame t (wroteJob s t w f) place) :
    ∃ u w' g, Runs (.writeCompletion t) s u ∧ Chosen s u t w w' g (wroteOne (s.tc t) w f).inflight c place ∧ Carries g e ∧
      g.fromRewrite = false ∧ (u.tc t).blockQ = q ∧ (u.tc t).st = .writing ∧ w'.nextAddr = w.nextAddr + 1 ∧
      w'.nextFile = (if b = none then w.nextFile + 1 else w.nextFile) := by
  obtain ⟨reserve, zone⟩ := zones_setTc record cls (wroteOne (s.tc t) w f)
  have tc : (s.setTc t (wroteOne (s.tc t) w f)).tc t = wroteOne (s.tc t) w f := State.setTc_tc ..
  have addresses : (wroteJob s t w f).nextAddr = w.nextAddr ∧ (wroteJob s t w f).nextFile = w.nextFile := by
    unfold wroteJob
    rw [wroteFrame_eq]
    exact ⟨rfl, rfl⟩
  have next := chooseFrame_entry (s := s.setTc t (wroteOne (s.tc t) w f)) (t := t) (w := wroteJob s t w f) (by rw [tc]; rfl)
    (by rw [tc]; exact rewrite) (by rw [tc]; show (s.tc t).st ≠ _; rw [writing]; decide) (place := place)
    (by rw [reserve]; exact free) (b := b) (q := q) (by rw [tc]; exact head) (e := e)
    (by rw [addresses.1, addresses.2]; exact entry)
  have frame : (e.frame place false).hdr.frame = place := by
    unfold WEntry.frame
    dsimp only
    split <;> rfl
  rw [zone, tc, frame, setTc_relinked, State.setTc_lnk] at next
  obtain ⟨u, runs, given, left⟩ := chosen_of_begun job wrote busy closed held frame
    (d := { wroteOne (s.tc t) w f with blockQ := q }) (by rw [at_]; rfl) intake rfl (chosen.trans next)
  refine ⟨u, _, _, runs, given, frame_carries e place false, rfl, by rw [left], by rw [left]; exact writing, ?_, ?_⟩
  · rw [addresses.1]
  · rw [addresses.2]
    cases b <;> rfl

include job wrote busy closed held in
/-- A hitch behind a filler, when none but fillers are in flight (R113, R119, R120). -/
theorem completion_hitch {place : Nat} (at_ : place = f.hdr.frame + 1) (filler : f.hdr.kind = 4)
    (flight : ∀ g ∈ (s.tc t).inflight, g.entry = none ∧ g.hdr.kind = 4) (intake : (s.tc t).intake = [])
    (chosen : (s.setTc t (wroteOne (s.tc t) w f)).choose t = (s.setTc t (wroteOne (s.tc t) w f)).writeHitch t) :
    ∃ u w', Runs (.writeCompletion t) s u ∧ (u.tc t).st = .hitch ∧ (u.tc t).inflight = [] ∧ (u.tc t).pos = some place ∧
      (u.tc t).job = some (.write w') ∧ w'.inProgress = none ∧ w'.fillers = 0 ∧ w'.hitches = w.hitches + 1 ∧
      w'.fillersWritten = w.fillersWritten + 1 ∧ u.lnk = s.lnk ∧ u.mtb = s.mtb := by
  have tc : (s.setTc t (wroteOne (s.tc t) w f)).tc t = wroteOne (s.tc t) w f := State.setTc_tc ..
  have left : (wroteOne (s.tc t) w f).inflight.filter (fun g => !g.isKind .filler) = [] := by
    rw [wroteOne_inflight (.inr (.inl filler)), List.filter_eq_nil_iff]
    have kind : FrameKind.byte .filler = 4 := rfl
    intro g mem
    unfold WFrame.isKind
    rw [kind]
    obtain h | h := List.mem_append.mp mem
    · simp [(flight g h).2]
    · rw [List.mem_singleton.mp h]
      simp [filler]
  have hitched := writeHitch_eq (s := s.setTc t (wroteOne (s.tc t) w f)) (t := t) (w := wroteJob s t w f) (by rw [tc]; rfl)
  obtain ⟨w', hw⟩ : ∃ w' : WriteJob, { wroteJob s t w f with
    hitches := (wroteJob s t w f).hitches + 1, fillers := 0
    fillerLimit := (Tc.goto (wroteOne (s.tc t) w f) .hitch).gov.active.filler } = w' := ⟨_, rfl⟩
  rw [tc, setTc_setTc, left, hw] at hitched
  refine ⟨_, w', writeCompletion_of_choose job wrote busy (chosen.trans hitched) (w' := w') ?_ ?_ ?_ ?_, ?_⟩
  · rw [State.setTc_tc]
  · rw [State.setTc_tc]
    exact (Tc.goto_intake ..).trans intake
  · rw [State.setTc_cx]
    exact closed
  · rw [State.setTc_cx]
    exact held
  · simp only [State.setTc_tc, State.setTc_lnk, State.setTc_mtb]
    refine ⟨Tc.goto_st .., trivial, ?_, trivial, ?_, ?_, ?_, ?_, trivial, trivial⟩
    · exact (Tc.goto_pos ..).trans (congrArg some at_.symm)
    · rw [← hw]
      exact wroteJob_idle
    · rw [← hw]
    all_goals
      rw [← hw]
      unfold wroteJob
      rw [wroteFrame_eq]
    exact if_pos filler

include job wrote busy record cls in
/-- A choice in the reserve zone gives up everything queued and begins the drain (R113, R121, R126). -/
theorem completion_reserve {place : Nat} (joins : f.entry ≠ none ∨ f.hdr.kind = 4)
    (writing : (s.tc t).st = .writing) (reserve : Config.capacity c - 16 ≤ place) (open_ : w.verdict = none)
    (chosen : (s.setTc t (wroteOne (s.tc t) w f)).choose t =
      (s.setTc t (wroteOne (s.tc t) w f)).chooseFrame t (wroteJob s t w f) place) :
    ∃ u w' g, Runs (.writeCompletion t) s u ∧ (u.tc t).st = .draining ∧ (u.tc t).blockQ = [] ∧
      (u.tc t).intake = [] ∧ (u.tc t).rewrite = [] ∧ u.cx t = { dir := .write } ∧
      (u.tc t).inflight = (s.tc t).inflight ++ [f] ∧ (u.tc t).job = some (.write w') ∧
      w'.verdict = some .endOfMedia ∧ w'.blocksLost = w.blocksLost + (s.tc t).rewrite.length ∧
      w'.rawDiscarded =
        w.rawDiscarded + (intakeRaw (s.tc t).intake + (s.cx t).raw + ((s.tc t).blockQ.map QEntry.raw).sum) +
          ((s.tc t).rewrite.map WEntry.raw).sum ∧
      w'.inProgress = some g ∧ g.entry = none ∧ g.hdr.frame = place ∧
      g.hdr.kind = (if ((s.tc t).inflight ++ [f]).any (·.entry.isSome) then 4 else 5) ∧
      g.hdr.addr = (match (s.tc t).rewrite with | e :: _ => e.addr | [] => w.nextAddr) ∧
      g.hdr.file = (match (s.tc t).rewrite with | e :: _ => e.file | [] => w.nextFile) ∧ u.mtb = s.mtb := by
  obtain ⟨zone, -⟩ := zones_setTc record cls (wroteOne (s.tc t) w f)
  have tc : (s.setTc t (wroteOne (s.tc t) w f)).tc t = wroteOne (s.tc t) w f := State.setTc_tc ..
  have flown := wroteOne_inflight (w := w) (f := f) (joins.imp id .inl) (s.tc t)
  have gives := chooseFrame_reserve (s := s.setTc t (wroteOne (s.tc t) w f)) (t := t) (w := wroteJob s t w f) (place := place)
    (by rw [zone]; exact reserve) (.inl (by rw [tc]; show (s.tc t).st ≠ _; rw [writing]; decide))
  rw [giveUp_eq (w := wroteJob s t w f) (by rw [tc]; rfl), tc] at gives
  obtain ⟨v, hv⟩ : ∃ v, (s.setTc t (wroteOne (s.tc t) w f)).clearCtx t .write = v := ⟨_, rfl⟩
  obtain ⟨w₂, hw⟩ : ∃ w₂, gaveUp (s.setTc t (wroteOne (s.tc t) w f)) t (wroteJob s t w f) .endOfMedia
    (wroteOne (s.tc t) w f).rewrite = w₂ := ⟨_, rfl⟩
  have parts := clearCtx_parts (s.setTc t (wroteOne (s.tc t) w f)) t .write
  rw [hv, State.setTc_mtb] at parts
  obtain ⟨mtb, -, -, cleared⟩ := parts
  obtain ⟨d, hd⟩ : ∃ d : Tc, { wroteOne (s.tc t) w f with
    st := drainState (wroteOne (s.tc t) w f).st, intake := [], blockQ := [], rewrite := [], job := some (.write w₂) } = d :=
    ⟨_, rfl⟩
  rw [hv, hw, hd] at gives
  have drained := drainFrame_eq (s := v.setTc t d) (t := t) (w := w₂) (by rw [State.setTc_tc, ← hd]) place
  rw [State.setTc_tc, State.setTc_lnk, setTc_relinked] at drained
  obtain ⟨g, hg⟩ : ∃ g, w₂.plainFrame (if d.blocksInFlight then .filler else .eod) place = g := ⟨_, rfl⟩
  rw [hg] at drained
  have left : d.st = .draining ∧ d.blockQ = [] ∧ d.intake = [] ∧ d.rewrite = [] ∧ d.inflight = (s.tc t).inflight ++ [f] := by
    rw [← hd]
    refine ⟨?_, rfl, rfl, rfl, flown⟩
    show drainState (s.tc t).st = _
    rw [writing]
    rfl
  obtain ⟨st, queue, intake, rewrite, flight⟩ := left
  obtain ⟨u, hu⟩ : ∃ u, State.setTc { v with
      lnk := queued v.lnk (warning t w₂ ((v.setTc t d).warningAt t) g.hdr.frame) } t
        { d with job := some (.write (handed w₂ ((v.setTc t d).warningAt t) g)) } = u := ⟨_, rfl⟩
  rw [hu] at drained
  have last : u.tc t = { d with job := some (.write (handed w₂ ((v.setTc t d).warningAt t) g)) } := by rw [← hu, State.setTc_tc]
  have context : u.cx t = { dir := .write } := by
    rw [← hu, State.setTc_cx]
    exact cleared
  refine ⟨u, handed w₂ ((v.setTc t d).warningAt t) g, g, writeCompletion_of_choose job wrote busy
    (chosen.trans (gives.trans drained)) (w' := handed w₂ ((v.setTc t d).warningAt t) g) (by rw [last])
    (by rw [last]; exact intake) (by rw [context]) (by rw [context]), ?_⟩
  have wrote_one : (wroteJob s t w f).verdict = none ∧ (wroteJob s t w f).blocksLost = w.blocksLost ∧
      (wroteJob s t w f).rawDiscarded = w.rawDiscarded ∧ (wroteJob s t w f).nextAddr = w.nextAddr ∧
      (wroteJob s t w f).nextFile = w.nextFile := by
    unfold wroteJob
    rw [wroteFrame_eq]
    exact ⟨open_, rfl, rfl, rfl, rfl⟩
  obtain ⟨verdict, lost, raw, addr, file⟩ := wrote_one
  rw [last]
  refine ⟨st, queue, intake, rewrite, context, flight, rfl, ?_, ?_, ?_, rfl, ?_, ?_, ?_, ?_, ?_, ?_⟩
  · rw [← hw]
    show some ((wroteJob s t w f).verdict.getD .endOfMedia) = _
    rw [verdict]
    rfl
  · rw [← lost, ← hw]
    rfl
  · rw [← raw, ← hw]
    unfold handed gaveUp
    dsimp only
    rw [tc, State.setTc_cx]
    rfl
  · rw [← hg]
    rfl
  · rw [← hg]
    rfl
  · rw [← hg, ← flight]
    show FrameKind.byte _ = _
    unfold Tc.blocksInFlight
    split <;> rfl
  · rw [← hg, ← addr, ← hw]
    rfl
  · rw [← hg, ← file, ← hw]
    rfl
  · rw [← hu, State.setTc_mtb]
    exact mtb

include job wrote busy closed held in
/-- After an EOD frame nothing is written until its result (R122). -/
theorem completion_eod {place : Nat} (at_ : place = f.hdr.frame + 1) (eod : f.hdr.kind = 5)
    (first : f.fromRewrite = false) (draining : (s.tc t).st = .draining) (intake : (s.tc t).intake = []) :
    Runs (.writeCompletion t) s
      (s.setTc t { s.tc t with
        pos := some place
        inflight := (s.tc t).inflight ++ [f]
        job := some (.write { w with
          inProgress := none, framesWritten := w.framesWritten + 1, eodFrames := w.eodFrames + 1 }) }) := by
  have left : wroteOne (s.tc t) w f = { s.tc t with
      pos := some place
      inflight := (s.tc t).inflight ++ [f]
      job := some (.write { w with
        inProgress := none, framesWritten := w.framesWritten + 1, eodFrames := w.eodFrames + 1 }) } := by
    have flown := wroteOne_inflight (w := w) (f := f) (.inr (.inr eod)) (s.tc t)
    unfold wroteOne at flown ⊢
    dsimp only at flown
    rw [flown, wroteFrame_eq, eod, first, draining, at_]
    simp [wrote, draining]
  have tc : (s.setTc t (wroteOne (s.tc t) w f)).tc t = wroteOne (s.tc t) w f := State.setTc_tc ..
  have flight : f ∈ (wroteOne (s.tc t) w f).inflight := by
    rw [wroteOne_inflight (.inr (.inr eod))]
    exact List.mem_append_right _ (List.mem_singleton_self f)
  have waits : (s.setTc t (wroteOne (s.tc t) w f)).choose t = s.setTc t (wroteOne (s.tc t) w f) := by
    refine choose_of_not ?_ fun w' at' _ _ => ?_
    · rw [tc]
      exact finishQueued_self fun _ _ _ _ _ h => by
        rw [show (wroteOne (s.tc t) w f).st = .draining from draining] at h
        cases h
    · rw [tc, ← Bool.not_eq_true, mayChoose_iff]
      rintro ⟨-, -, told⟩
      exact (told f flight).2 eod
  rw [← left]
  refine writeCompletion_of_choose job wrote busy waits (w' := wroteJob s t w f) ?_ ?_ ?_ ?_
  · rw [tc]
    rfl
  · rw [tc]
    exact intake
  · rw [State.setTc_cx]
    exact closed
  · rw [State.setTc_cx]
    exact held

/-- A FILLER is written where nothing else is left (R113, R119). -/
theorem completion_filler (job : (s.tc t).job = some (.write w)) (wrote : w.wrote = true) (busy : w.inProgress = some f)
    (record : s.mtb.get (.bay t) = some r) (cls : r.cls = some c) (closed : (s.cx t).closed = none)
    (held : (s.cx t).held = none) {place : Nat} (at_ : place = f.hdr.frame + 1) (filler : f.hdr.kind = 4)
    (intake : (s.tc t).intake = [])
    (chosen : (s.setTc t (wroteOne (s.tc t) w f)).choose t =
      (s.setTc t (wroteOne (s.tc t) w f)).beginFrame t ((wroteJob s t w f).plainFrame .filler place)) :
    ∃ u w' g, Runs (.writeCompletion t) s u ∧ Chosen s u t w w' g ((s.tc t).inflight ++ [f]) c place ∧
      (u.tc t).st = (s.tc t).st ∧ g.hdr.kind = 4 ∧ g.hdr.addr = w.nextAddr ∧ g.hdr.file = w.nextFile ∧ g.hdr.pass = 0 ∧
      g.entry = none ∧ w'.fillers = w.fillers + 1 ∧ w'.fillersWritten = w.fillersWritten + 1 := by
  obtain ⟨-, zone⟩ := zones_setTc record cls (wroteOne (s.tc t) w f)
  have tc : (s.setTc t (wroteOne (s.tc t) w f)).tc t = wroteOne (s.tc t) w f := State.setTc_tc ..
  have next := beginFrame_eq (s := s.setTc t (wroteOne (s.tc t) w f)) (t := t) (w := wroteJob s t w f) (by rw [tc]; rfl)
    ((wroteJob s t w f).plainFrame .filler place)
  rw [zone, tc, setTc_relinked, State.setTc_lnk] at next
  obtain ⟨u, runs, given, left⟩ := chosen_of_begun job wrote busy closed held (place := place)
    (g := (wroteJob s t w f).plainFrame .filler place) rfl (d := wroteOne (s.tc t) w f) (by rw [at_]; rfl) intake rfl
    (chosen.trans next)
  rw [wroteOne_inflight (.inr (.inl filler))] at given
  have counts : (wroteJob s t w f).nextAddr = w.nextAddr ∧ (wroteJob s t w f).nextFile = w.nextFile ∧
      (wroteJob s t w f).fillers = w.fillers + 1 ∧ (wroteJob s t w f).fillersWritten = w.fillersWritten + 1 := by
    unfold wroteJob
    rw [wroteFrame_eq]
    exact ⟨rfl, rfl, if_pos filler, if_pos filler⟩
  obtain ⟨addr, file, fillers, count⟩ := counts
  exact ⟨u, _, _, runs, given, by rw [left]; rfl, rfl, addr, file, rfl, rfl, fillers, count⟩

end

/-- The record behind a written frame: the first one of a job opens its end of data (R107). -/
theorem wroteMtb_record {m : Mtb} {t : Tr} {r : CartRecord} (record : m.get (.bay t) = some r) (w : WriteJob) :
    (wroteMtb m t w).get (.bay t) = some (if w.wrote then r else r.firstFrame w.mode) := by
  unfold wroteMtb
  split
  · exact record
  · rw [Mtb.get_modify, record]
    rfl

theorem firstFrame_fields (r : CartRecord) (m : StartMode) :
    (r.firstFrame m).eod = .opened ∧ (r.firstFrame m).dirty = true ∧
      (m = .append → (r.firstFrame m).map = r.map ∧ (r.firstFrame m).rawTotal = r.rawTotal ∧
        (r.firstFrame m).codedTotal = r.codedTotal) ∧
      ∀ k, m = .fromFile k → (r.firstFrame m).map = r.map.take k.toNat ∧
        (k = 0 → (r.firstFrame m).rawTotal = 0 ∧ (r.firstFrame m).codedTotal = 0) := by
  cases m with
  | append => exact ⟨rfl, rfl, fun _ => ⟨rfl, rfl, rfl⟩, nofun⟩
  | fromFile k =>
    unfold CartRecord.firstFrame
    dsimp only
    refine ⟨by split <;> rfl, by split <;> rfl, nofun, fun k' same => ?_⟩
    cases same
    refine ⟨by split <;> rfl, fun zero => ?_⟩
    rw [if_pos zero]
    exact ⟨rfl, rfl⟩

/-- Settles O54: the written frame in flight, its record, and each choice behind it. -/
theorem writtenFrameGoesInFlight : Obligations.WrittenFrameGoesInFlight := by
  unfold Obligations.WrittenFrameGoesInFlight
  refine ⟨fun s t w f e r job busy entry not_filler not_eod record => ?_, fun s t w f r job busy record => ?_,
    fun s t w f r c place flight job wrote busy record cls at_ intake closed held hf free => ?_,
    fun s t w f r c place job wrote busy record cls at_ closed held => ⟨fun writing abort free => ?_, ?_⟩⟩
  · obtain ⟨u, w', v, runs, gathered, chose⟩ := writeCompletion_chose job busy
    have tc : (State.setTc { s with mtb := wroteMtb s.mtb t w } t (wroteOne (s.tc t) w f)).tc t = wroteOne (s.tc t) w f :=
      State.setTc_tc ..
    have flown := wroteOne_inflight (w := w) (f := f) (.inl (by rw [entry]; exact Option.some_ne_none e)) (s.tc t)
    have kept := chose.kept
    have fills := chose.fills
    obtain ⟨-, pos, -⟩ := chose.tc
    obtain ⟨-, -, -, flight', pos'⟩ := gathered.motion
    obtain ⟨_, _, accepted, _, _, left⟩ := gathered.tc
    rw [wroteFrame_eq] at kept fills
    refine ⟨u, { w' with rawAccepted := accepted }, runs, ?_, ?_, by rw [left], by rw [kept], by rw [kept], ?_, ?_⟩
    · rw [flight']
      obtain ⟨goes, -⟩ | ⟨-, -, -, -, -, none_told⟩ := chose.motion
      · rw [goes, tc, flown]
      · refine absurd (none_told f ?_).1 (by rw [entry]; exact Option.some_ne_none e)
        rw [tc, flown]
        exact List.mem_append_right _ (List.mem_singleton_self f)
    · rw [pos', pos, tc]
      rfl
    · rw [kept]
      exact if_neg not_filler
    · dsimp only at fills
      rw [if_neg not_filler, if_neg not_eod] at fills
      exact fills.elim id id
  · obtain ⟨u, w', v, runs, gathered, chose⟩ := writeCompletion_chose job busy
    have table : u.mtb = wroteMtb s.mtb t w := by
      rw [gathered.mtb, chose.mtb, State.setTc_mtb]
    obtain ⟨eod, dirty, append, file⟩ := firstFrame_fields r w.mode
    refine ⟨u, _, runs, by rw [table]; exact wroteMtb_record record w, fun wrote => if_pos wrote, fun first => ?_, ?_, ?_⟩
    · rw [if_neg (by rw [first]; exact Bool.false_ne_true)]
      exact ⟨eod, dirty, append, file⟩
    · intro k other
      rw [table]
      unfold wroteMtb
      split
      · rfl
      · exact Mtb.get_modify_of_ne _ _ other
    · rw [gathered.chg, chose.chg, State.setTc_chg]
  · have flown : (wroteOne (s.tc t) w f).inflight = flight := by
      rw [wroteOne_flight, hf]
    rw [← flown] at hf free ⊢
    refine ⟨fun e more rewrite streams room => ?_, fun rewrite draining => ?_, fun rewrite writing room =>
      ⟨fun b q e head entry => ?_, fun q head => ?_⟩⟩
    · obtain ⟨st, -, -, chosen⟩ := wrote_choose (w := w) at_ streams rfl free
      exact completion_rewrite job wrote busy record cls closed held at_ intake room rewrite chosen
    · obtain ⟨st, why, -, chosen⟩ := wrote_choose (w := w) at_ (.inr draining) rfl free
      have still : st = .draining := by
        obtain h | ⟨-, -, h⟩ := why
        · rw [h, draining]
        · exact h
      rw [chooseFrame_drain (by rw [State.setTc_tc]; exact rewrite) (by rw [State.setTc_tc]; exact still)] at chosen
      obtain ⟨u, w', g, runs, given, entry, payload, kind, addr, file, pass, left, -⟩ := completion_drain job wrote busy
        record cls closed held (d := { wroteOne (s.tc t) w f with st := st }) (place := place) intake rfl (by rw [at_]; rfl) chosen
      exact ⟨u, w', g, runs, given, entry, payload, kind, addr, file, pass, left.trans still⟩
    · obtain ⟨st, why, -, chosen⟩ := wrote_choose (w := w) at_ (.inl writing) rfl free
      have still : st = (s.tc t).st := by
        obtain h | ⟨-, empty, -⟩ := why
        · exact h
        · rw [head] at empty
          cases empty
      have same : ({ wroteOne (s.tc t) w f with st := st } : Tc) = wroteOne (s.tc t) w f := by rw [still]; rfl
      rw [same] at chosen
      exact completion_entry job wrote busy record cls closed held at_ intake writing room rewrite head entry chosen
    · obtain ⟨st, why, -, chosen⟩ := wrote_choose (w := w) at_ (.inl writing) rfl free
      have still : st = (s.tc t).st := by
        obtain h | ⟨-, empty, -⟩ := why
        · exact h
        · rw [head] at empty
          cases empty
      have same : ({ wroteOne (s.tc t) w f with st := st } : Tc) = wroteOne (s.tc t) w f := by rw [still]; rfl
      have tc : (s.setTc t (wroteOne (s.tc t) w f)).tc t = wroteOne (s.tc t) w f := State.setTc_tc ..
      obtain ⟨zone, -⟩ := zones_setTc record cls (wroteOne (s.tc t) w f)
      rw [same, chooseFrame_close (by rw [tc]; exact rewrite) (by rw [tc]; show (s.tc t).st ≠ _; rw [writing]; decide)
        (by rw [zone]; exact room) (q := q) (by rw [tc]; exact head), modTc_eq, tc, setTc_setTc,
        toDrain_writing (show ({ wroteOne (s.tc t) w f with blockQ := q } : Tc).st = .writing from writing)] at chosen
      obtain ⟨u, w', g, runs, given, entry, payload, kind, addr, file, pass, left, queue⟩ := completion_drain job wrote busy
        record cls closed held (d := { wroteOne (s.tc t) w f with st := .draining, blockQ := q }) (place := place) intake rfl
        (by rw [at_]; rfl) chosen
      exact ⟨u, w', g, runs, given, entry, payload, kind, addr, file, pass, queue, left⟩
  · have choice : (f.entry ≠ none ∨ f.hdr.kind = 4) → (s.setTc t (wroteOne (s.tc t) w f)).choose t =
        (s.setTc t (wroteOne (s.tc t) w f)).chooseFrame t (wroteJob s t w f) place := fun joins => by
      obtain ⟨st, why, -, chosen⟩ := wrote_choose (w := w) at_ (.inl writing) rfl (by
        rw [wroteOne_inflight (joins.imp id .inl)]
        exact free)
      have still : st = (s.tc t).st := by
        obtain h | ⟨queued, -, -⟩ := why
        · exact h
        · rw [abort] at queued
          cases queued
      have same : ({ wroteOne (s.tc t) w f with st := st } : Tc) = wroteOne (s.tc t) w f := by rw [still]; rfl
      rw [same] at chosen
      exact chosen
    refine ⟨fun filler no_entry rewrite queue intake room => ?_, fun joins reserve open_ => ?_⟩
    · have tc : (s.setTc t (wroteOne (s.tc t) w f)).tc t = wroteOne (s.tc t) w f := State.setTc_tc ..
      obtain ⟨zone, -⟩ := zones_setTc record cls (wroteOne (s.tc t) w f)
      have flown := wroteOne_inflight (w := w) (f := f) (.inr (.inl filler)) (s.tc t)
      have counts : (wroteJob s t w f).fillers = w.fillers + 1 ∧ (wroteJob s t w f).fillerLimit = w.fillerLimit := by
        unfold wroteJob
        rw [wroteFrame_eq]
        exact ⟨if_pos filler, if_pos (.inl filler)⟩
      have blocks : (wroteOne (s.tc t) w f).blocksInFlight = (s.tc t).blocksInFlight := by
        unfold Tc.blocksInFlight
        rw [flown, List.any_append]
        simp [no_entry]
      have next := choice (.inr filler)
      rw [chooseFrame_empty (by rw [tc]; exact rewrite) (by rw [tc]; show (s.tc t).st ≠ _; rw [writing]; decide)
        (by rw [zone]; exact room) (by rw [tc]; show NoEntry (s.tc t).blockQ; rw [queue]; exact ⟨nofun, nofun, nofun⟩), tc,
        blocks, counts.1, counts.2] at next
      refine ⟨fun goes => ?_, fun limit flight => ?_⟩
      · rw [if_pos (goes.imp id fun ⟨g, mem, entry⟩ => List.any_eq_true.mpr ⟨g, mem, Option.isSome_iff_ne_none.mpr entry⟩)] at next
        obtain ⟨u, w', g, runs, ⟨flight, pos, job', busy', frame, written, warned, lnk, mtb, chg⟩, st, kind, addr, file, pass,
          entry, fillers, count⟩ := completion_filler job wrote busy record cls closed held at_ filler intake next
        exact ⟨u, w', g, runs, st.trans writing, flight, pos, job', busy', kind, frame, addr, file, pass, entry, fillers,
          count, written, warned, lnk, mtb, chg⟩
      · rw [if_neg] at next
        · exact completion_hitch job wrote busy closed held at_ filler flight intake next
        · rintro (few | told)
          · omega
          · obtain ⟨g, mem, entry⟩ := List.any_eq_true.mp told
            rw [(flight g mem).1] at entry
            cases entry
    · exact completion_reserve job wrote busy record cls joins writing reserve open_ (choice joins)
  · intro eod no_entry first draining intake
    exact completion_eod job wrote busy closed held at_ eod first draining intake

/-- Settles O56: the last EOD frame ends the job with its report, and a BAD one before it is followed by another. -/
theorem drainEndsAtTheEodFrame : Obligations.DrainEndsAtTheEodFrame := by
  unfold Obligations.DrainEndsAtTheEodFrame
  intro s t w f r raw p job flight no_entry eod pos record
  refine ⟨fun last => ?_, fun bad few draining rewrite idle warned abort room => ?_⟩
  · have ends : judge f.hdr raw = true ∨ 3 ≤ w.eodFrames ∨ s.frames t ≤ (s.tc t).pos.getD 0 := by
      refine last.imp id (Or.imp id ?_)
      rintro ⟨c, cls, full⟩
      rw [frames_of_record record cls, pos]
      exact full
    obtain ⟨ended, st, at_, -⟩ := eodEnd_ends s t w f (!judge f.hdr raw)
    rw [record] at ended
    exact ⟨_, { r.writeEnd f.hdr with binding := none }, w.result, readBack_eod job flight no_entry eod ends, st, at_, rfl,
      ended, eodEnd_record record f _, rfl, rfl, rfl, rfl, rfl, rfl⟩
  · obtain ⟨c, cls, room⟩ := room
    have result := readBack_eod_eq job flight no_entry eod raw
    rw [bad] at result
    have again : s.eodResult t w f false = (s.setTc t { s.tc t with inflight := [] }).choose t := by
      unfold State.eodResult
      dsimp only
      rw [if_neg Bool.false_ne_true, if_pos ⟨few, by rw [frames_of_record record cls, pos]; exact room⟩, modTc_eq, flight]
      rfl
    refine ⟨_, w.plainFrame .eod p, runs_of_eq (v := s.readBack t f.hdr.frame raw) rfl (result.trans (again.trans
      (choose_eod (w := w) (p := p) (by rw [State.setTc_tc]; exact job) (by rw [State.setTc_tc]; exact draining) idle
        (by rw [State.setTc_tc]) (by rw [State.setTc_tc]; exact rewrite) (by rw [State.setTc_tc]; exact pos)))), ?_⟩
    simp only [State.setTc_tc, State.setTc_mtb]
    refine ⟨trivial, ?_, rfl, rfl, rfl, rfl, rfl, trivial⟩
    unfold handed
    rw [warned, Bool.true_or, ← warned]

end Sys2Proof.Proofs
end

section
/-! PROOFS. The read-back results of a write job (R114 to R118, R126). -/

open Sys2Proof Sys2Proof.Machine Sys2Proof.Claims

namespace Sys2Proof.Proofs

-- One declaration at a time: elaborated in parallel, the joined text needs more threads than the memory limit holds.
set_option Elab.async false

theorem watchTest_mtb (s : State) (t : Tr) (kind : JobKind) (mark : Bool) (addr file frame : Nat) :
    (s.watchTest t kind mark addr file frame).mtb = s.mtb := by
  unfold State.watchTest State.notify
  split
  · rfl
  · split <;> rfl
  · split
    · rw [State.modLnk_mtb, State.modTc_mtb]
    · rfl

section
variable {s : State} {t : Tr} {w : WriteJob} {f : WFrame}

/-- While a frame is being written, none is chosen (R113). -/
theorem choose_of_busy {g : WFrame} (job : (s.tc t).job = some (.write w)) (busy : w.inProgress = some g) : s.choose t = s := by
  have mine : ∀ w', (s.tc t).job = some (.write w') → w'.inProgress = some g := fun w' job' => by
    rw [job] at job'
    cases job'
    exact busy
  refine choose_of_not (finishQueued_self fun w' job' _ _ idle => ?_) fun w' place job' _ => ?_
  · rw [mine w' job'] at idle
    cases idle
  · rw [← Bool.not_eq_true, mayChoose_iff]
    rintro ⟨-, idle, -⟩
    rw [mine w' job'] at idle
    cases idle

/-! ## A confirmation (R115) -/

theorem confirm_job (w : WriteJob) (e : WEntry) :
    (w.confirm e).inProgress = w.inProgress ∧
      (∀ b, e.block = some b → w.confirm e = { w with
        blocksConfirmed := w.blocksConfirmed + 1, rawOnTape := w.rawOnTape + b.raw, coded := w.coded + b.payload.length }) ∧
      (e.block = none → w.confirm e = { w with marksConfirmed := w.marksConfirmed + 1 }) := by
  unfold WriteJob.confirm
  cases e.block with
  | some b => exact ⟨rfl, fun _ h => by cases h; rfl, nofun⟩
  | none => exact ⟨rfl, nofun, fun _ => rfl⟩

theorem confirm_record (r : CartRecord) (e : WEntry) (frame : Nat) :
    (∀ b, e.block = some b →
      (r.confirm e frame).rawTotal = min Config.max64 (r.rawTotal + b.raw) ∧
        (r.confirm e frame).codedTotal = min Config.max64 (r.codedTotal + b.payload.length) ∧
        (r.confirm e frame).map = r.map) ∧
      (e.block = none →
        (r.confirm e frame).rawTotal = r.rawTotal ∧ (r.confirm e frame).codedTotal = r.codedTotal ∧
          (r.confirm e frame).map =
            if r.map.length = e.file ∧ e.file < 64 then r.map ++ [{ addr := e.addr, frame := frame }] else r.map) ∧
      (r.confirm e frame).eod = r.eod ∧ (r.confirm e frame).dirty = r.dirty := by
  unfold CartRecord.confirm
  cases e.block with
  | some b => exact ⟨fun _ h => by cases h; exact ⟨rfl, rfl, rfl⟩, nofun, rfl, rfl⟩
  | none =>
    unfold CartRecord.learn
    dsimp only
    refine ⟨nofun, fun _ => ?_, ?_, ?_⟩
    all_goals split <;> simp_all [Config.mapMax]

/-- A GOOD result of an entry: what it confirms stands in the job behind the choice that follows (R115). -/
theorem readBack_good {e : WEntry} {rest : List WFrame} {r : CartRecord} {raw : RawFrame}
    (job : (s.tc t).job = some (.write w)) (flight : (s.tc t).inflight = f :: rest) (entry : f.entry = some e)
    (record : s.mtb.get (.bay t) = some r) (told : (s.tc t).FlightTold) (good : judge f.hdr raw = true) :
    ∃ u w', Runs (.readBackResult t f.hdr.frame raw) s u ∧ (u.tc t).job = some (.write w') ∧
      ((u.tc t).inflight = rest ∨
        (w.inProgress = none ∧ (u.tc t).st = .hitch ∧ (u.tc t).inflight = [] ∧ ∀ g ∈ rest, g.hdr.kind = 4)) ∧
      u.mtb.get (.bay t) = some (r.confirm e f.hdr.frame) ∧
      w'.blocksConfirmed = (w.confirm e).blocksConfirmed ∧ w'.rawOnTape = (w.confirm e).rawOnTape ∧
      w'.coded = (w.confirm e).coded ∧ w'.marksConfirmed = (w.confirm e).marksConfirmed := by
  have runs := readBack_entry job flight entry raw
  rw [if_pos good, confirm_eq job] at runs
  obtain ⟨v, hv⟩ : ∃ v, (confirmed s t w f e).watchTest t .write e.block.isNone e.addr e.file f.hdr.frame = v := ⟨_, rfl⟩
  obtain ⟨point, tc⟩ := watchTest_tc (confirmed s t w f e) t .write e.block.isNone e.addr e.file f.hdr.frame
  have table := watchTest_mtb (confirmed s t w f e) t .write e.block.isNone e.addr e.file f.hdr.frame
  have before : (confirmed s t w f e).tc t = { s.tc t with inflight := rest, job := some (.write (w.confirm e)) } := by
    unfold confirmed
    rw [State.setTc_tc, flight]
    rfl
  have changed : (confirmed s t w f e).mtb = s.mtb.modify (.bay t) fun r => r.confirm e f.hdr.frame := State.setTc_mtb ..
  rw [hv] at runs
  rw [hv, before] at tc
  rw [hv, changed] at table
  obtain ⟨w₁, chose⟩ := choose_chose (s := v) (t := t) (w := w.confirm e) (by rw [tc])
  have gathered := gather_gathered chose.job
  obtain ⟨st, -, -, flight', -⟩ := gathered.motion
  obtain ⟨_, _, accepted, _, _, left⟩ := gathered.tc
  have kept := chose.kept
  refine ⟨_, { w₁ with rawAccepted := accepted }, runs, by rw [left], ?_, ?_, ?_⟩
  · rw [flight', st]
    obtain ⟨goes, -⟩ | ⟨idle, -, hitch, -, filtered, entries⟩ := chose.motion
    · rw [goes, tc]
      exact .inl rfl
    · rw [tc] at filtered entries
      have fillers : ∀ g ∈ rest, g.hdr.kind = 4 := fun g mem => by
        obtain ⟨no_entry, not_eod⟩ := entries g mem
        refine (told g ?_ no_entry).resolve_right not_eod
        rw [flight]
        exact List.mem_cons_of_mem f mem
      rw [(confirm_job w e).1] at idle
      refine .inr ⟨idle, hitch, filtered.trans ?_, fillers⟩
      rw [List.filter_eq_nil_iff]
      intro g mem
      have kind : FrameKind.byte .filler = 4 := rfl
      unfold WFrame.isKind
      rw [kind, fillers g mem]
      decide
  · rw [gathered.mtb, chose.mtb, table]
    rw [Mtb.get_modify, record]
    rfl
  · rw [kept]
    exact ⟨rfl, rfl, rfl, rfl⟩

/-! ## A BAD result (R117) -/

/-- The controller with the failed entries at the front of the rewrite list (R117; log entry 9). -/
def tailMoved (c : Tc) (w : WriteJob) (g : WFrame) (all : List WEntry) : Tc :=
  { c with inflight := [], rewrite := all, job := some (.write { w with inProgress := some { g with entry := none } }) }

theorem tailRewrite_eq {e : WEntry} {rest : List WFrame} {g : WFrame} {p : Nat} {moved : List WEntry} {r : CartRecord}
    {c : CartClass} (job : (s.tc t).job = some (.write w)) (flight : (s.tc t).inflight = f :: rest) (entry : f.entry = some e)
    (busy : w.inProgress = some g) (pos : (s.tc t).pos = some p) (record : s.mtb.get (.bay t) = some r) (cls : r.cls = some c)
    (tail : moved = (((f :: rest).filterMap (·.entry)) ++ g.entry.toList).map (fun x => { x with rewrites := x.rewrites + 1 })) :
    s.tailRewrite t w =
      let v := s.setTc t (tailMoved (s.tc t) w g (moved ++ (s.tc t).rewrite))
      if w.limit < e.rewrites + 1 then v.giveUp t .writeFault (moved ++ (s.tc t).rewrite)
      else if Config.capacity c - 16 ≤ p + 1 then v.giveUp t .endOfMedia (moved ++ (s.tc t).rewrite)
      else v := by
  have failed : ((s.tc t).tail w).map WEntry.again = moved := by
    rw [tail]
    unfold Tc.tail
    rw [flight, busy]
    rfl
  have head : ∃ more, moved = e.again :: more := by
    rw [tail, List.filterMap_cons_some entry]
    exact ⟨_, rfl⟩
  obtain ⟨more, hmore⟩ := head
  have next : (s.tc t).nextPlace = some (p + 1) := by
    unfold Tc.nextPlace
    rw [job]
    simp [busy, pos]
  unfold State.tailRewrite
  dsimp only
  rw [failed, modTc_eq, modWrite_of_write (w := w) (by rw [State.setTc_tc]; exact job), State.setTc_tc, setTc_setTc,
    reserveAt_of_record record cls, next, busy, hmore]
  rfl

/-- The next address and file number return to the first entry given up (R117, R126). -/
theorem gaveUp_head (s : State) (t : Tr) (w : WriteJob) (v : JobResult) (e : WEntry) (more : List WEntry) :
    (gaveUp s t w v (e :: more)).nextAddr = e.addr ∧ (gaveUp s t w v (e :: more)).nextFile = e.file := ⟨rfl, rfl⟩

/-- A write job gives up everything behind a BAD result, while a frame is being written (R117, R126). -/
theorem readBack_gaveUp {e : WEntry} {rest : List WFrame} {g : WFrame} {all : List WEntry} {raw : RawFrame} {res : JobResult}
    (job : (s.tc t).job = some (.write w)) (flight : (s.tc t).inflight = f :: rest) (entry : f.entry = some e)
    (bad : judge f.hdr raw = false)
    (fails : s.tailRewrite t w = (s.setTc t (tailMoved (s.tc t) w g all)).giveUp t res all) :
    ∃ u w', Runs (.readBackResult t f.hdr.frame raw) s u ∧ (u.tc t).inflight = [] ∧ (u.tc t).rewrite = [] ∧
      (u.tc t).blockQ = [] ∧ (u.tc t).intake = [] ∧ ((s.tc t).st = .writing → (u.tc t).st = .draining) ∧
      (u.tc t).job = some (.write w') ∧
      w' = gaveUp (s.setTc t (tailMoved (s.tc t) w g all)) t { w with inProgress := some { g with entry := none } } res all := by
  have runs := readBack_entry job flight entry raw
  obtain ⟨v, hv⟩ : ∃ v, s.setTc t (tailMoved (s.tc t) w g all) = v := ⟨_, rfl⟩
  obtain ⟨w', hw⟩ : ∃ w', gaveUp v t { w with inProgress := some { g with entry := none } } res all = w' := ⟨_, rfl⟩
  have busy' : w'.inProgress = some { g with entry := none } := by rw [← hw]; rfl
  have tc : v.tc t = tailMoved (s.tc t) w g all := by rw [← hv, State.setTc_tc]
  have given := giveUp_eq (s := v) (t := t) (w := { w with inProgress := some { g with entry := none } }) (by rw [tc]; rfl) res all
  obtain ⟨-, -, -, cleared⟩ := clearCtx_parts v t .write
  rw [hw] at given
  obtain ⟨u, hu⟩ : ∃ u, (v.clearCtx t .write).setTc t { v.tc t with
    st := drainState (v.tc t).st, intake := [], blockQ := [], rewrite := [], job := some (.write w') } = u := ⟨_, rfl⟩
  have left : u.tc t = { v.tc t with
      st := drainState (v.tc t).st, intake := [], blockQ := [], rewrite := [], job := some (.write w') } := by
    rw [← hu, State.setTc_tc]
  have context : u.cx t = { dir := .write } := by
    rw [← hu, State.setTc_cx]
    exact cleared
  rw [if_neg (by rw [bad]; exact Bool.false_ne_true), fails, hv, given, hu,
    choose_of_busy (w := w') (by rw [left]) busy', gather_idle (w := w') (by rw [left]) (by rw [context]) (by rw [context])
      (.inl (by rw [left]))] at runs
  refine ⟨u, w', runs, ?_, by rw [left], by rw [left], by rw [left], fun writing => ?_, by rw [left], by rw [← hw, hv]⟩
  · rw [left, tc]
    rfl
  · rw [left, tc]
    show drainState (s.tc t).st = _
    rw [writing]
    rfl

end

/-- Settles O55: the oldest entry confirmed, its tail rewritten or given up, a filler taken off, a late result
discarded. -/
theorem readBackConfirmsOrRewrites : Obligations.ReadBackConfirmsOrRewrites := by
  unfold Obligations.ReadBackConfirmsOrRewrites
  refine ⟨fun s t w f rest e r raw job flight entry record told => ⟨fun good => ?_, fun bad g p c moved busy pos cls tail => ?_,
    fun place other => ?_⟩, fun s t w f g rest raw job flight no_entry filler busy intake closed held => ?_⟩
  · obtain ⟨u, w', runs, job', flight', record', blocks, tape, coded, marks⟩ := readBack_good job flight entry record told good
    obtain ⟨-, of_block, of_mark⟩ := confirm_job w e
    obtain ⟨block, mark, eod, dirty⟩ := confirm_record r e f.hdr.frame
    refine ⟨u, w', _, runs, job', flight', record', fun b hb => ?_, fun hb => ?_, eod, dirty⟩
    · rw [of_block b hb] at blocks tape coded
      exact ⟨blocks, tape, coded, block b hb⟩
    · rw [of_mark hb] at marks
      exact ⟨marks, mark hb⟩
  · have rewrites := tailRewrite_eq job flight entry busy pos record cls tail
    have head : ∃ more, moved = e.again :: more := by
      rw [tail, List.filterMap_cons_some entry]
      exact ⟨_, rfl⟩
    refine ⟨fun within room => ?_, fun res open_ decides => ?_⟩
    · have runs := readBack_entry job flight entry raw
      dsimp only at rewrites
      rw [if_neg (by omega), if_neg (by omega)] at rewrites
      obtain ⟨v, hv⟩ : ∃ v, s.setTc t (tailMoved (s.tc t) w g (moved ++ (s.tc t).rewrite)) = v := ⟨_, rfl⟩
      have tc : v.tc t = tailMoved (s.tc t) w g (moved ++ (s.tc t).rewrite) := by rw [← hv, State.setTc_tc]
      have running : (v.tc t).job = some (.write { w with inProgress := some { g with entry := none } }) := by rw [tc]; rfl
      rw [if_neg (by rw [bad]; exact Bool.false_ne_true), rewrites, hv, choose_of_busy running rfl] at runs
      have gathered := gather_gathered running
      obtain ⟨_, _, accepted, _, _, left⟩ := gathered.tc
      refine ⟨_, _, runs, ?_, ?_, ?_, by rw [left], rfl, ?_⟩
      · rw [left, tc]
        rfl
      · rw [left, tc]
        rfl
      · rw [left, tc]
        rfl
      · rw [gathered.mtb, ← hv, State.setTc_mtb]
    · have fails : s.tailRewrite t w = (s.setTc t (tailMoved (s.tc t) w g (moved ++ (s.tc t).rewrite))).giveUp t res
          (moved ++ (s.tc t).rewrite) := by
        rw [rewrites]
        dsimp only
        obtain ⟨beyond, rfl⟩ | ⟨within, reserve, rfl⟩ := decides
        · rw [if_pos beyond]
        · rw [if_neg (by omega), if_pos reserve]
      obtain ⟨u, w', runs, flight', rewrite', queue, intake, drains, job', gives⟩ := readBack_gaveUp job flight entry bad fails
      obtain ⟨more, hmore⟩ := head
      refine ⟨u, w', runs, flight', rewrite', queue, intake, drains, job', ?_, ?_, ?_, ?_⟩
      · rw [gives]
        show some (w.verdict.getD res) = _
        rw [open_]
        rfl
      · rw [gives]
        show w.blocksLost + (moved ++ (s.tc t).rewrite).length = _
        rw [List.length_append, Nat.add_assoc]
      · rw [gives, hmore]
        rfl
      · rw [gives, hmore]
        rfl
  · refine runs_of_eq (v := s.readBack t place raw) rfl ?_
    unfold State.readBack
    rw [job]
    show s.writeResult t w place raw = s
    unfold State.writeResult
    rw [flight]
    exact if_pos (Ne.symm other)
  · obtain ⟨v, hv⟩ : ∃ v, s.setTc t { s.tc t with inflight := rest } = v := ⟨_, rfl⟩
    have tc : v.tc t = { s.tc t with inflight := rest } := by rw [← hv, State.setTc_tc]
    have running : (v.tc t).job = some (.write w) := by rw [tc]; exact job
    have context : v.cx t = s.cx t := by rw [← hv, State.setTc_cx]
    rw [hv]
    refine runs_of_eq (v := s.readBack t f.hdr.frame raw) rfl ?_
    have not_eod : f.isKind .eod = false := by
      unfold WFrame.isKind
      rw [filler]
      rfl
    unfold State.readBack
    rw [job]
    show s.writeResult t w f.hdr.frame raw = v
    unfold State.writeResult
    rw [modTc_eq, flight]
    dsimp only
    rw [if_neg (by simp), no_entry]
    dsimp only
    rw [not_eod, if_neg Bool.false_ne_true, List.tail_cons, hv, choose_of_busy running busy]
    exact gather_idle running (by rw [context]; exact closed) (by rw [context]; exact held) (.inl (by rw [tc]; exact intake))

end Sys2Proof.Proofs
end

section
/-! PROOFS. MARK and CLOSE: the items of a write job and of a comparison (R51, R111, R155, R158). -/

open Sys2Proof Sys2Proof.Machine Sys2Proof.Claims

namespace Sys2Proof.Proofs

-- One declaration at a time: elaborated in parallel, the joined text needs more threads than the memory limit holds.
set_option Elab.async false

/-! ## The pump step by step (R90, R91) -/

theorem run_of_step {p p₁ : Pump} (step : p.step = some p₁) (n : Nat) : Pump.run (n + 1) p = Pump.run n p₁ := by
  rw [Pump.run, step]

/-- An item ends the block before it and passes behind it into the block queue, where a slice has been taken whole (R90,
R91). -/
theorem gather_item {x : Ctx} {q : List QEntry} (open_ : x.complete = false) (slice : x.slice = []) (closed : x.closed = none)
    (held : x.held = none) (room : q.length + 1 < 32) (i : Item) :
    Pump.gather { cx := x, intake := [.item i], blockQ := q } =
      { cx := { x with cur := emptyBlock }, intake := []
        blockQ := q ++ (if x.cur.slices = 0 then [] else [.block x.cur]) ++ [itemEntry i] } := by
  have step : Pump.step { cx := x, intake := [.item i], blockQ := q } =
      some { cx := { x with cur := emptyBlock }, intake := []
             blockQ := q ++ (if x.cur.slices = 0 then [] else [.block x.cur]) ++ [itemEntry i] } := by
    unfold Pump.step Pump.closeBlock Pump.handItem
    by_cases none_there : x.cur.slices = 0
    · simp [open_, slice, held, closed, none_there, Config.blockMax, show q.length < 32 by omega]
    · simp [open_, slice, held, closed, none_there, Config.blockMax, show q.length < 32 by omega, show q.length + 1 < 32 from room]
  have stuck : Pump.step { cx := { x with cur := emptyBlock }, intake := []
                           blockQ := q ++ (if x.cur.slices = 0 then [] else [.block x.cur]) ++ [itemEntry i] } = none := by
    unfold Pump.step
    simp [open_]
  unfold Pump.gather
  rw [flush_of_none (by exact closed) (by exact held)]
  exact (run_of_step step _).trans (run_of_stuck stuck _)

section
variable {s : State} {t : Tr}

/-- What follows at a write job whose first gathering takes all that can be taken. -/
theorem writePump_gathered {u : State} (first : s.gather t = u) (again : u.gather t = u) : s.writePump t = u.writePump t := by
  unfold State.writePump
  rw [first, again]

/-- Behind a gathering that has taken all, the pump leaves the intake empty, the context as it is unless everything is
given up, and the ABORT of the job; it only takes entries from the block queue. -/
theorem writePump_work {w : WriteJob} (job : (s.tc t).job = some (.write w)) (intake : (s.tc t).intake = [])
    (closed : (s.cx t).closed = none) (held : (s.cx t).held = none) :
    (∃ w', ((s.writePump t).tc t).job = some (.write w') ∧ w'.abort = w.abort) ∧ ((s.writePump t).tc t).intake = [] ∧
      ((s.writePump t).cx t = s.cx t ∨ (s.writePump t).cx t = { dir := .write }) ∧
      ((s.writePump t).tc t).blockQ <:+ (s.tc t).blockQ := by
  have resumed : (∃ w', ((s.writeResume t).tc t).job = some (.write w') ∧ w'.abort = w.abort) ∧
      ((s.writeResume t).tc t).intake = [] ∧
      ((s.writeResume t).cx t = s.cx t ∨ (s.writeResume t).cx t = { dir := .write }) ∧
      ((s.writeResume t).tc t).blockQ <:+ (s.tc t).blockQ := by
    unfold State.writeResume
    rw [writeJob_of_job job]
    dsimp only
    split
    · obtain ⟨w', chose⟩ := choose_chose (s := s.modTc t fun c => c.stream (c.resumeState w)) (t := t) (w := w)
        (by rw [State.modTc_tc]; exact job)
      have work := chose.work
      have queue := chose.queue
      rw [State.modTc_tc] at queue
      rw [State.modTc_tc, State.modTc_cx] at work
      refine ⟨⟨w', chose.job, by rw [chose.kept]⟩, ?_⟩
      obtain ⟨same, cx⟩ | ⟨none_left, cx⟩ := work
      · exact ⟨same.trans intake, .inl cx, queue⟩
      · exact ⟨none_left, .inr cx, queue⟩
    · exact ⟨⟨w, job, rfl⟩, intake, .inl rfl, List.suffix_refl _⟩
  obtain ⟨⟨w', job', abort⟩, intake', cx, queue⟩ := resumed
  have stands : ((s.writeResume t).cx t).closed = none ∧ ((s.writeResume t).cx t).held = none := by
    obtain cx | cx := cx <;> rw [cx]
    · exact ⟨closed, held⟩
    · exact ⟨rfl, rfl⟩
  unfold State.writePump
  rw [gather_idle job closed held (.inl intake), gather_idle job' stands.1 stands.2 (.inl intake')]
  exact ⟨⟨w', job', abort⟩, intake', cx, queue⟩

/-! ## An item of a write job (R111) -/

/-- The transport with an item taken into the intake of its write job (R111). -/
def itemTaken (c : Tc) (w : WriteJob) (i : Item) : Tc :=
  { c with intake := c.intake ++ [.item i], job := some (.write { w with closing := decide (i = .close) }) }

theorem takeItem_eq {w : WriteJob} (job : (s.tc t).job = some (.write w)) (first : w.closing = false) (tag code : Byte) (i : Item) :
    s.takeItem t tag code i =
      if itemCount (s.tc t).intake < 4 then
        ((replied s (.transport t) tag code .accepted).setTc t (itemTaken (s.tc t) w i)).writePump t
      else replied s (.transport t) tag code (.refused .queueFull) := by
  unfold State.takeItem
  split
  · rw [if_pos ‹_›, accept_eq]
    dsimp only
    rw [modTc_eq, modWrite_of_write (w := w) (by rw [State.setTc_tc, replied_tc]; exact job), State.setTc_tc, setTc_setTc,
      replied_tc, first]
    rfl
  · rw [if_neg ‹_›]
    exact refuse_eq ..

/-- MARK and CLOSE of a write job that has not begun to end (R51, R111). -/
theorem item_runs {w : WriteJob} {c : Instr} {tag code : Byte} {i : Item} (takes : Takes s)
    (row : (c = .mark t tag ∧ code = 0x28 ∧ i = .mark) ∨ (c = .close t tag ∧ code = 0x29 ∧ i = .close))
    (job : (s.tc t).job = some (.write w)) (first : w.closing = false) (abort : w.abort = .none) (verdict : w.verdict = none)
    {u : State} (taken : s.takeItem t tag code i = u) : Runs c s u := by
  have goes_on : w.ending = false := by
    unfold WriteJob.ending
    rw [first, abort, verdict]
    rfl
  obtain ⟨rfl, rfl, rfl⟩ | ⟨rfl, rfl, rfl⟩ := row
  · have marks : s.takeMark t tag = u := by
      unfold State.takeMark
      rw [writeJob_of_job job]
      dsimp only
      rw [goes_on, if_neg Bool.false_ne_true]
      exact taken
    exact marks ▸ runs_of_gate (take := fun s => s.takeMark t tag) rfl takes
  · have closes : s.takeClose t tag = u := by
      unfold State.takeClose
      rw [job]
      dsimp only
      rw [goes_on, if_neg Bool.false_ne_true]
      exact taken
    exact closes ▸ runs_of_gate (take := fun s => s.takeClose t tag) rfl takes

/-- A job whose context holds nothing hands the item on at once (R90, R91; log entry 46). -/
theorem itemTaken_gather {w : WriteJob} {q : List QEntry} {i : Item} {v : State} (tc : v.tc t = itemTaken (s.tc t) w i)
    (cx : v.cx t = s.cx t) (open_ : (s.cx t).complete = false) (slice : (s.cx t).slice = []) (closed : (s.cx t).closed = none)
    (held : (s.cx t).held = none) (intake : (s.tc t).intake = []) (room : (s.tc t).blockQ.length + 1 < 32)
    (queue : q = (s.tc t).blockQ ++ (if (s.cx t).cur.slices = 0 then [] else [.block (s.cx t).cur]) ++ [itemEntry i]) :
    v.gather t = (v.setCx t { s.cx t with cur := emptyBlock }).setTc t { s.tc t with
      blockQ := q, job := some (.write { w with closing := decide (i = .close) }) } := by
  have pumped : Pump.gather { cx := v.cx t, intake := (v.tc t).intake, blockQ := (v.tc t).blockQ } =
      { cx := { s.cx t with cur := emptyBlock }, intake := [], blockQ := q } := by
    rw [queue, cx, tc]
    unfold itemTaken
    dsimp only
    rw [intake]
    exact gather_item open_ slice closed held room i
  rw [gather_eq (w := { w with closing := decide (i = .close) }) (by rw [tc]; rfl) pumped, if_pos rfl, tc]
  refine congrArg (State.setTc _ t) ?_
  have same : ∀ c : Tc, c.intake = [] → ({ c with intake := [] } : Tc) = c := fun c h => by
    cases c
    cases h
    rfl
  rw [← same (s.tc t) intake]
  rfl

end

/-! ## A CLOSE of a comparison (R155, R158) -/

section
variable {s : State} {t : Tr} {r : ReadJob}

theorem cmpRun_of_stuck {c : Cmp} (stuck : c.step = none) : ∀ n, c.run n = c
  | 0 => rfl
  | n + 1 => by rw [Cmp.run, stuck]

theorem cmpRun_of_step {c d : Cmp} (step : c.step = some d) (n : Nat) : c.run (n + 1) = d.run n := by rw [Cmp.run, step]

/-- A comparison in terms of its run (R156). -/
theorem compare_of_run (job : (s.tc t).job = some (.read r)) (compares : r.isCompare = true) {d : Cmp}
    (run : Cmp.run (Cmp.steps { delivery := (s.tc t).delivery, intake := (s.tc t).intake, job := r })
      { delivery := (s.tc t).delivery, intake := (s.tc t).intake, job := r } = d) :
    s.compare t =
      (if d.earned = 0 then fun v => v else fun v : State => v.earn t d.earned)
        (s.setTc t { s.tc t with delivery := d.delivery, intake := d.intake, job := some (.read d.job) }) := by
  unfold State.compare
  rw [readJob_of_job job]
  dsimp only
  rw [if_pos compares, run, modTc_eq]
  split <;> rfl

/-- A comparison that can take nothing (R156). -/
theorem compare_stuck (job : (s.tc t).job = some (.read r)) (compares : r.isCompare = true)
    (stuck : Cmp.step { delivery := (s.tc t).delivery, intake := (s.tc t).intake, job := r } = none) : s.compare t = s := by
  rw [compare_of_run job compares (cmpRun_of_stuck stuck _), if_pos rfl]
  have same : ∀ c : Tc, c.job = some (.read r) →
      ({ c with delivery := c.delivery, intake := c.intake, job := some (.read r) } : Tc) = c := fun c h => by
    cases c
    cases h
    rfl
  exact (congrArg (s.setTc t) (same _ job)).trans (setTc_self s t)

/-- A pump that only compares: nothing at the head of the block queue to move, no reading to resume (R156). -/
theorem readPump_compares (job : (s.tc t).job = some (.read r)) (plain : HeadPlain (s.tc t).blockQ) (running : r.ended = none)
    (still : (s.tc t).st ≠ .waiting) : s.readPump t = ((s.compare t).shortEnd t).readEndTest t := by
  unfold State.readPump
  rw [takeHeads_self job plain, lastGaps_self job (.inl running), readResume_eq job, if_neg fun h => still h.1]

/-- The transport with the CLOSE of a comparison in its intake (R155). -/
def closeTaken (c : Tc) (r : ReadJob) : Tc :=
  { c with intake := [.item .close], job := some (.read { r with closing := true }) }

theorem takeClose_compare (job : (s.tc t).job = some (.read r)) (compares : r.isCompare = true) (first : r.closing = false)
    (ended : r.ended = none) (intake : (s.tc t).intake = []) (tag : Byte) :
    s.takeClose t tag = ((replied s (.transport t) tag 0x29 .accepted).setTc t (closeTaken (s.tc t) r)).readPump t := by
  have takes : r.takesClose = true := by
    unfold ReadJob.takesClose
    simp [compares, first, ended]
  unfold State.takeClose
  rw [job]
  dsimp only
  rw [if_pos takes]
  unfold State.closeCompare
  rw [accept_eq]
  dsimp only
  rw [modTc_eq, modRead_of_read (r := r) (by rw [State.setTc_tc, replied_tc]; exact job), State.setTc_tc, setTc_setTc,
    replied_tc, intake]
  rfl

theorem compare_kind {q : ReadJob} (compares : r.isCompare = true) (spec : q.spec = r.spec := by rfl) :
    Job.kind (.read q) = .verify := by
  unfold ReadJob.isCompare at compares
  split at compares
  next h =>
    unfold Job.kind
    dsimp only
    rw [spec, h]
  next => cases compares

/-- A CLOSE met where a decoded byte waits decides COMPARE_SHORT at it (R158). -/
theorem compare_short {d : DByte} {bs : List DByte} {k m : Bool} {rest : List DItem} (job : (s.tc t).job = some (.read r))
    (compares : r.isCompare = true) (short : r.short = none) (aligned : r.unaligned = false)
    (delivery : (s.tc t).delivery = .chunk (d :: bs) k m :: rest) (checked : d.checked = true)
    (intake : (s.tc t).intake = [.item .close]) :
    s.compare t = s.setTc t { s.tc t with job := some (.read { r with short := some (d.addr, d.pos) }) } := by
  obtain ⟨c, hc⟩ : ∃ c : Cmp, { delivery := (s.tc t).delivery, intake := (s.tc t).intake, job := r } = c := ⟨_, rfl⟩
  have step : c.step = some { c with job := { r with short := some (d.addr, d.pos) } } := by
    rw [← hc]
    unfold Cmp.step
    dsimp only
    rw [short, aligned, delivery, intake]
    simp [checked]
  have stuck : Cmp.step { c with job := { r with short := some (d.addr, d.pos) } } = none := by
    unfold Cmp.step
    rfl
  have run := (cmpRun_of_step step (c.steps - 1)).trans (cmpRun_of_stuck stuck _)
  rw [Nat.sub_add_cancel (by unfold Cmp.steps; omega), ← hc] at run
  rw [compare_of_run job compares run, if_pos rfl]

end

/-- Settles O51: an item joins, passes or is refused; a CLOSE of a comparison waits or ends it short. -/
theorem markAndCloseJoinTheStream : Obligations.MarkAndCloseJoinTheStream := by
  unfold Obligations.MarkAndCloseJoinTheStream
  intro s t tag takes
  refine ⟨fun c code i w row job first abort verdict => ⟨fun full => ?_, fun few closed held => ⟨fun complete stays => ?_,
    fun q open_ slice intake room queue => ?_⟩⟩, fun r job compares first ended short reading queue intake => ?_, fun none_there => ⟨?_, ?_⟩⟩
  · refine item_runs takes row job first abort verdict ?_
    rw [takeItem_eq job first, if_neg (by omega)]
  · obtain ⟨v, hv⟩ : ∃ v, (replied s (.transport t) tag code .accepted).setTc t (itemTaken (s.tc t) w i) = v := ⟨_, rfl⟩
    have tc : v.tc t = itemTaken (s.tc t) w i := by rw [← hv, State.setTc_tc]
    have cx : v.cx t = s.cx t := by rw [← hv, State.setTc_cx]; cases t <;> rfl
    refine item_runs takes row job first abort verdict ?_
    rw [takeItem_eq job first, if_pos few, hv]
    refine (writePump_idle (w := { w with closing := decide (i = .close) }) (by rw [tc]; rfl) (by rw [cx]; exact closed)
      (by rw [cx]; exact held) (.inr (by rw [cx]; exact complete)) fun waiting _ => ⟨?_, abort, verdict⟩).trans hv.symm
    rw [tc] at waiting ⊢
    exact stays waiting
  · obtain ⟨v, hv⟩ : ∃ v, (replied s (.transport t) tag code .accepted).setTc t (itemTaken (s.tc t) w i) = v := ⟨_, rfl⟩
    have tc : v.tc t = itemTaken (s.tc t) w i := by rw [← hv, State.setTc_tc]
    have cx : v.cx t = s.cx t := by rw [← hv, State.setTc_cx]; cases t <;> rfl
    have replies : v.lnk.replies = s.lnk.replies ++ [{ chan := .transport t, tag := tag, code := code, body := .accepted }] := by
      rw [← hv, State.setTc_lnk]
      rfl
    have entry : [itemEntry i] = [if i = .mark then .mark else .close] := by cases i <;> rfl
    have gathers := itemTaken_gather (i := i) tc cx open_ slice closed held intake room (queue.trans (by rw [entry]))
    obtain ⟨u, hu⟩ : ∃ u, (v.setCx t { s.cx t with cur := emptyBlock }).setTc t { s.tc t with
      blockQ := q, job := some (.write { w with closing := decide (i = .close) }) } = u := ⟨_, rfl⟩
    have utc : u.tc t = { s.tc t with blockQ := q, job := some (.write { w with closing := decide (i = .close) }) } := by
      rw [← hu, State.setTc_tc]
    have ucx : u.cx t = { s.cx t with cur := emptyBlock } := by
      rw [← hu, State.setTc_cx]
      cases t <;> rfl
    have umtb : u.mtb = s.mtb := by rw [← hu, State.setTc_mtb, State.setCx_mtb, ← hv, State.setTc_mtb]; rfl
    have uchg : u.chg = s.chg := by rw [← hu, State.setTc_chg, State.setCx_chg, ← hv, State.setTc_chg]; rfl
    have ulnk : u.lnk = v.lnk := by rw [← hu, State.setTc_lnk, State.setCx_lnk]
    have running : (u.tc t).job = some (.write { w with closing := decide (i = .close) }) := by rw [utc]
    have taken : (u.tc t).intake = [] := by rw [utc]; exact intake
    have closed' : (u.cx t).closed = none := by rw [ucx]; exact closed
    have held' : (u.cx t).held = none := by rw [ucx]; exact held
    rw [hu] at gathers
    have pumped : v.writePump t = u.writePump t := writePump_gathered gathers (gather_idle running closed' held' (.inl taken))
    obtain ⟨-, work, work_cx, -⟩ := writePump_work running taken closed' held'
    have steady := ((Local.refl t u).writePump).replies
    have runs : Runs c s (u.writePump t) := item_runs takes row job first abort verdict (by
      rw [takeItem_eq job first, if_pos few, hv, pumped])
    refine ⟨u.writePump t, runs, work, ?_, by rw [steady, ulnk, replies], fun still => ?_, fun waiting entries place stand => ?_⟩
    · obtain same | given := work_cx
      · rw [same, ucx]
        rfl
      · rw [given]
    · rw [writePump_idle running closed' held' (.inl taken) fun waiting _ => absurd (by rw [utc] at waiting; exact waiting) still, utc]
      exact ⟨rfl, rfl, rfl⟩
    · obtain ⟨start, idle, flight, rewrite, -, -, -, pos, r, cl, record, cls, free⟩ := stand
      have some_left : q ≠ [] := by
        rw [queue]
        exact List.append_ne_nil_of_right_ne_nil _ (List.cons_ne_nil _ _)
      obtain ⟨streams, -⟩ := writePump_streams (place := place) running (by rw [utc]; exact waiting)
        ⟨start, idle, by rw [utc]; exact flight, by rw [utc]; exact rewrite, taken, closed', held', by rw [utc]; exact pos, r, cl,
          by rw [umtb]; exact record, cls, free⟩ (by
          rw [utc, queue]
          intro e mem
          dsimp only at mem
          rw [List.mem_append, List.mem_append, List.mem_singleton] at mem
          obtain (mem | mem) | rfl := mem
          · exact entries e mem
          · split at mem
            · cases mem
            · exact .inl ⟨_, List.mem_singleton.mp mem⟩
          · split
            · exact .inr (.inl rfl)
            · exact .inr (.inr rfl))
        (fun h => absurd (by rw [utc] at h; exact h) some_left) (fun _ => ⟨by simp [abort], verdict⟩) (.inl (.inr (by
          rw [utc, queue]
          cases i
          · exact .inl (List.mem_append_right _ (List.mem_singleton_self _))
          · exact .inr (List.mem_append_right _ (List.mem_singleton_self _)))))
      have gov : (u.tc t).gov = (s.tc t).gov := by rw [utc]
      have queue' : (u.tc t).blockQ = q := by rw [utc]
      rw [queue'] at streams
      exact writeStreams_of_gov streams gov umtb uchg
  · have runs : ∀ {u}, s.takeClose t tag = u → Runs (.close t tag) s u := fun {u} taken =>
      taken ▸ runs_of_gate (take := fun s => s.takeClose t tag) rfl takes
    obtain ⟨v, hv⟩ : ∃ v, (replied s (.transport t) tag 0x29 .accepted).setTc t (closeTaken (s.tc t) r) = v := ⟨_, rfl⟩
    have tc : v.tc t = closeTaken (s.tc t) r := by rw [← hv, State.setTc_tc]
    have running : (v.tc t).job = some (.read { r with closing := true }) := by rw [tc]; rfl
    have taken : s.takeClose t tag = ((v.compare t).shortEnd t).readEndTest t := by
      rw [takeClose_compare job compares first ended intake, hv]
      exact readPump_compares running (.inl (by rw [tc]; exact queue)) ended (by
        rw [tc]
        show (s.tc t).st ≠ _
        rw [reading]
        decide)
    refine ⟨fun none_left => runs (taken.trans ?_), fun d bs k m rest delivery checked aligned => ?_⟩
    · have stuck : Cmp.step { delivery := (v.tc t).delivery, intake := (v.tc t).intake, job := { r with closing := true } } = none := by
        unfold Cmp.step closeTaken at *
        rw [tc]
        dsimp only
        rw [short, none_left]
        simp
      rw [compare_stuck running compares stuck, shortEnd_self running short, readEndTest_self running (.inl ended)]
      exact hv.symm
    · have compared := compare_short running compares short aligned (by rw [tc]; exact delivery) checked (by rw [tc]; rfl)
      obtain ⟨v₁, hv₁⟩ : ∃ v₁, v.setTc t { v.tc t with job := some (.read { r with closing := true, short := some (d.addr, d.pos) }) } = v₁ :=
        ⟨_, rfl⟩
      have tc₁ : v₁.tc t = { v.tc t with job := some (.read { r with closing := true, short := some (d.addr, d.pos) }) } := by
        rw [← hv₁, State.setTc_tc]
      have running₁ : (v₁.tc t).job = some (.read { r with closing := true, short := some (d.addr, d.pos) }) := by rw [tc₁]
      obtain ⟨res, hres⟩ : ∃ res, (if r.atMark then JobResult.aborted else .compareShort) = res := ⟨_, rfl⟩
      have ends : (v₁.shortEnd t).readEndTest t = v₁.endRead t res := by
        have left : v₁.shortEnd t = v₁.endRead t res := by
          unfold State.shortEnd
          rw [readJob_of_job running₁, ← hres]
          rfl
        have gone : ((v₁.endRead t res).tc t).job = none := by
          rw [endRead_eq running₁, endJob_after_tc (readOver_job _ _)]
        rw [left]
        unfold State.readEndTest Tc.readJob
        rw [gone]
      rw [compared, hv₁, ends] at taken
      obtain ⟨ended', st, pos, -, -⟩ := endRead_ends running₁ res
      have kept : Local t (replied s (.transport t) tag 0x29 .accepted) v₁ := by
        rw [← hv₁, ← hv]
        exact ((Local.refl t _).setTc _).setTc _
      have link : v₁.lnk = (replied s (.transport t) tag 0x29 .accepted).lnk := by
        rw [← hv₁, State.setTc_lnk, ← hv, State.setTc_lnk]
      have mtb : v₁.mtb = s.mtb := by rw [← hv₁, State.setTc_mtb, ← hv, State.setTc_mtb]; rfl
      have free : v₁.free = s.free := by rw [← hv₁, State.setTc_free, ← hv, State.setTc_free]; rfl
      have surplus : intakeRaw (v₁.tc t).intake = 0 := by rw [tc₁, tc]; rfl
      refine ⟨_, res, hres.symm, runs taken, st, ?_, ?_, ?_⟩
      · rw [pos, tc₁, tc]
        rfl
      · have left : ReadJob.leave { r with closing := true, short := some (d.addr, d.pos) } (v₁.tc t).intake =
            { r with closing := true, short := some (d.addr, d.pos) } := by
          unfold ReadJob.leave
          rw [surplus]
          rfl
        have told := jobEnded_of_replied (jobEnded_of_local kept link ended')
        rw [left, mtb, free, compare_kind compares] at told
        exact told
      · rw [((Local.refl t v₁).endRead res).replies, link]
        rfl
  · have marks : s.takeMark t tag = replied s (.transport t) tag 0x28 (.refused .state) := by
      unfold State.takeMark Tc.writeJob
      rw [none_there]
      exact refuse_eq ..
    exact marks ▸ runs_of_gate (take := fun s => s.takeMark t tag) rfl takes
  · have closes : s.takeClose t tag = replied s (.transport t) tag 0x29 (.refused .state) := by
      unfold State.takeClose
      rw [none_there]
      exact refuse_eq ..
    exact closes ▸ runs_of_gate (take := fun s => s.takeClose t tag) rfl takes

end Sys2Proof.Proofs
end

section
/-! PROOFS. ABORT in every phase of a streaming job (R51, R65, R124, R162). -/

open Sys2Proof Sys2Proof.Machine Sys2Proof.Claims

namespace Sys2Proof.Proofs

-- One declaration at a time: elaborated in parallel, the joined text needs more threads than the memory limit holds.
set_option Elab.async false

section
variable {s : State} {t : Tr} {tag : Byte} {mode : AbortMode} {bay : BaySense}

/-! ## The request (R51) -/

theorem abort_runs (takes : Takes s) {u : State} (taken : s.takeAbort t tag mode bay = u) : Runs (.abort t tag mode bay) s u :=
  taken ▸ runs_of_gate (take := fun s => s.takeAbort t tag mode bay) rfl takes

theorem takeAbort_write {w : WriteJob} (job : (s.tc t).job = some (.write w)) (valid : mode ≠ .atMark) :
    s.takeAbort t tag mode bay =
      if (s.tc t).locatingFirst then (replied s (.transport t) tag 0x27 (.done [])).abortLocate t bay.tach
      else (replied s (.transport t) tag 0x27 (.done [])).abortWrite t w (decide (mode = .immediate)) := by
  unfold State.takeAbort
  rw [job, done_eq]
  exact if_neg valid

theorem takeAbort_read {r : ReadJob} (job : (s.tc t).job = some (.read r)) (valid : mode ≠ .finishQueued) :
    s.takeAbort t tag mode bay =
      if (s.tc t).locatingFirst then (replied s (.transport t) tag 0x27 (.done [])).abortLocate t bay.tach
      else (replied s (.transport t) tag 0x27 (.done [])).abortRead t r (decide (mode = .immediate)) bay.tach := by
  unfold State.takeAbort
  rw [job, done_eq]
  exact if_neg valid

theorem locatingFirst_of_none {c : Tc} (none_there : c.locate = none) : c.locatingFirst = false := by
  unfold Tc.locatingFirst
  rw [none_there]

theorem locatingFirst_of_resync {c : Tc} {l : Locate} {x : Nat} (locate : c.locate = some l) (phase : l.phase = .resync x) :
    c.locatingFirst = false := by
  unfold Tc.locatingFirst
  rw [locate]
  dsimp only
  rw [phase]

theorem locatingFirst_of_locate {c : Tc} {l : Locate} (locate : c.locate = some l) (first : ∀ x, l.phase ≠ .resync x) :
    c.locatingFirst = true := by
  unfold Tc.locatingFirst
  rw [locate]
  dsimp only
  split
  next x phase => exact absurd phase (first x)
  next => rfl

/-! ## In the first locate (R65) -/

/-- The transport of a job that an ABORT ends in its first locate (R65). -/
def cutShort (s : State) (t : Tr) (j : Job) (tach : Nat) : Tc :=
  { Tc.goto { s.tc t with intake := [], blockQ := [], job := some (givenUp s t j) } .ready with
    pos := (s.tc t).abortPos tach }

theorem cutShort_job (s : State) (t : Tr) (j : Job) (tach : Nat) : (cutShort s t j tach).job = some (givenUp s t j) :=
  Tc.goto_job ..

theorem clearCtx_setTc (s : State) (t : Tr) (c : Tc) (d : Dir) : (s.setTc t c).clearCtx t d = (s.clearCtx t d).setTc t c := by
  cases t <;> rfl

theorem discardWork_read {r : ReadJob} (job : (s.tc t).job = some (.read r)) :
    s.discardWork t false = (s.clearCtx t .write).setTc t { s.tc t with intake := [], blockQ := [] } := by
  unfold State.discardWork
  dsimp only
  rw [modTc_eq, clearCtx_tc, modWrite_of_read (r := r) (by rw [State.setTc_tc]; exact job)]
  rfl

theorem abortLocate_eq {j : Job} (job : (s.tc t).job = some j) (streams : (∃ w, j = .write w) ∨ ∃ r, j = .read r) (tach : Nat) :
    s.abortLocate t tach = ((s.clearCtx t .write).setTc t (cutShort s t j tach)).endJob t .aborted := by
  unfold State.abortLocate State.countSurplus
  dsimp only
  refine congrArg (fun v : State => v.endJob t .aborted) ?_
  obtain ⟨w, rfl⟩ | ⟨r, rfl⟩ := streams
  · rw [modRead_of_write job, discardWork_eq job, modTc_eq, State.setTc_tc, setTc_setTc]
    rfl
  · rw [modRead_of_read job, discardWork_read (r := r.leave (s.tc t).intake) (by rw [State.setTc_tc]), modTc_eq, State.setTc_tc,
      clearCtx_setTc, State.setTc_tc, setTc_setTc, setTc_setTc]
    rfl

/-- An ABORT in the first locate ends the job with what it gives up (R65, R123). -/
theorem abortLocate_ends {j : Job} (job : (s.tc t).job = some j) (streams : (∃ w, j = .write w) ∨ ∃ r, j = .read r) (tach : Nat) :
    JobEnded t j.kind .aborted
        (reportOf (s.abortLocate t tach) (s.mtb.get (.bay t)) s.free (givenUp s t j) .aborted) s (s.abortLocate t tach) ∧
      ((s.abortLocate t tach).tc t).st = .ready ∧ ((s.abortLocate t tach).tc t).pos = (s.tc t).abortPos tach ∧
      (s.abortLocate t tach).lnk.replies = s.lnk.replies := by
  obtain ⟨mtb, -, lnk, -⟩ := clearCtx_parts s t .write
  have free : (s.clearCtx t .write).free = s.free := by cases t <;> rfl
  have kind : (givenUp s t j).kind = j.kind := by
    obtain ⟨w, rfl⟩ | ⟨r, rfl⟩ := streams <;> rfl
  have ended := endJob_after (s := s.clearCtx t .write) (t := t) (cutShort_job s t j tach) .aborted
  have replies := ((((Local.refl t s).clearCtx .write).setTc (cutShort s t j tach)).endJob .aborted).replies
  rw [mtb, free, kind] at ended
  rw [abortLocate_eq job streams tach, endJob_after_tc (cutShort_job s t j tach)]
  exact ⟨jobEnded_of_local ((Local.refl t s).clearCtx .write) lnk ended, Tc.goto_st .., rfl, replies⟩

theorem abortPos_locate {c : Tc} {l : Locate} (locate : c.locate = some l) (tach : Nat) :
    ((∃ x, l.phase = .fast x ∨ l.phase = .fastFirst) → c.abortPos tach = some tach) ∧
      ((∃ x, l.phase = .resync x) → c.abortPos tach = some tach) ∧
      ((∀ x, l.phase ≠ .fast x) → l.phase ≠ .fastFirst → (∀ x, l.phase ≠ .resync x) →
        c.abortPos tach = match l.lastHeader with | some p => some (p + 1) | none => c.pos) := by
  unfold Tc.abortPos
  rw [locate]
  dsimp only
  cases l.phase <;> simp <;> rfl

theorem givenUp_replied (s : State) (t : Tr) (ch : Chan) (tag code : Byte) (b : ReplyBody) (j : Job) :
    givenUp (replied s ch tag code b) t j = givenUp s t j := by
  cases t <;> rfl

/-! ## A write job behind its locate (R124) -/

section
variable {w : WriteJob}

/-- A write job that has written nothing ends with what it gives up (R124). -/
theorem abortUnwritten_ends (job : (s.tc t).job = some (.write w)) :
    JobEnded t .write .aborted
        (reportOf (s.abortUnwritten t) (s.mtb.get (.bay t)) s.free (givenUp s t (.write w)) .aborted) s (s.abortUnwritten t) ∧
      ((s.abortUnwritten t).tc t).st = .ready ∧ ((s.abortUnwritten t).tc t).pos = (s.tc t).pos ∧
      (s.abortUnwritten t).lnk.replies = s.lnk.replies := by
  obtain ⟨c, hc⟩ : ∃ c, Tc.goto { s.tc t with
    intake := [], blockQ := [], job := some (givenUp s t (.write w)) } .ready = c := ⟨_, rfl⟩
  have left : s.abortUnwritten t = ((s.clearCtx t .write).setTc t c).endJob t .aborted := by
    unfold State.abortUnwritten
    dsimp only
    rw [discardWork_eq job, modTc_eq, State.setTc_tc, setTc_setTc, ← hc]
    rfl
  have running : c.job = some (givenUp s t (.write w)) := by rw [← hc]; exact Tc.goto_job ..
  obtain ⟨mtb, -, lnk, -⟩ := clearCtx_parts s t .write
  have free : (s.clearCtx t .write).free = s.free := by cases t <;> rfl
  have ended := endJob_after (s := s.clearCtx t .write) (t := t) running .aborted
  have replies := ((((Local.refl t s).clearCtx .write).setTc c).endJob .aborted).replies
  rw [mtb, free] at ended
  rw [left, endJob_after_tc running, ← hc]
  rw [← hc] at ended replies
  exact ⟨jobEnded_of_local ((Local.refl t s).clearCtx .write) lnk ended, Tc.goto_st .., Tc.goto_pos .., replies⟩

/-- The transport of a write job that gives up its intake, and its block queue unless that is kept (R124). -/
def aborted (s : State) (t : Tr) (w : WriteJob) (keep : Bool) (a : WriteAbort) : Tc :=
  { s.tc t with
    intake := []
    blockQ := if keep then (s.tc t).blockQ else []
    job := some (.write { w with
      abort := a
      rawDiscarded := w.rawDiscarded + (intakeRaw (s.tc t).intake + (s.cx t).raw +
        if keep then 0 else ((s.tc t).blockQ.map QEntry.raw).sum) }) }

theorem discardWork_aborted (job : (s.tc t).job = some (.write w)) (keep : Bool) (a : WriteAbort) :
    (s.discardWork t keep).modWrite t (fun w => { w with abort := a }) = (s.clearCtx t .write).setTc t (aborted s t w keep a) := by
  rw [discardWork_eq job, modWrite_of_write (w := { w with rawDiscarded :=
    w.rawDiscarded + (intakeRaw (s.tc t).intake + (s.cx t).raw + if keep then 0 else ((s.tc t).blockQ.map QEntry.raw).sum) })
    (by rw [State.setTc_tc]), State.setTc_tc, setTc_setTc]
  rfl

/-- An ABORT of a streaming write job that has not begun to end (R124). -/
theorem abortWrite_streaming (job : (s.tc t).job = some (.write w)) (verdict : w.verdict = none)
    (written : (s.tc t).st ≠ .waiting ∨ w.wrote = true) (not_draining : (s.tc t).st ≠ .draining) :
    (w.abort ≠ .immediate → s.abortWrite t w true =
      (((s.clearCtx t .write).setTc t
        { aborted s t w false .immediate with st := drainState (s.tc t).st }).choose t).writePump t) ∧
      (w.abort = .none → s.abortWrite t w false =
        (((s.clearCtx t .write).setTc t (aborted s t w true .finishQueued)).choose t).writePump t) := by
  have goes_on : w.abort ≠ .immediate → ¬((s.tc t).st = .draining ∨ w.verdict.isSome = true ∨ w.abort = .immediate) := fun abort => by
    rw [verdict]
    simp [not_draining, abort]
  have written : ¬((s.tc t).st = .waiting ∧ (!w.wrote) = true) := by
    rintro ⟨waiting, new⟩
    obtain h | h := written
    · exact h waiting
    · rw [h] at new
      cases new
  refine ⟨fun abort => ?_, fun abort => ?_⟩
  all_goals
    unfold State.abortWrite
    dsimp only
  · rw [if_neg (goes_on abort), if_neg written, if_pos rfl, discardWork_aborted job, modTc_eq, State.setTc_tc, setTc_setTc,
      toDrain_eq]
    rfl
  · rw [if_neg (goes_on (by rw [abort]; decide)), if_neg written, if_neg Bool.false_ne_true,
      if_neg (by rw [abort]; decide), discardWork_aborted job]

/-- A tape that does not stream is handed no frame (R113). -/
theorem choose_of_stand (not_writing : (s.tc t).st ≠ .writing) (not_draining : (s.tc t).st ≠ .draining) : s.choose t = s := by
  refine choose_of_not (finishQueued_self fun _ _ _ _ _ => not_writing) fun w' place _ _ => ?_
  rw [← Bool.not_eq_true, mayChoose_iff]
  rintro ⟨streams, -, -⟩
  exact streams.elim not_writing not_draining

/-- What an ABORT leaves of a streaming write job, whatever streams on (R124). -/
theorem abortWrite_left {v : State} {w₁ : WriteJob} (job : (v.tc t).job = some (.write w₁)) (intake : (v.tc t).intake = [])
    (cx : v.cx t = { dir := .write }) :
    (∃ w', (((v.choose t).writePump t).tc t).job = some (.write w') ∧ w'.abort = w₁.abort) ∧
      (((v.choose t).writePump t).tc t).intake = [] ∧ ((v.choose t).writePump t).cx t = { dir := .write } ∧
      (((v.choose t).writePump t).tc t).blockQ <:+ (v.tc t).blockQ := by
  obtain ⟨w₂, chose⟩ := choose_chose job
  have work : ((v.choose t).tc t).intake = [] ∧ (v.choose t).cx t = { dir := .write } := by
    obtain ⟨same, cx'⟩ | given := chose.work
    · exact ⟨same.trans intake, cx'.trans cx⟩
    · exact given
  obtain ⟨⟨w', job', abort⟩, intake', cx', queue⟩ := writePump_work chose.job work.1 (by rw [work.2]) (by rw [work.2])
  refine ⟨⟨w', job', by rw [abort, chose.kept]⟩, intake', ?_, queue.trans chose.queue⟩
  obtain cx' | cx' := cx'
  · rw [cx', work.2]
  · exact cx'

/-- An ABORT in WAITING lets a job that has written start to stream, to its drain where nothing is left (R120, R121,
R124). -/
theorem abortWrite_streams {d : Tc} {w₁ : WriteJob} {place : Nat} (waiting : d.st = .waiting) (job : d.job = some (.write w₁))
    (still : WriteStill (s.setTc t { s.tc t with intake := [] }) t w place) (start : w₁.start = w.start)
    (busy : w₁.inProgress = w.inProgress) (flight : d.inflight = (s.tc t).inflight) (rewrite : d.rewrite = (s.tc t).rewrite)
    (intake : d.intake = []) (pos : d.pos = (s.tc t).pos) (gov : d.gov = (s.tc t).gov) (entries : WriteEntries d.blockQ)
    (ends : w₁.abort ≠ .none) (more : d.blockQ ≠ [] → w₁.abort ≠ .immediate ∧ w₁.verdict = none) :
    WriteStreams s ((((s.clearCtx t .write).setTc t d).choose t).writePump t) t w₁ d.blockQ place := by
  obtain ⟨v, hv⟩ : ∃ v, (s.clearCtx t .write).setTc t d = v := ⟨_, rfl⟩
  obtain ⟨mtb, chg, -, cx⟩ := clearCtx_parts s t .write
  have tc : v.tc t = d := by rw [← hv, State.setTc_tc]
  have vcx : v.cx t = { dir := .write } := by rw [← hv, State.setTc_cx, cx]
  have vmtb : v.mtb = s.mtb := by rw [← hv, State.setTc_mtb, mtb]
  have vchg : v.chg = s.chg := by rw [← hv, State.setTc_chg, chg]
  obtain ⟨begun, idle, none_told, none_again, -, -, -, at_, r, c, record, cls, free⟩ := still
  rw [State.setTc_tc] at none_told none_again at_
  rw [State.setTc_mtb] at record
  rw [hv, choose_of_stand (by rw [tc, waiting]; decide) (by rw [tc, waiting]; decide)]
  obtain ⟨streams, -⟩ := writePump_streams (s := v) (t := t) (w := w₁) (place := place) (by rw [tc]; exact job)
    (by rw [tc]; exact waiting)
    ⟨by rw [start]; exact begun, by rw [busy]; exact idle, by rw [tc, flight]; exact none_told,
      by rw [tc, rewrite]; exact none_again, by rw [tc]; exact intake, by rw [vcx], by rw [vcx], by rw [tc, pos]; exact at_,
      r, c, by rw [vmtb]; exact record, cls, free⟩
    (by rw [tc]; exact entries) (fun _ => .inl ends) (fun h => more (by rw [tc] at h; exact h)) (.inr (.inl ends))
  rw [tc] at streams
  exact writeStreams_of_gov streams (by rw [tc]; exact gov) vmtb vchg

/-- An ABORT while the tape stops, or a frame is being written, only marks the job (R120, R124). -/
theorem abortWrite_marks {d : Tc} {w₁ : WriteJob} (job : d.job = some (.write w₁)) (intake : d.intake = [])
    (stands : d.st = .hitch ∨ ((d.st = .writing ∨ d.st = .draining) ∧ w₁.inProgress ≠ none)) :
    (((s.clearCtx t .write).setTc t d).choose t).writePump t = (s.clearCtx t .write).setTc t d := by
  obtain ⟨v, hv⟩ : ∃ v, (s.clearCtx t .write).setTc t d = v := ⟨_, rfl⟩
  obtain ⟨-, -, -, cx⟩ := clearCtx_parts s t .write
  have tc : v.tc t = d := by rw [← hv, State.setTc_tc]
  have vcx : v.cx t = { dir := .write } := by rw [← hv, State.setTc_cx, cx]
  have chosen : v.choose t = v := by
    obtain hitch | ⟨-, busy⟩ := stands
    · exact choose_of_stand (by rw [tc, hitch]; decide) (by rw [tc, hitch]; decide)
    · obtain ⟨g, hg⟩ := Option.ne_none_iff_exists'.mp busy
      exact choose_of_busy (by rw [tc]; exact job) hg
  rw [hv, chosen]
  refine writePump_idle (by rw [tc]; exact job) (by rw [vcx]) (by rw [vcx]) (.inl (by rw [tc]; exact intake)) fun waiting => ?_
  rw [tc] at waiting
  obtain h | ⟨h | h, -⟩ := stands <;> rw [h] at waiting <;> cases waiting

end

/-! ## A read job behind its first locate (R162) -/

section
variable {r : ReadJob}

theorem abortRead_short (short : r.short ≠ none) (now : Bool) (tach : Nat) : s.abortRead t r now tach = s :=
  if_pos (Option.isSome_iff_ne_none.mpr short)

theorem abortRead_now (short : r.short = none) (tach : Nat) : s.abortRead t r true tach = s.abortReadNow t tach := by
  unfold State.abortRead
  rw [short]
  rfl

theorem abortRead_mark (short : r.short = none) (tach : Nat) :
    s.abortRead t r false tach = if r.ended.isSome then s else s.modRead t fun r => { r with atMark := true } := by
  unfold State.abortRead
  rw [short]
  rfl

end

end

/-- Settles O50: the first locate, the write job in each of its phases, the read job, and the refusals. -/
theorem abortEndsOrMarksTheJob : Obligations.AbortEndsOrMarksTheJob := by
  unfold Obligations.AbortEndsOrMarksTheJob
  intro s t tag mode bay ok takes answer
  obtain ⟨v, hv⟩ : ∃ v, replied s (.transport t) tag 0x27 (.done []) = v := ⟨_, rfl⟩
  have tc : v.tc t = s.tc t := by rw [← hv, replied_tc]
  have cx : v.cx t = s.cx t := by rw [← hv]; cases t <;> rfl
  have mtb : v.mtb = s.mtb := by rw [← hv]; rfl
  have free : v.free = s.free := by rw [← hv]; rfl
  have replies : v.lnk.replies = s.lnk.replies ++ [ok] := by rw [← hv, answer]; rfl
  have gives : ∀ j, givenUp v t j = givenUp s t j := fun j => by rw [← hv, givenUp_replied]
  have told : ∀ {kind res report u}, JobEnded t kind res report v u → JobEnded t kind res report s u :=
    fun {kind res report u} h => by
      rw [← hv] at h
      exact jobEnded_of_replied h
  refine ⟨fun j l job locate first valid => ?_, fun w job none_there valid => ⟨fun late => ?_, fun open_ abort => ⟨fun waiting new => ?_,
    fun wrote streams => ?_⟩, fun place raw open_ wrote waiting still hraw => ?_, fun discarded open_ stands hd => ?_⟩,
    fun r resync job past => ⟨fun short => ⟨fun now => ?_, fun marks goes_on => ?_⟩, fun valid late => ?_⟩,
    fun w job => ?_, fun r job => ?_, fun no_write no_read => ?_⟩
  · have locating := locatingFirst_of_locate locate first
    have streams : (∃ w, j = .write w) ∨ ∃ r, j = .read r := valid.imp (fun h => h.2.2) fun h => h.2
    have taken : s.takeAbort t tag mode bay = v.abortLocate t bay.tach := by
      obtain ⟨-, ne, w, rfl⟩ | ⟨ne, r, rfl⟩ := valid
      · rw [takeAbort_write job ne, if_pos locating, hv]
      · rw [takeAbort_read job ne, if_pos locating, hv]
    obtain ⟨ended, st, pos, answered⟩ := abortLocate_ends (s := v) (t := t) (by rw [tc]; exact job) streams bay.tach
    obtain ⟨fast, -, slow⟩ := abortPos_locate locate bay.tach
    rw [mtb, free, gives] at ended
    rw [tc] at pos
    exact ⟨_, abort_runs takes taken, st, fun h => pos.trans (fast h), fun h h' => pos.trans (slow h h' first), told ended,
      answered.trans replies⟩
  · have taken := takeAbort_write (tag := tag) (bay := bay) job valid
    rw [if_neg (by rw [locatingFirst_of_none none_there]; exact Bool.false_ne_true), hv] at taken
    rw [hv]
    refine abort_runs takes (taken.trans ?_)
    unfold State.abortWrite
    rw [tc]
    dsimp only
    obtain draining | decided | immediate | ⟨queued, finishes, wrote⟩ := late
    · rw [if_pos (.inl draining)]
    · rw [if_pos (.inr (.inl (Option.isSome_iff_ne_none.mpr decided)))]
    · rw [if_pos (.inr (.inr immediate))]
    · rw [finishes, queued, wrote]
      simp
  · have taken := takeAbort_write (tag := tag) (bay := bay) job valid
    rw [if_neg (by rw [locatingFirst_of_none none_there]; exact Bool.false_ne_true), hv] at taken
    have unwritten : v.abortWrite t w (decide (mode = .immediate)) = v.abortUnwritten t := by
      unfold State.abortWrite
      rw [tc]
      dsimp only
      rw [waiting, open_, abort, new]
      simp
    obtain ⟨ended, st, pos, answered⟩ := abortUnwritten_ends (s := v) (t := t) (by rw [tc]; exact job)
    rw [mtb, free, gives] at ended
    exact ⟨_, abort_runs takes (taken.trans unwritten), st, by rw [pos, tc], told ended, answered.trans replies⟩
  · have taken := takeAbort_write (tag := tag) (bay := bay) job valid
    rw [if_neg (by rw [locatingFirst_of_none none_there]; exact Bool.false_ne_true), hv] at taken
    obtain ⟨now, later⟩ := abortWrite_streaming (s := v) (t := t) (by rw [tc]; exact job) open_ (.inr wrote)
      (by rw [tc]; exact streams)
    obtain ⟨-, -, -, cleared⟩ := clearCtx_parts v t .write
    have goes : ∀ {d : Tc} {w₁ : WriteJob}, d.job = some (.write w₁) → d.intake = [] →
        v.abortWrite t w (decide (mode = .immediate)) = (((v.clearCtx t .write).setTc t d).choose t).writePump t →
        w₁.abort = (if mode = .immediate then .immediate else .finishQueued) → (mode = .immediate → d.blockQ = []) →
        ∃ u w', Runs (.abort t tag mode bay) s u ∧ (u.tc t).job = some (.write w') ∧
          w'.abort = (if mode = .immediate then .immediate else .finishQueued) ∧ (u.tc t).intake = [] ∧
          (u.cx t).slice = [] ∧ (u.cx t).closed = none ∧ (u.cx t).held = none ∧
          (mode = .immediate → (u.tc t).blockQ = []) ∧ u.lnk.replies = s.lnk.replies ++ [ok] := by
      intro d w₁ running intake aborts marks queue
      have kept := ((((Local.refl t v).clearCtx .write).setTc d).choose.writePump).replies
      have first : ((v.clearCtx t .write).setTc t d).tc t = d := State.setTc_tc ..
      obtain ⟨⟨w', job', abort'⟩, intake', cx', suffix⟩ := abortWrite_left (v := (v.clearCtx t .write).setTc t d) (t := t)
        (w₁ := w₁) (by rw [first]; exact running) (by rw [first]; exact intake) (by rw [State.setTc_cx]; exact cleared)
      refine ⟨_, w', abort_runs takes (taken.trans aborts), job', abort'.trans marks, intake', by rw [cx'], by rw [cx'], by rw [cx'],
        fun immediate => ?_, kept.trans replies⟩
      rw [first, queue immediate] at suffix
      exact List.suffix_nil.mp suffix
    by_cases immediate : mode = .immediate
    · refine goes (d := { aborted v t w false .immediate with st := drainState (v.tc t).st }) rfl rfl ?_
        (by rw [if_pos immediate]) fun _ => rfl
      rw [decide_eq_true immediate]
      exact now (by rw [abort]; decide)
    · refine goes (d := aborted v t w true .finishQueued) rfl rfl ?_ (by rw [if_neg immediate]) fun h => absurd h immediate
      rw [decide_eq_false immediate]
      exact later abort
  · have taken := takeAbort_write (tag := tag) (bay := bay) job valid
    rw [if_neg (by rw [locatingFirst_of_none none_there]; exact Bool.false_ne_true), hv] at taken
    obtain ⟨now, later⟩ := abortWrite_streaming (s := v) (t := t) (w := w) (by rw [tc]; exact job) open_ (.inr wrote)
      (by rw [tc, waiting]; decide)
    have streams_of : ∀ {w₁ q u}, WriteStreams v u t w₁ q place → WriteStreams s u t w₁ q place := fun h =>
      writeStreams_of_gov h (by rw [tc]) mtb (by rw [← hv]; rfl)
    have stand : WriteStill (v.setTc t { v.tc t with intake := [] }) t w place := by
      obtain ⟨a, b, c, d, -, e, f, g, h⟩ := still
      rw [State.setTc_tc] at c d g
      rw [State.setTc_cx] at e f
      rw [State.setTc_mtb] at h
      unfold WriteStill
      rw [State.setTc_tc, State.setTc_cx, State.setTc_mtb, tc, cx, mtb]
      exact ⟨a, b, c, d, rfl, e, f, g, h⟩
    refine ⟨fun immediate abort => ?_, fun queued abort entries => ?_⟩
    · have st : drainState (v.tc t).st = .waiting := by rw [tc, waiting]; rfl
      have streams := abortWrite_streams (s := v) (t := t) (w := w)
        (d := { aborted v t w false .immediate with st := drainState (v.tc t).st }) st rfl stand rfl rfl rfl rfl rfl rfl rfl
        (fun _ h => nomatch h) (fun h => nomatch h) (fun h => absurd rfl h)
      have amount : w.rawDiscarded + (intakeRaw (v.tc t).intake + (v.cx t).raw + ((v.tc t).blockQ.map QEntry.raw).sum) =
          raw + ((s.tc t).blockQ.map QEntry.raw).sum := by
        rw [tc, cx]
        omega
      rw [decide_eq_true immediate, now abort] at taken
      rw [← amount]
      exact ⟨_, abort_runs takes taken, streams_of streams⟩
    · have streams := abortWrite_streams (s := v) (t := t) (w := w) (d := aborted v t w true .finishQueued)
        (by show (v.tc t).st = _; rw [tc]; exact waiting) rfl stand rfl rfl rfl rfl rfl rfl rfl
        (by show WriteEntries (v.tc t).blockQ; rw [tc]; exact entries) (fun h => nomatch h) (fun _ => ⟨nofun, open_⟩)
      have amount : w.rawDiscarded + (intakeRaw (v.tc t).intake + (v.cx t).raw + 0) = raw := by
        rw [tc, cx, hraw, Nat.add_zero]
      have queue : (aborted v t w true .finishQueued).blockQ = (s.tc t).blockQ := by rw [← tc]; rfl
      rw [decide_eq_false (by rw [queued]; decide), later abort] at taken
      rw [← amount]
      rw [queue] at streams
      exact ⟨_, abort_runs takes taken, streams_of streams⟩
  · have taken := takeAbort_write (tag := tag) (bay := bay) job valid
    rw [if_neg (by rw [locatingFirst_of_none none_there]; exact Bool.false_ne_true), hv] at taken
    obtain ⟨now, later⟩ := abortWrite_streaming (s := v) (t := t) (w := w) (by rw [tc]; exact job) open_
      (.inl (by rw [tc]; obtain h | ⟨h, -⟩ := stands <;> rw [h] <;> decide))
      (by rw [tc]; obtain h | ⟨h, -⟩ := stands <;> rw [h] <;> decide)
    obtain ⟨cmtb, -, clnk, cleared⟩ := clearCtx_parts v t .write
    have link : v.lnk = withReply s.lnk (.transport t) tag 0x27 (.done []) := by rw [← hv]; rfl
    refine ⟨fun immediate abort => ?_, fun queued abort => ?_⟩
    · have st : drainState (v.tc t).st = if (s.tc t).st = .writing then .draining else .hitch := by
        rw [tc]
        obtain h | ⟨h, -⟩ := stands <;> rw [h] <;> rfl
      have marks := abortWrite_marks (s := v) (t := t) (d := { aborted v t w false .immediate with st := drainState (v.tc t).st })
        rfl rfl (by
          rw [st]
          obtain h | ⟨h, busy⟩ := stands <;> rw [h]
          · exact .inl rfl
          · exact .inr ⟨.inr rfl, busy⟩)
      rw [decide_eq_true immediate, now abort, marks] at taken
      refine ⟨_, abort_runs takes taken, ?_⟩
      rw [State.setTc_tc, State.setTc_cx, State.setTc_mtb, State.setTc_lnk, cmtb, clnk, cleared]
      refine ⟨rfl, rfl, rfl, ?_, ?_, st, ?_, mtb, link⟩
      · rw [← tc]
        rfl
      · rw [← tc]
        rfl
      · rw [hd, ← tc, ← cx]
        rfl
    · have marks := abortWrite_marks (s := v) (t := t) (d := aborted v t w true .finishQueued) rfl rfl (by
        show (v.tc t).st = .hitch ∨ ((v.tc t).st = .writing ∨ (v.tc t).st = .draining) ∧ w.inProgress ≠ none
        rw [tc]
        exact stands.imp id fun ⟨writing, busy⟩ => ⟨.inl writing, busy⟩)
      rw [decide_eq_false (by rw [queued]; decide), later abort, marks] at taken
      refine ⟨_, abort_runs takes taken, ?_⟩
      rw [State.setTc_tc, State.setTc_cx, State.setTc_mtb, State.setTc_lnk, cmtb, clnk, cleared, hd, ← tc, ← cx]
      exact ⟨rfl, rfl, rfl, rfl, rfl, rfl, rfl, mtb, link⟩
  · have locating : (s.tc t).locatingFirst = false := by
      obtain ⟨-, none_there⟩ | ⟨-, l, x, locate, phase⟩ := past
      · exact locatingFirst_of_none none_there
      · exact locatingFirst_of_resync locate phase
    have taken := takeAbort_read (tag := tag) (bay := bay) job (mode := mode) (by rw [now]; decide)
    rw [if_neg (by rw [locating]; exact Bool.false_ne_true), hv, decide_eq_true now, abortRead_now short] at taken
    obtain ⟨ended, st, pos, answered, -⟩ := abortReadNow_ends (s := v) (t := t) (by rw [tc]; exact job) bay.tach
    rw [mtb, free, tc] at ended
    refine ⟨_, abort_runs takes taken, st, ?_, told ended, answered.trans replies⟩
    rw [pos, tc]
    obtain ⟨rfl, none_there⟩ | ⟨rfl, l, x, locate, phase⟩ := past
    · unfold Tc.abortPos
      rw [none_there]
      rfl
    · exact (abortPos_locate locate bay.tach).2.1 ⟨x, phase⟩
  · have locating : (s.tc t).locatingFirst = false := by
      obtain ⟨-, none_there⟩ | ⟨-, l, x, locate, phase⟩ := past
      · exact locatingFirst_of_none none_there
      · exact locatingFirst_of_resync locate phase
    have taken := takeAbort_read (tag := tag) (bay := bay) job (mode := mode) (by rw [marks]; decide)
    rw [if_neg (by rw [locating]; exact Bool.false_ne_true), hv, decide_eq_false (by rw [marks]; decide),
      abortRead_mark short, goes_on, if_neg (by simp), modRead_of_read (r := r) (by rw [tc]; exact job), tc] at taken
    rw [hv]
    exact abort_runs takes taken
  · have locating : (s.tc t).locatingFirst = false := by
      obtain ⟨-, none_there⟩ | ⟨-, l, x, locate, phase⟩ := past
      · exact locatingFirst_of_none none_there
      · exact locatingFirst_of_resync locate phase
    have taken := takeAbort_read (tag := tag) (bay := bay) job valid
    rw [if_neg (by rw [locating]; exact Bool.false_ne_true), hv] at taken
    rw [hv]
    refine abort_runs takes (taken.trans ?_)
    by_cases short : r.short = none
    · obtain ⟨marks, ended⟩ := late.resolve_left fun h => h short
      rw [decide_eq_false (by rw [marks]; decide), abortRead_mark short, if_pos (Option.isSome_iff_ne_none.mpr ended)]
    · exact abortRead_short short _ _
  · refine abort_runs takes ?_
    unfold State.takeAbort
    rw [job]
    exact refuse_eq ..
  · refine abort_runs takes ?_
    unfold State.takeAbort
    rw [job]
    exact refuse_eq ..
  · refine abort_runs takes ?_
    unfold State.takeAbort
    split
    next w job => exact absurd job (no_write w)
    next r job => exact absurd job (no_read r)
    next => exact refuse_eq ..

end Sys2Proof.Proofs
end

section
/-! PROOFS. DATA_IN: credits, the intake, the slice buffer, and the pairing of a comparison (R109, R110, R155 to R157). -/

open Sys2Proof Sys2Proof.Machine Sys2Proof.Claims

namespace Sys2Proof.Proofs

-- One declaration at a time: elaborated in parallel, the joined text needs more threads than the memory limit holds.
set_option Elab.async false

section
variable {s : State} {t : Tr} {bytes : List Byte}

/-! ## The chunk (R109) -/

theorem dataIn_runs (open_ : s.lnk.resetting = false) {u : State} (taken : s.takeDataIn t bytes = u) : Runs (.dataIn t bytes) s u := by
  refine runs_of_eq (v := if s.lnk.resetting then s else s.takeDataIn t bytes) rfl ?_
  rw [open_]
  exact taken

theorem takeDataIn_credit {g : Nat} (some_bytes : bytes ≠ []) (granted : (s.tc t).granted = g + 1) :
    s.takeDataIn t bytes =
      match (s.tc t).job with
      | some (.write w) =>
        if w.ending then (s.modTc t Tc.useCredit).modWrite t fun w => { w with rawDiscarded := w.rawDiscarded + bytes.length }
        else (s.modTc t fun c => c.takeChunk bytes).writePump t
      | some (.read r) =>
        if r.closing || r.atMark then (s.modTc t Tc.useCredit).modRead t fun r => { r with surplus := r.surplus + bytes.length }
        else (s.modTc t fun c => c.takeChunk bytes).readPump t
      | _ => s.modTc t Tc.useCredit := by
  unfold State.takeDataIn
  rw [if_neg some_bytes, if_neg (by omega)] <;> rfl

theorem ending_iff (w : WriteJob) : w.ending = true ↔ w.closing = true ∨ w.abort ≠ .none ∨ w.verdict ≠ none := by
  unfold WriteJob.ending
  simp [Option.isSome_iff_ne_none, or_assoc]

/-- The transport with a chunk taken against a credit (R109). -/
def chunkTaken (c : Tc) (bytes : List Byte) : Tc :=
  { c with granted := c.granted - 1, intake := c.intake ++ [.chunk bytes bytes.length] }

theorem takeChunk_eq (s : State) (t : Tr) (bytes : List Byte) :
    s.modTc t (fun c => c.takeChunk bytes) = s.setTc t (chunkTaken (s.tc t) bytes) := modTc_eq ..

/-! ## Into the slice buffer (R90, R110) -/

/-- A chunk passes whole into an empty slice buffer that it does not fill, and gives its credit back (R90, R110). -/
theorem gather_chunk {x : Ctx} {q : List QEntry} (open_ : x.complete = false) (slice : x.slice = [])
    (cur : x.cur = { payload := [], raw := 0, slices := 0 }) (closed : x.closed = none) (held : x.held = none)
    (room : q.length < 32) (small : bytes.length < 8192) (size : Nat) :
    Pump.gather { cx := x, intake := [.chunk bytes size], blockQ := q } =
      { cx := { x with table := [], history := [], slice := bytes, limit := 8192, complete := false }, intake := []
        blockQ := q, earned := 1, accepted := size } := by
  have step : Pump.step { cx := x, intake := [.chunk bytes size], blockQ := q } =
      some { cx := { x with table := [], history := [], slice := bytes, limit := 8192, complete := false }, intake := []
             blockQ := q, earned := 1, accepted := size } := by
    have whole : bytes.take 8192 = bytes := List.take_of_length_le (by omega)
    have none_left : bytes.drop 8192 = [] := List.drop_of_length_le (by omega)
    unfold Pump.step Pump.takeBytes Ctx.space
    simp [open_, slice, cur, closed, held, Config.blockMax, Config.sliceMax, Config.payloadMax, whole, none_left,
      show ¬ 32 ≤ q.length by omega, show ¬ 8192 ≤ bytes.length by omega]
  have stuck : Pump.step
      { cx := { x with table := [], history := [], slice := bytes, limit := 8192, complete := false }, intake := []
        blockQ := q, earned := 1, accepted := size } = none := by
    unfold Pump.step
    rfl
  unfold Pump.gather
  rw [flush_of_none (by exact closed) (by exact held)]
  exact (run_of_step step _).trans (run_of_stuck stuck _)

/-- A chunk of a write job that goes into its slice buffer at once (R90, R109, R110; log entry 46). -/
theorem dataIn_sliced {w : WriteJob} {g : Nat} (job : (s.tc t).job = some (.write w))
    (granted : (s.tc t).granted = g + 1) (abort : w.abort = .none) (verdict : w.verdict = none)
    (stays : (s.tc t).st = .waiting → ¬ Resumes (s.tc t) (s.tc t).blockQ) (closed : (s.cx t).closed = none)
    (held : (s.cx t).held = none) (open_ : (s.cx t).complete = false) (slice : (s.cx t).slice = [])
    (cur : (s.cx t).cur = { payload := [], raw := 0, slices := 0 }) (intake : (s.tc t).intake = [])
    (room : (s.tc t).blockQ.length < 32) (small : bytes.length < 8192) :
    ∃ u w', (s.setTc t (chunkTaken (s.tc t) bytes)).writePump t = u ∧ (u.cx t).slice = bytes ∧ (u.cx t).complete = false ∧
      (u.tc t).intake = [] ∧ (u.tc t).st = (s.tc t).st ∧ (u.tc t).blockQ = (s.tc t).blockQ ∧
      (u.tc t).job = some (.write w') ∧ w'.rawAccepted = w.rawAccepted + bytes.length ∧
      (u.tc t).granted + (u.tc t).pendingCredits = (s.tc t).granted + (s.tc t).pendingCredits ∧ u.mtb = s.mtb := by
  obtain ⟨v, hv⟩ : ∃ v, s.setTc t (chunkTaken (s.tc t) bytes) = v := ⟨_, rfl⟩
  have tc : v.tc t = chunkTaken (s.tc t) bytes := by rw [← hv, State.setTc_tc]
  have cx : v.cx t = s.cx t := by rw [← hv, State.setTc_cx]
  have pumped : Pump.gather { cx := v.cx t, intake := (v.tc t).intake, blockQ := (v.tc t).blockQ } =
      { cx := { s.cx t with table := [], history := [], slice := bytes, limit := 8192, complete := false }, intake := []
        blockQ := (s.tc t).blockQ, earned := 1, accepted := bytes.length } := by
    rw [cx, tc]
    unfold chunkTaken
    dsimp only
    rw [intake]
    exact gather_chunk open_ slice cur closed held room small _
  have gathers := gather_eq (w := w) (by rw [tc]; exact job) pumped
  rw [if_neg (by simp)] at gathers
  dsimp only at gathers
  obtain ⟨u₀, hu₀⟩ : ∃ u₀, (v.setCx t
      { s.cx t with table := [], history := [], slice := bytes, limit := 8192, complete := false }).setTc t { v.tc t with
      intake := [], blockQ := (s.tc t).blockQ, job := some (.write { w with rawAccepted := w.rawAccepted + bytes.length }) } = u₀ :=
    ⟨_, rfl⟩
  rw [hu₀] at gathers
  obtain ⟨p, q, l, sum, earned, -⟩ := earn_eq u₀ t 1
  have tc₀ : u₀.tc t = { v.tc t with
      intake := [], blockQ := (s.tc t).blockQ, job := some (.write { w with rawAccepted := w.rawAccepted + bytes.length }) } := by
    rw [← hu₀, State.setTc_tc]
  obtain ⟨u, hu⟩ : ∃ u, State.setTc { u₀ with lnk := l } t { u₀.tc t with granted := p, pendingCredits := q } = u := ⟨_, rfl⟩
  rw [earned, hu] at gathers
  have utc : u.tc t = { u₀.tc t with granted := p, pendingCredits := q } := by rw [← hu, State.setTc_tc]
  have ucx : u.cx t = { s.cx t with table := [], history := [], slice := bytes, limit := 8192, complete := false } := by
    rw [← hu, State.setTc_cx, ← hu₀]
    cases t <;> rfl
  have running : (u.tc t).job = some (.write { w with rawAccepted := w.rawAccepted + bytes.length }) := by rw [utc, tc₀]
  have idle : u.writePump t = u := by
    refine writePump_idle running (by rw [ucx]; exact closed) (by rw [ucx]; exact held) (.inl (by rw [utc, tc₀]))
      fun waiting _ => ⟨?_, abort, verdict⟩
    rw [utc, tc₀, tc] at waiting ⊢
    exact stays waiting
  have again : u.gather t = u := gather_idle running (by rw [ucx]; exact closed) (by rw [ucx]; exact held)
    (.inl (by rw [utc, tc₀]))
  refine ⟨u, _, by rw [hv, writePump_gathered gathers again, idle], by rw [ucx], by rw [ucx], by rw [utc, tc₀], ?_, by rw [utc, tc₀],
    running, rfl, ?_, ?_⟩
  · rw [utc, tc₀, tc]
    rfl
  · rw [utc]
    rw [tc₀, tc] at sum
    unfold chunkTaken at sum
    dsimp only at sum ⊢
    omega
  · rw [← hu, State.setTc_mtb]
    show u₀.mtb = _
    rw [← hu₀, State.setTc_mtb, State.setCx_mtb, ← hv, State.setTc_mtb]

end

/-! ## The pairing of a comparison (R156, R157) -/

/-- A read job behind the pairs of decoded and host bytes (R156). -/
def pairAll (r : ReadJob) (ps : List (DByte × Byte)) : ReadJob := ps.foldl (fun r p => r.pair p.1 p.2) r

theorem pair_still (r : ReadJob) (d : DByte) (host : Byte) :
    (r.pair d host).short = r.short ∧ (r.pair d host).unaligned = r.unaligned := by
  unfold ReadJob.pair
  split
  · exact ⟨rfl, rfl⟩
  · split <;> exact ⟨rfl, rfl⟩

/-- A pair taken by the comparison (R155, R156). -/
theorem step_pair {r : ReadJob} (short : r.short = none) (aligned : r.unaligned = false) {d : DByte} (checked : d.checked = true)
    (host : Byte) (bs : List DByte) (left : List Byte) (k m : Bool) (size e : Nat) :
    Cmp.step { delivery := [.chunk (d :: bs) k m], intake := [.chunk (host :: left) size], job := r, earned := e } =
      some (match left with
        | [] => { delivery := [.chunk bs k m], intake := [], job := r.pair d host, earned := e + 1 }
        | _ => { delivery := [.chunk bs k m], intake := [.chunk left size], job := r.pair d host, earned := e }) := by
  unfold Cmp.step Cmp.takeHost
  dsimp only
  rw [short, aligned]
  cases left <;> simp [checked]

/-- The bytes of a chunk are paired one with one with those of the delivery queue (R156). -/
theorem run_pairs (m : Nat) (k g : Bool) (size e : Nat) : ∀ (ps : List (DByte × Byte)) (r : ReadJob), ps ≠ [] → r.short = none →
    r.unaligned = false → (∀ p ∈ ps, p.1.checked = true) →
    Cmp.run (ps.length + m)
        { delivery := [.chunk (ps.map Prod.fst) k g], intake := [.chunk (ps.map Prod.snd) size], job := r, earned := e } =
      Cmp.run m { delivery := [.chunk [] k g], intake := [], job := pairAll r ps, earned := e + 1 }
  | [], _, none_there, _, _, _ => absurd rfl none_there
  | [p], r, _, short, aligned, checked => by
    have step := step_pair short aligned (checked p (List.mem_singleton_self p)) p.2 [] [] k g size e
    show Cmp.run (1 + m) _ = _
    rw [Nat.add_comm 1 m]
    exact cmpRun_of_step step m
  | p :: q :: ps, r, _, short, aligned, checked => by
    have step := step_pair short aligned (checked p (List.mem_cons_self ..)) p.2 ((q :: ps).map Prod.fst)
      ((q :: ps).map Prod.snd) k g size e
    obtain ⟨short', aligned'⟩ := pair_still r p.1 p.2
    have rest := run_pairs m k g size e (q :: ps) (r.pair p.1 p.2) (List.cons_ne_nil q ps) (short'.trans short)
      (aligned'.trans aligned) fun p' mem => checked p' (List.mem_cons_of_mem p mem)
    have count : (p :: q :: ps).length + m = ((q :: ps).length + m) + 1 := by
      rw [List.length_cons]
      omega
    rw [count]
    exact (cmpRun_of_step step _).trans rest

theorem pairAll_append (r : ReadJob) (ps qs : List (DByte × Byte)) : pairAll r (ps ++ qs) = pairAll (pairAll r ps) qs :=
  List.foldl_append ..

/-- Equal bytes of blocks without a mismatch are compared (R156). -/
theorem pairAll_equal : ∀ (ps : List (DByte × Byte)) (r : ReadJob), (∀ p ∈ ps, p.1.byte = p.2 ∧ r.mismatchAt ≠ some p.1.addr) →
    pairAll r ps = { r with compared := r.compared + ps.length }
  | [], r, _ => rfl
  | p :: ps, r, equal => by
    obtain ⟨same, first⟩ := equal p (List.mem_cons_self ..)
    have paired : r.pair p.1 p.2 = { r with compared := r.compared + 1 } := by
      unfold ReadJob.pair
      rw [if_neg first, if_pos same]
    have rest := pairAll_equal ps { r with compared := r.compared + 1 } fun q mem => equal q (List.mem_cons_of_mem p mem)
    show pairAll (r.pair p.1 p.2) ps = _
    rw [paired, rest, List.length_cons]
    simp [Nat.add_assoc, Nat.add_comm 1]

/-- Behind a mismatch the bytes of its block are consumed uncompared (R156; log entry 26). -/
theorem pairAll_uncompared {a : Nat} : ∀ (ps : List (DByte × Byte)) (r : ReadJob), r.mismatchAt = some a →
    (∀ p ∈ ps, p.1.addr = a) → pairAll r ps = { r with uncompared := r.uncompared + ps.length }
  | [], r, _, _ => rfl
  | p :: ps, r, found, block => by
    have paired : r.pair p.1 p.2 = { r with uncompared := r.uncompared + 1 } := by
      unfold ReadJob.pair
      rw [if_pos (by rw [found, block p (List.mem_cons_self ..)])]
    have rest := pairAll_uncompared ps { r with uncompared := r.uncompared + 1 } found fun q mem =>
      block q (List.mem_cons_of_mem p mem)
    show pairAll (r.pair p.1 p.2) ps = _
    rw [paired, rest, List.length_cons]
    simp [Nat.add_assoc, Nat.add_comm 1]

/-- The first byte that differs is recorded at its position (R156, R159). -/
theorem pair_mismatch {r : ReadJob} {d : DByte} {host : Byte} (first : r.mismatchAt ≠ some d.addr) (differs : host ≠ d.byte)
    (room : r.faults.length < 32) :
    r.pair d host = { r with
      faultCount := r.faultCount + 1, mismatchAt := some d.addr
      faults := r.faults ++ [{ addr := d.addr, kind := .compareMismatch, offset := d.pos }] } := by
  unfold ReadJob.pair ReadJob.record
  dsimp only
  rw [if_neg first, if_neg (Ne.symm differs), if_pos (show r.faults.length < Config.faultMax from room)]

/-- What a comparison works on behind a chunk that it takes whole. -/
def compareDone (told : ReadJob) : Cmp := { delivery := [], intake := [], job := told, earned := 1 }

theorem compareDone_stuck (told : ReadJob) : (compareDone told).step = none := by
  unfold Cmp.step compareDone
  cases told.short <;> cases told.unaligned <;> rfl

/-- A run that reaches its last state within its bound. -/
theorem run_done {c : Cmp} {told : ReadJob} {n : Nat} (reaches : ∀ m, c.run (n + m) = Cmp.run m (compareDone told))
    (bound : n ≤ c.steps) : c.run c.steps = compareDone told := by
  obtain ⟨m, hm⟩ := Nat.exists_eq_add_of_le bound
  rw [hm, reaches]
  exact cmpRun_of_stuck (compareDone_stuck told) m

/-- A chunk whose bytes the delivery queue holds in one chunk is paired with it (R156). -/
theorem run_chunk {r : ReadJob} (short : r.short = none) (aligned : r.unaligned = false) {ds : List DByte} {bytes : List Byte}
    (some_bytes : bytes ≠ []) (long : ds.length = bytes.length) (checked : ∀ d ∈ ds, d.checked = true) (k g : Bool) (size : Nat) :
    Cmp.run (Cmp.steps { delivery := [.chunk ds k g], intake := [.chunk bytes size], job := r })
        { delivery := [.chunk ds k g], intake := [.chunk bytes size], job := r } =
      compareDone (pairAll r (ds.zip bytes)) := by
  have some_pairs : ds.zip bytes ≠ [] := by
    intro h
    have none_left := congrArg List.length h
    rw [List.length_zip, long, Nat.min_self] at none_left
    exact some_bytes (List.length_eq_zero_iff.mp none_left)
  have count : (ds.zip bytes).length = ds.length := by rw [List.length_zip, long, Nat.min_self]
  have still : ∀ (ps : List (DByte × Byte)) (r : ReadJob), r.short = none → r.unaligned = false →
      (pairAll r ps).short = none ∧ (pairAll r ps).unaligned = false := by
    intro ps
    induction ps with
    | nil => exact fun r a b => ⟨a, b⟩
    | cons p ps ih =>
      intro r a b
      obtain ⟨a', b'⟩ := pair_still r p.1 p.2
      exact ih _ (a'.trans a) (b'.trans b)
  refine run_done (n := ds.length + 1) (fun m => ?_) ?_
  · have pairs := run_pairs (m + 1) k g size 0 (ds.zip bytes) r some_pairs short aligned fun p mem =>
      checked p.1 (List.of_mem_zip mem).1
    rw [List.map_fst_zip (by omega), List.map_snd_zip (by omega), count] at pairs
    rw [show ds.length + 1 + m = ds.length + (m + 1) by omega]
    refine pairs.trans (cmpRun_of_step ?_ m)
    obtain ⟨a, b⟩ := still (ds.zip bytes) r short aligned
    unfold Cmp.step compareDone
    dsimp only
    rw [a, b]
    rfl
  · unfold Cmp.steps
    simp

/-- A gap of as many bytes takes the chunk uncompared (R157). -/
theorem run_gap {r : ReadJob} (short : r.short = none) (aligned : r.unaligned = false) {bytes : List Byte} (some_bytes : bytes ≠ [])
    (x p size : Nat) :
    Cmp.run (Cmp.steps { delivery := [.gap (.bytes x p bytes.length)], intake := [.chunk bytes size], job := r })
        { delivery := [.gap (.bytes x p bytes.length)], intake := [.chunk bytes size], job := r } =
      compareDone { r with uncompared := r.uncompared + bytes.length } := by
  have long : bytes.length ≠ 0 := fun h => some_bytes (List.length_eq_zero_iff.mp h)
  have first : Cmp.step { delivery := [.gap (.bytes x p bytes.length)], intake := [.chunk bytes size], job := r } =
      some { delivery := [.gap (.bytes x (p + bytes.length) 0)], intake := []
             job := { r with uncompared := r.uncompared + bytes.length }, earned := 1 } := by
    unfold Cmp.step Cmp.takeHost
    simp [short, aligned, long]
  have second : Cmp.step
      { delivery := [.gap (.bytes x (p + bytes.length) 0)], intake := []
        job := { r with uncompared := r.uncompared + bytes.length }, earned := 1 } =
      some (compareDone { r with uncompared := r.uncompared + bytes.length }) := by
    unfold Cmp.step compareDone
    simp [short, aligned]
  refine run_done (n := 2) (fun m => ?_) (by unfold Cmp.steps; simp)
  rw [Nat.add_comm 2 m]
  exact (cmpRun_of_step first (m + 1)).trans (cmpRun_of_step second m)

/-- Behind an unaligned marker a chunk is taken uncompared (R157). -/
theorem step_unaligned {r : ReadJob} (short : r.short = none) (unaligned : r.unaligned = true) (bytes : List Byte) (size : Nat) :
    Cmp.step { delivery := [], intake := [.chunk bytes size], job := r } =
      some (compareDone { r with uncompared := r.uncompared + bytes.length }) := by
  unfold Cmp.step Cmp.takeHost compareDone
  simp [short, unaligned]

theorem run_unaligned {r : ReadJob} (short : r.short = none) (unaligned : r.unaligned = true) (bytes : List Byte) (size : Nat) :
    Cmp.run (Cmp.steps { delivery := [], intake := [.chunk bytes size], job := r })
        { delivery := [], intake := [.chunk bytes size], job := r } =
      compareDone { r with uncompared := r.uncompared + bytes.length } := by
  refine run_done (n := 1) (fun m => ?_) (by unfold Cmp.steps; simp)
  rw [Nat.add_comm 1 m]
  exact cmpRun_of_step (step_unaligned short unaligned bytes size) m

/-- The unaligned marker, and the chunk behind it (R157). -/
theorem run_marker {r : ReadJob} (short : r.short = none) (aligned : r.unaligned = false) (bytes : List Byte) (size : Nat) :
    Cmp.run (Cmp.steps { delivery := [.gap .unaligned], intake := [.chunk bytes size], job := r })
        { delivery := [.gap .unaligned], intake := [.chunk bytes size], job := r } =
      compareDone { r with unaligned := true, uncompared := r.uncompared + bytes.length } := by
  have first : Cmp.step { delivery := [.gap .unaligned], intake := [.chunk bytes size], job := r } =
      some { delivery := [], intake := [.chunk bytes size], job := { r with unaligned := true } } := by
    unfold Cmp.step
    simp [short, aligned]
  refine run_done (n := 2) (fun m => ?_) (by unfold Cmp.steps; simp)
  rw [Nat.add_comm 2 m]
  exact (cmpRun_of_step first (m + 1)).trans
    (cmpRun_of_step (step_unaligned (r := { r with unaligned := true }) short rfl bytes size) m)

theorem zip_bytes (ds : List DByte) : ds.zip (ds.map (·.byte)) = ds.map fun d => (d, d.byte) := by
  have mapped : (ds.map id).zip (ds.map (·.byte)) = ds.map fun d => (id d, d.byte) := List.zip_map'
  rwa [List.map_id] at mapped

/-- Each of the ways in which a comparison takes a chunk whole (R156, R157). -/
theorem run_told {r told : ReadJob} {bytes : List Byte} {delivery : List DItem} (some_bytes : bytes ≠ []) (short : r.short = none)
    (size : Nat)
    (why : (r.unaligned = false ∧
        (∃ ds k m, delivery = [.chunk ds k m] ∧ ds.map (·.byte) = bytes ∧
          ∀ d ∈ ds, d.checked = true ∧ r.mismatchAt ≠ some d.addr) ∧
        told = { r with compared := r.compared + bytes.length }) ∨
      (r.unaligned = false ∧ r.faults.length < 32 ∧
        (∃ ds d rest k m host left, delivery = [.chunk (ds ++ d :: rest) k m] ∧
          bytes = ds.map (·.byte) ++ host :: left ∧ host ≠ d.byte ∧ left.length = rest.length ∧
          (∀ b ∈ ds ++ d :: rest, b.checked = true ∧ b.addr = d.addr) ∧ r.mismatchAt ≠ some d.addr ∧
          told =
            { r with
              compared := r.compared + ds.length, uncompared := r.uncompared + rest.length,
              faultCount := r.faultCount + 1, mismatchAt := some d.addr,
              faults := r.faults ++ [{ addr := d.addr, kind := .compareMismatch, offset := d.pos }] })) ∨
      (r.unaligned = false ∧ (∃ x p, delivery = [.gap (.bytes x p bytes.length)]) ∧
        told = { r with uncompared := r.uncompared + bytes.length }) ∨
      (r.unaligned = false ∧ delivery = [.gap .unaligned] ∧
        told = { r with unaligned := true, uncompared := r.uncompared + bytes.length }) ∨
      (r.unaligned = true ∧ delivery = [] ∧ told = { r with uncompared := r.uncompared + bytes.length })) :
    Cmp.run (Cmp.steps { delivery := delivery, intake := [.chunk bytes size], job := r })
        { delivery := delivery, intake := [.chunk bytes size], job := r } = compareDone told := by
  obtain ⟨aligned, ⟨ds, k, m, rfl, same, checked⟩, rfl⟩ | ⟨aligned, room, ds, d, rest, k, m, host, left, rfl, rfl, differs, long,
    block, first, rfl⟩ | ⟨aligned, ⟨x, p, rfl⟩, rfl⟩ | ⟨aligned, rfl, rfl⟩ | ⟨unaligned, rfl, rfl⟩ := why
  · have equal : ds.length = bytes.length := by rw [← same, List.length_map]
    rw [run_chunk short aligned some_bytes equal (fun d mem => (checked d mem).1) k m size, ← same, zip_bytes, pairAll_equal _ _ fun p mem => ?_]
    · rw [List.length_map, List.length_map]
    · obtain ⟨d, mem', rfl⟩ := List.mem_map.mp mem
      exact ⟨rfl, (checked d mem').2⟩
  · have equal : (ds ++ d :: rest).length = (ds.map (·.byte) ++ host :: left).length := by
      simp [long]
    rw [run_chunk short aligned some_bytes equal (fun b mem => (block b mem).1) k m size]
    have zips : (ds ++ d :: rest).zip (ds.map (·.byte) ++ host :: left) =
        ds.zip (ds.map (·.byte)) ++ (d, host) :: rest.zip left := by
      rw [List.zip_append (by rw [List.length_map])]
      rfl
    have before := pairAll_equal (ds.zip (ds.map (·.byte))) r fun p mem => by
      rw [zip_bytes] at mem
      obtain ⟨b, mem', rfl⟩ := List.mem_map.mp mem
      exact ⟨rfl, by rw [(block b (List.mem_append_left _ mem')).2]; exact first⟩
    have mismatch := pair_mismatch (r := { r with compared := r.compared + ds.length }) first differs room
    have behind := pairAll_uncompared (a := d.addr) (rest.zip left) (ReadJob.pair { r with compared := r.compared + ds.length } d host)
      (by rw [mismatch]) fun p mem => (block p.1 (List.mem_append_right _ (List.mem_cons_of_mem d (List.of_mem_zip mem).1))).2
    rw [zips, pairAll_append, before, List.length_zip, List.length_map, Nat.min_self]
    refine congrArg compareDone (behind.trans ?_)
    rw [mismatch, List.length_zip, long, Nat.min_self]
  · exact run_gap short aligned some_bytes x p size
  · exact run_marker short aligned bytes size
  · exact run_unaligned short unaligned bytes size

/-- Settles O47: a chunk ignored, refused its place, discarded, taken into the write job, or paired. -/
theorem dataInUsesACredit : Obligations.DataInUsesACredit := by
  unfold Obligations.DataInUsesACredit
  intro s t bytes open_
  have runs : ∀ {u}, s.takeDataIn t bytes = u → Runs (.dataIn t bytes) s u := fun {u} => dataIn_runs open_
  refine ⟨fun none_there => runs ?_, fun some_bytes granted => runs ?_, fun g some_bytes granted => ⟨fun w job late => runs ?_,
    fun r job late => runs ?_, fun w job closing abort verdict stays closed held => ⟨fun complete => runs ?_,
      fun complete slice cur intake room small => ?_⟩,
    fun r a range policy job spec closing not_mark short ended reading queue intake => ⟨fun delivery aligned => runs ?_,
      fun told why => ?_⟩⟩⟩
  · unfold State.takeDataIn
    rw [if_pos none_there]
  · unfold State.takeDataIn
    rw [if_neg some_bytes, if_pos granted]
    cases t <;> rfl
  all_goals
    have credit := takeDataIn_credit (s := s) (t := t) some_bytes granted
    rw [job] at credit
    dsimp only at credit
  · rw [credit, if_pos ((ending_iff w).mpr late), modTc_eq, modWrite_of_write (w := w) (by rw [State.setTc_tc]; exact job),
      State.setTc_tc, setTc_setTc]
    unfold Tc.useCredit
    rw [granted]
    rfl
  · rw [credit, if_pos (by simpa using late), modTc_eq, modRead_of_read (r := r) (by rw [State.setTc_tc]; exact job),
      State.setTc_tc, setTc_setTc]
    unfold Tc.useCredit
    rw [granted]
    rfl
  · have goes_on : ¬ w.ending = true := by
      rw [ending_iff, closing, abort, verdict]
      simp
    have taken : chunkTaken (s.tc t) bytes =
        { s.tc t with granted := g, intake := (s.tc t).intake ++ [.chunk bytes bytes.length] } := by
      unfold chunkTaken
      rw [granted]
      rfl
    rw [credit, if_neg goes_on, takeChunk_eq, taken]
    refine writePump_idle (w := w) (by rw [State.setTc_tc]; exact job) (by rw [State.setTc_cx]; exact closed)
      (by rw [State.setTc_cx]; exact held) (.inr (by rw [State.setTc_cx]; exact complete)) fun waiting _ => ⟨?_, abort, verdict⟩
    rw [State.setTc_tc] at waiting ⊢
    exact stays waiting
  · have goes_on : ¬ w.ending = true := by
      rw [ending_iff, closing, abort, verdict]
      simp
    obtain ⟨u, w', pumped, facts⟩ := dataIn_sliced job granted abort verdict stays closed held complete slice cur intake room small
    obtain ⟨slice', complete', intake', st, queue, job', accepted, credits, mtb⟩ := facts
    have kept := ((Local.refl t s).setTc (chunkTaken (s.tc t) bytes)).writePump
    rw [credit, if_neg goes_on, takeChunk_eq] at runs
    rw [pumped] at kept
    exact ⟨u, w', runs pumped, slice', complete', intake', st, queue, job', accepted, credits, kept.other, mtb, kept.chg⟩
  all_goals
    have compares : r.isCompare = true := by
      unfold ReadJob.isCompare
      rw [spec]
    rw [if_neg (by simp [closing, not_mark]), takeChunk_eq] at credit
    have taken : chunkTaken (s.tc t) bytes = { s.tc t with granted := g, intake := [.chunk bytes bytes.length] } := by
      unfold chunkTaken
      rw [granted, intake]
      rfl
    rw [taken] at credit
    obtain ⟨v, hv⟩ : ∃ v, s.setTc t { s.tc t with granted := g, intake := [.chunk bytes bytes.length] } = v := ⟨_, rfl⟩
    have tc : v.tc t = { s.tc t with granted := g, intake := [.chunk bytes bytes.length] } := by rw [← hv, State.setTc_tc]
    have running : (v.tc t).job = some (.read r) := by rw [tc]; exact job
    rw [hv, readPump_compares running (.inl (by rw [tc]; exact queue)) ended (by rw [tc]; show (s.tc t).st ≠ _; rw [reading]; decide)]
      at credit
  · have stuck : Cmp.step { delivery := (v.tc t).delivery, intake := (v.tc t).intake, job := r } = none := by
      rw [tc]
      unfold Cmp.step
      dsimp only
      rw [short, aligned, delivery]
      rfl
    rw [credit, compare_stuck running compares stuck, shortEnd_self running short, readEndTest_self running (.inl ended)]
    exact hv.symm
  · obtain ⟨still, same⟩ : told.short = none ∧ told.ended = none := by
      obtain ⟨-, -, rfl⟩ | ⟨-, -, ds, d, rest, k, m, host, left, -, -, -, -, -, -, rfl⟩ | ⟨-, -, rfl⟩ | ⟨-, -, rfl⟩ | ⟨-, -, rfl⟩ := why <;>
        exact ⟨short, ended⟩
    have run := run_told (told := told) (delivery := (v.tc t).delivery) some_bytes short bytes.length (by rw [tc]; exact why)
    have compared := compare_of_run (d := compareDone told) running compares (by rw [tc] at run ⊢; exact run)
    rw [if_neg (show (compareDone told).earned ≠ 0 from Nat.one_ne_zero)] at compared
    obtain ⟨p, q, l, sum, earned, -⟩ := earn_eq (v.setTc t { v.tc t with delivery := [], intake := [], job := some (.read told) }) t 1
    obtain ⟨u, hu⟩ : ∃ u, State.earn (v.setTc t { v.tc t with delivery := [], intake := [], job := some (.read told) }) t 1 = u :=
      ⟨_, rfl⟩
    rw [hu, State.setTc_tc] at earned
    rw [State.setTc_tc] at sum
    have utc : u.tc t = { s.tc t with
        delivery := [], intake := [], job := some (.read told), granted := p, pendingCredits := q } := by
      rw [earned, State.setTc_tc, tc]
    have job' : (u.tc t).job = some (.read told) := by rw [utc]
    have left : v.compare t = u := compared.trans hu
    rw [left, shortEnd_self job' still, readEndTest_self job' (.inl same)] at credit
    have kept : Local t s u := by
      rw [← hu, ← hv]
      exact (((Local.refl t s).setTc _).setTc _).earn 1
    refine ⟨u, runs credit, job', by rw [utc], by rw [utc], by rw [utc]; exact reading, ?_, kept.other, ?_, kept.chg⟩
    · rw [utc]
      rw [tc] at sum
      dsimp only at sum ⊢
      omega
    · rw [earned, State.setTc_mtb]
      show (v.setTc t _).mtb = _
      rw [State.setTc_mtb, ← hv, State.setTc_mtb]

end Sys2Proof.Proofs
end

section
/-! PROOFS. What the locates rest on: the frame passed, the mark learned, the ends of a locate, and the start of the
streaming job behind it (R50, R62 to R67, R106, R146). -/

open Sys2Proof Sys2Proof.Machine Sys2Proof.Claims

namespace Sys2Proof.Proofs

-- One declaration at a time: elaborated in parallel, the joined text needs more threads than the memory limit holds.
set_option Elab.async false

/-! ## The frame that passes (R50, R65, R76) -/

theorem passed_header {raw : RawFrame} {f : ReadFrame} (read : readFrame raw = some f) (c : Tc) :
    c.passed raw = { c with pos := some (f.hdr.frame + 1) } := by
  unfold Tc.passed
  rw [read]

theorem passed_lost {raw : RawFrame} (lost : readFrame raw = none) {c : Tc} {p : Nat} (pos : c.pos = some p) :
    c.passed raw = { c with pos := some (p + 1) } := by
  unfold Tc.passed
  rw [lost, pos]
  rfl

theorem noted_header {raw : RawFrame} {f : ReadFrame} (read : readFrame raw = some f) (l : Locate) :
    l.noted raw = { l with lastHeader := some f.hdr.frame } := by
  unfold Locate.noted
  rw [read]

theorem noted_lost {raw : RawFrame} (lost : readFrame raw = none) (l : Locate) : l.noted raw = l := by
  unfold Locate.noted
  rw [lost]

section
variable {s : State} {t : Tr} {l : Locate}

theorem locateFrame_checking {start n : Nat} (locate : (s.tc t).locate = some l) (phase : l.phase = .checking start n)
    (raw : RawFrame) : s.locateFrame t raw = s.checkFrame t (l.noted raw) start n raw := by
  obtain ⟨h, noted⟩ := noted_eq l raw
  unfold State.locateFrame
  rw [locate]
  dsimp only
  rw [noted]
  dsimp only
  rw [phase]

theorem eodSearchFrame_searching {sr : Search} (locate : (s.tc t).locate = some l) (phase : l.phase = .searching sr)
    (raw : RawFrame) : s.eodSearchFrame t raw = s.searchFrame t (l.noted raw) sr raw := by
  obtain ⟨h, noted⟩ := noted_eq l raw
  unfold State.eodSearchFrame
  rw [locate]
  dsimp only
  rw [noted]
  dsimp only
  rw [phase]

theorem locateFrame_runs {raw : RawFrame} {u : State} (read : s.locateFrame t raw = u) : Runs (.locateFrameRead t raw) s u :=
  runs_of_eq (v := s.locateFrame t raw) rfl read

theorem eodSearchFrame_runs {raw : RawFrame} {u : State} (read : s.eodSearchFrame t raw = u) :
    Runs (.eodSearchFrameRead t raw) s u :=
  runs_of_eq (v := s.eodSearchFrame t raw) rfl read

theorem physicalEnd_runs {u : State} (read : s.physicalEnd t = u) : Runs (.physicalEnd t) s u :=
  runs_of_eq (v := s.physicalEnd t) rfl read

theorem fastMoved_runs {tach : Nat} {u : State} (moved : s.fastMoved t tach = u) : Runs (.fastMoveComplete t tach) s u :=
  runs_of_eq (v := s.fastMoved t tach) rfl moved

end

/-! ## The mark learned (R67) -/

theorem learnRead_eq (q : CartRecord) (k addr frame : Nat) :
    q.learnRead k addr frame =
      if q.map.length = k ∧ k < 64 then { q with map := q.map ++ [{ addr := addr, frame := frame }], dirty := true } else q := by
  have limit : Config.mapMax = 64 := rfl
  unfold CartRecord.learnRead CartRecord.learn
  rw [limit]
  split <;> rfl

/-- The media table behind an accepted frame (R67). -/
def acceptedMtb (m : Mtb) (t : Tr) (f : ReadFrame) (mark : Bool) : Mtb :=
  if mark then markLearned m t f.hdr.addr f.hdr.file f.hdr.frame else m

theorem learn_eq (s : State) (t : Tr) (f : ReadFrame) (mark : Bool) :
    s.learn t f.info mark = { s with mtb := acceptedMtb s.mtb t f mark } := by
  unfold State.learn acceptedMtb
  cases mark with
  | false => rfl
  | true =>
    have learned : (fun q : CartRecord => q.learnRead f.info.file f.info.addr f.info.frame) = fun q =>
        if q.map.length = f.hdr.file ∧ f.hdr.file < 64 then
          { q with map := q.map ++ [{ addr := f.hdr.addr, frame := f.hdr.frame }], dirty := true }
        else q := funext fun q => learnRead_eq q _ _ _
    show s.modBay t (fun q => q.learnRead f.info.file f.info.addr f.info.frame) = _
    rw [learned]
    rfl

/-- What the map entry of a mark leaves of a record (R67). -/
theorem acceptedMtb_record {m : Mtb} {t : Tr} {q : CartRecord} (record : m.get (.bay t) = some q) (f : ReadFrame) (mark : Bool) :
    ∃ map dirty, (acceptedMtb m t f mark).get (.bay t) = some { q with map := map, dirty := dirty } := by
  unfold acceptedMtb markLearned
  split
  · rw [Mtb.get_put, record, Option.map_some]
    split
    · exact ⟨_, _, rfl⟩
    · exact ⟨q.map, q.dirty, rfl⟩
  · exact ⟨q.map, q.dirty, record⟩

theorem acceptedMtb_other (m : Mtb) (t : Tr) (f : ReadFrame) (mark : Bool) {k : Loc} (other : k ≠ .bay t) :
    (acceptedMtb m t f mark).get k = m.get k := by
  unfold acceptedMtb markLearned
  split
  · exact Mtb.get_put_of_ne _ _ other
  · rfl

/-- No report tells the file map or whether a record is dirty (R123). -/
theorem reportOf_map (u : State) (q : CartRecord) (map : List MapEntry) (dirty : Bool) (free : Nat) (j : Job) (res : JobResult) :
    reportOf u (some { q with map := map, dirty := dirty }) free j res = reportOf u (some q) free j res := by
  cases j <;> rfl

theorem reportOf_accepted (u : State) (m : Mtb) (t : Tr) (f : ReadFrame) (mark : Bool) (free : Nat) (j : Job) (res : JobResult) :
    reportOf u ((acceptedMtb m t f mark).get (.bay t)) free j res = reportOf u (m.get (.bay t)) free j res := by
  cases record : m.get (.bay t) with
  | none =>
    have left : (acceptedMtb m t f mark).get (.bay t) = none := by
      unfold acceptedMtb markLearned
      split
      · rw [Mtb.get_put, record]
        rfl
      · exact record
    rw [left]
  | some q =>
    obtain ⟨map, dirty, left⟩ := acceptedMtb_record record f mark
    rw [left, reportOf_map]

/-! ## Locates that fail (R62, R63) -/

section
variable {s v u : State} {t : Tr} {j : Job} {l : Locate}

/-- A failure behind a frame that the locate has passed is one of the state before it. -/
theorem locateFails_before {c : Tc} {m : Mtb} {sought : Nat} {reached : Option Nat} {res : JobResult}
    (intake : c.intake = (s.tc t).intake) (other : ∀ k, k ≠ .bay t → m.get k = s.mtb.get k)
    (report : ∀ j, reportOf u (m.get (.bay t)) s.free j res = reportOf u (s.mtb.get (.bay t)) s.free j res)
    (fails : LocateFails (State.setTc { s with mtb := m } t c) u t j sought reached res) :
    LocateFails s u t j sought reached res := by
  have first : Local t s { s with mtb := m } :=
    ⟨by cases t <;> exact otherKept_of_eq rfl rfl, inboundKept_refl s, rfl, other, rfl, rfl, rfl⟩
  have kept : Local t s (State.setTc { s with mtb := m } t c) := first.setTc c
  unfold LocateFails at fails ⊢
  rw [State.setTc_tc, State.setTc_mtb, State.setTc_free, intake] at fails
  have told := jobEnded_of_local kept (State.setTc_lnk ..) fails
  rw [← report]
  exact told

theorem locateFails_passed {c : Tc} {sought : Nat} {reached : Option Nat} {res : JobResult}
    (intake : c.intake = (s.tc t).intake) (fails : LocateFails (s.setTc t c) u t j sought reached res) :
    LocateFails s u t j sought reached res :=
  locateFails_before (m := s.mtb) intake (fun _ _ => rfl) (fun _ => rfl) fails

/-- A locate that loses its position: ADRIFT, no position, the job ended (R50, R62). -/
theorem positionLost_ends (job : (s.tc t).job = some j) (l : Locate) :
    LocateFails s (s.positionLost t l) t j l.sought none .positionFault ∧ ((s.positionLost t l).tc t).st = .adrift ∧
      ((s.positionLost t l).tc t).pos = none := by
  obtain ⟨c, hc⟩ : ∃ c : Tc, { Tc.goto { s.tc t with
    job := some (locateFailed (s.tc t).intake j l.sought none .positionFault) } .adrift with pos := none } = c := ⟨_, rfl⟩
  have told : c.job = some (locateFailed (s.tc t).intake j l.sought none .positionFault) := by
    rw [← hc]
    exact Tc.goto_job ..
  have left : s.positionLost t l = (s.setTc t c).endJob t .positionFault := by
    unfold State.positionLost
    rw [tellLocate_eq job l (res := .positionFault) nofun, modTc_eq, State.setTc_tc, setTc_setTc, ← hc]
    rfl
  have ended := endJob_after (s := s) (t := t) told .positionFault
  rw [locateFailed_kind] at ended
  rw [left, endJob_after_tc told]
  refine ⟨ended, ?_, ?_⟩
  all_goals rw [← hc]
  exact Tc.goto_st ..

end

/-! ## A write job found its place (R106) -/

theorem writeStart_located {s : State} {t : Tr} {w : WriteJob} {r : CartRecord} {c : CartClass} {place : Nat}
    (waits : WriteWaits s t w) (record : s.mtb.get (.bay t) = some r) (cls : r.cls = some c) (free : place < Config.capacity c - 16)
    {d : Tc} (pos : d = { s.tc t with pos := some place }) (addr file : Nat) (recovered : Bool) :
    WriteLocated s ((s.setTc t d).writeStart t addr file recovered) t w place addr file recovered := by
  obtain ⟨locating, job, abort, verdict, intake, queue, context, restart⟩ := waits
  obtain ⟨w', hw⟩ : ∃ w' : WriteJob, { w with
    start := some addr, nextAddr := addr, nextFile := file, eodRecovered := recovered
    fillerLimit := d.gov.active.filler } = w' := ⟨_, rfl⟩
  obtain ⟨v, hv⟩ : ∃ v, s.setTc t { d with job := some (.write w'), locate := none, st := .waiting } = v := ⟨_, rfl⟩
  have tc : v.tc t = { d with job := some (.write w'), locate := none, st := .waiting } := by rw [← hv, State.setTc_tc]
  have started : (s.setTc t d).writeStart t addr file recovered = (v.earn t 16).writePump t := by
    have reserve : (s.setTc t { d with job := some (.write w'), locate := none }).reserveAt t = Config.capacity c - 16 :=
      reserveAt_of_record (by rw [State.setTc_mtb]; exact record) cls
    have still : ({ d with job := some (.write w'), locate := none } : Tc).goto .waiting =
        { d with job := some (.write w'), locate := none, st := .waiting } :=
      goto_of_still _ (by rw [pos]; show (s.tc t).st.streams = false; rw [locating]; rfl)
    have at_ : ({ d with job := some (.write w'), locate := none } : Tc).pos = some place := by rw [pos]
    obtain ⟨e, he⟩ : ∃ e : Tc, { d with job := some (.write w'), locate := none } = e := ⟨_, rfl⟩
    have begun : ((s.setTc t d).modWrite t fun w => { w with
        start := some addr, nextAddr := addr, nextFile := file, eodRecovered := recovered
        fillerLimit := ((s.setTc t d).tc t).gov.active.filler }).modTc t (fun c => { c with locate := none }) = s.setTc t e := by
      rw [modWrite_of_write (w := w) (by rw [State.setTc_tc, pos]; exact job), State.setTc_tc, setTc_setTc, hw, modTc_eq,
        State.setTc_tc, setTc_setTc, ← he]
    rw [he] at reserve still at_
    unfold State.writeStart
    dsimp only
    rw [begun, State.setTc_tc, at_]
    dsimp only
    rw [reserve, if_neg (Nat.not_le.mpr free), modTc_eq, State.setTc_tc, setTc_setTc, still, hv]
    rfl
  obtain ⟨g, p, k, sum, earned, -⟩ := earn_eq v t 16
  obtain ⟨u, hu⟩ : ∃ u, State.setTc { v with lnk := k } t { v.tc t with granted := g, pendingCredits := p } = u := ⟨_, rfl⟩
  have utc : u.tc t = { d with
      job := some (.write w'), locate := none, st := .waiting, granted := g, pendingCredits := p } := by
    rw [← hu, State.setTc_tc, tc]
  have ucx : u.cx t = { dir := .write } := by
    rw [← hu, ← hv, ← context]
    cases t <;> rfl
  have none_left : u.writePump t = u := by
    refine writePump_idle (w := w') (by rw [utc]) (by rw [ucx]) (by rw [ucx]) (.inl (by rw [utc, pos]; exact intake))
      fun _ _ => ⟨?_, by rw [← hw]; exact abort, by rw [← hw]; exact verdict⟩
    rw [utc, pos]
    unfold Resumes
    dsimp only
    rw [queue]
    simp only [List.length_nil, List.not_mem_nil, or_false]
    omega
  have kept : Local t s (v.earn t 16) := by
    rw [← hv]
    exact ((Local.refl t s).setTc _).earn 16
  rw [earned, hu] at kept started
  rw [started, none_left]
  refine ⟨by rw [utc], by rw [utc, pos], by rw [utc], ⟨w', by rw [utc], ?_⟩, ?_, ?_, kept.chg, kept.other⟩
  · rw [← hw]
    exact ⟨rfl, rfl, rfl, rfl, rfl, rfl⟩
  · rw [utc]
    rw [tc, pos] at sum
    exact sum
  · rw [← hu, State.setTc_mtb]
    show v.mtb = _
    rw [← hv, State.setTc_mtb]

/-! ## A reading found its first frame (R67, R135, R146, R148, R149, R153) -/

/-- The reading of a whole tape, or of what is left of it, that its end bound does not meet at its first frame. -/
def ReadsOn (r : ReadJob) (f : ReadFrame) : Prop :=
  ((∃ offset, r.spec = .restore offset .toEod) ∨ ∃ a mode policy, r.spec = .verify a .toEod mode policy) ∧
    r.bound ≠ some (f.hdr.addr + 1) ∧ r.ended = none ∧ r.short = none ∧ r.start = none ∧ r.atMark = false ∧ r.pendingGaps = []

/-- The job at its first acceptance (R146, R148). -/
def firstTaken (r : ReadJob) (f : ReadFrame) (mark : Bool) : ReadJob :=
  ReadJob.take { r with framesRead := 1, x := f.hdr.addr } f mark

/-- The first acceptance of a job (R146, R148). -/
theorem take_first {r : ReadJob} (start : r.start = none) (f : ReadFrame) (mark : Bool) :
    ∃ rewritten resume covered blocks marks, r.take f mark = { r with
      start := some f.hdr.addr
      applied :=
        (match r.spec with
          | .restore offset _ => min offset (if mark then 0 else f.hdr.rawLen)
          | .verify _ _ _ _ => 0)
      resume := resume, x := f.hdr.addr + 1, skip := 0, searchStart := f.hdr.frame + 1, resynced := false, lastSeen := none
      pendingGaps := [], accepted := r.accepted + 1, covered := covered, blocksAccepted := blocks, marksAccepted := marks
      rewritten := rewritten } := by
  unfold ReadJob.take
  rw [start]
  exact ⟨_, _, _, _, _, rfl⟩

theorem firstTaken_fields {r : ReadJob} {f : ReadFrame} (on : ReadsOn r f) (mark : Bool) :
    (firstTaken r f mark).spec = r.spec ∧ (firstTaken r f mark).start = some f.hdr.addr ∧
      (firstTaken r f mark).x = f.hdr.addr + 1 ∧
      (firstTaken r f mark).applied =
        (match r.spec with
          | .restore offset _ => min offset (if mark then 0 else f.hdr.rawLen)
          | .verify _ _ _ _ => 0) ∧
      (firstTaken r f mark).framesRead = 1 ∧ (firstTaken r f mark).accepted = r.accepted + 1 ∧
      (firstTaken r f mark).searchStart = f.hdr.frame + 1 ∧ (firstTaken r f mark).skip = 0 ∧
      (firstTaken r f mark).ended = none ∧ (firstTaken r f mark).short = none ∧
      (firstTaken r f mark).endsAt mark = none := by
  obtain ⟨spec, bound, ended, short, start, not_mark, -⟩ := on
  have same : (firstTaken r f mark).spec = r.spec ∧ (firstTaken r f mark).bound = r.bound ∧
      (firstTaken r f mark).x = f.hdr.addr + 1 ∧ (firstTaken r f mark).atMark = false := by
    unfold firstTaken ReadJob.take
    dsimp only
    rw [start]
    exact ⟨rfl, rfl, rfl, not_mark⟩
  obtain ⟨spec', bound', x', mark'⟩ := same
  have goes_on : (firstTaken r f mark).endsAt mark = none := by
    have not_met : (firstTaken r f mark).meets mark = false := by
      unfold ReadJob.meets
      rw [spec']
      obtain ⟨offset, h⟩ | ⟨a, mode, policy, h⟩ := spec <;> rw [h]
    unfold ReadJob.endsAt
    rw [not_met, if_neg Bool.false_ne_true, bound', x', if_neg bound, mark']
    rfl
  obtain ⟨_, _, _, _, _, shape⟩ := take_first (r := { r with framesRead := 1, x := f.hdr.addr }) start f mark
  refine ⟨spec', ?_, x', ?_, ?_, ?_, ?_, ?_, ?_, ?_, goes_on⟩
  all_goals
    unfold firstTaken
    rw [shape]
  · exact ended
  · exact short

theorem isRestore_of_compare {r : ReadJob} (compares : r.isCompare = true) : r.isRestore = false := by
  unfold ReadJob.isCompare at compares
  unfold ReadJob.isRestore
  split at compares
  next h => rw [h]
  next => cases compares

/-- What follows at a reading that has just accepted its first frame: a mark leaves the block queue (R149, R154). -/
theorem readPump_first {v : State} {t : Tr} {r : ReadJob} {f : ReadFrame} {mark : Bool} (job : (v.tc t).job = some (.read r))
    (reading : (v.tc t).st = .reading) (ended : r.ended = none) (short : r.short = none)
    (queue : (v.tc t).blockQ = [f.entry mark []]) (delivery : (v.tc t).delivery = []) (intake : (v.tc t).intake = []) :
    v.readPump t = v.setTc t { v.tc t with
      blockQ := if mark then [] else [.readBlock f.info f.block []]
      delivery := if mark ∧ r.isRestore = true then [.mark] else [] } := by
  have heads : Machine.takeHeads r.isRestore [f.entry mark []] [] =
      (if mark then [] else [.readBlock f.info f.block []], if mark ∧ r.isRestore = true then [.mark] else []) := by
    cases mark with
    | false => rfl
    | true =>
      unfold ReadFrame.entry
      cases restore : r.isRestore <;> rfl
  obtain ⟨u, hu⟩ : ∃ u, v.setTc t { v.tc t with
      blockQ := if mark then [] else [.readBlock f.info f.block []]
      delivery := if mark ∧ r.isRestore = true then [.mark] else [] } = u := ⟨_, rfl⟩
  have utc : u.tc t = { v.tc t with
      blockQ := if mark then [] else [.readBlock f.info f.block []]
      delivery := if mark ∧ r.isRestore = true then [.mark] else [] } := by rw [← hu, State.setTc_tc]
  have taken : v.takeHeads t = u := by
    rw [takeHeads_eq job, queue, delivery, heads, hu]
  have running : (u.tc t).job = some (.read r) := by rw [utc]; exact job
  have compared : u.compare t = u := by
    cases compares : r.isCompare with
    | false => exact compare_self running compares
    | true =>
      refine compare_stuck running compares ?_
      have none_left : (u.tc t).delivery = [] := by
        rw [utc]
        exact if_neg fun h => by
          rw [isRestore_of_compare compares] at h
          exact Bool.false_ne_true h.2
      have none_waits : (u.tc t).intake = [] := by rw [utc]; exact intake
      rw [none_left, none_waits]
      unfold Cmp.step
      dsimp only
      rw [short]
      cases r.unaligned <;> rfl
  have still : ¬((u.tc t).st = .waiting ∧ r.ended = none ∧ (u.tc t).blockQ.length ≤ (u.tc t).gov.active.resume) := fun h => by
    have waiting : (u.tc t).st = .waiting := h.1
    rw [utc] at waiting
    exact absurd (reading.symm.trans waiting) (by decide)
  unfold State.readPump
  rw [taken, lastGaps_self running (.inl ended), readResume_eq running, if_neg still, compared, shortEnd_self running short, readEndTest_self running (.inl ended)]
  exact hu.symm

theorem relearned (v : State) (t : Tr) (c : Tc) (m : Mtb) :
    ({ v.setTc t c with mtb := m } : State) = State.setTc { v with mtb := m } t c := by cases t <;> rfl

theorem readStart_located {s : State} {t : Tr} {r : ReadJob} {f : ReadFrame} {mark : Bool} (job : (s.tc t).job = some (.read r))
    (on : ReadsOn r f) (queue : (s.tc t).blockQ = []) (delivery : (s.tc t).delivery = []) (intake : (s.tc t).intake = [])
    (off : (s.tc t).watch = .off) {d : Tc} (pos : d = { s.tc t with pos := some (f.hdr.frame + 1) }) :
    ReadLocated s ((s.setTc t d).readStart t f mark) t r f mark := by
  have gaps := on.2.2.2.2.2.2
  obtain ⟨spec, start, x, applied, frames, accepted, search, skip, ended, short, stops⟩ := firstTaken_fields on mark
  obtain ⟨v₀, hv₀⟩ : ∃ v₀, s.setTc t (readStarted d r f) = v₀ := ⟨_, rfl⟩
  have tc₀ : v₀.tc t = readStarted d r f := by rw [← hv₀, State.setTc_tc]
  obtain ⟨v, hv⟩ : ∃ v, (if r.isCompare then v₀.earn t 16 else v₀) = v := ⟨_, rfl⟩
  have credited : ∃ g p k, g + p = (s.tc t).granted + (s.tc t).pendingCredits + (if r.isCompare then 16 else 0) ∧
      v = State.setTc { s with lnk := k } t { readStarted d r f with granted := g, pendingCredits := p } := by
    rw [← hv]
    split
    · obtain ⟨g, p, k, sum, e, -⟩ := earn_eq v₀ t 16
      rw [tc₀] at sum e
      refine ⟨g, p, k, ?_, ?_⟩
      · rw [pos] at sum
        exact sum
      · rw [e, ← hv₀]
        cases t <;> rfl
    · refine ⟨(s.tc t).granted, (s.tc t).pendingCredits, s.lnk, rfl, ?_⟩
      rw [← hv₀, pos]
      rfl
  obtain ⟨g, p, k, sum, e⟩ := credited
  have tc : v.tc t = { readStarted d r f with granted := g, pendingCredits := p } := by rw [e, State.setTc_tc]
  have kept : Local t s v := by
    rw [← hv, ← hv₀]
    split
    · exact ((Local.refl t s).setTc _).earn 16
    · exact (Local.refl t s).setTc _
  obtain ⟨m, hm⟩ : ∃ m, acceptedMtb s.mtb t f mark = m := ⟨_, rfl⟩
  have vm : v.mtb = s.mtb := by rw [e, State.setTc_mtb]
  obtain ⟨a, ha⟩ : ∃ a, State.setTc { v with mtb := m } t { v.tc t with
    blockQ := [f.entry mark []], job := some (.read (firstTaken r f mark)) } = a := ⟨_, rfl⟩
  have atc : a.tc t = { v.tc t with blockQ := [f.entry mark []], job := some (.read (firstTaken r f mark)) } := by
    rw [← ha, State.setTc_tc]
  have accepts : v.acceptFrame t r f mark = a := by
    rw [acceptFrame_eq (r₁ := { r with framesRead := 1, x := f.hdr.addr }) (by rw [tc]; rfl), learn_eq,
      State.setTc_mtb, vm, hm, watchTest_off]
    · have none_queued : (v.tc t).blockQ = [] := by
        rw [tc, pos]
        exact queue
      have entry : f.entry mark r.pendingGaps = f.entry mark [] := by rw [gaps]
      rw [← ha, relearned, entry, none_queued]
      rfl
    · show ((v.setTc t _).tc t).watch = _
      rw [State.setTc_tc, tc, pos]
      exact off
  have running : (a.tc t).job = some (.read (firstTaken r f mark)) := by rw [atc]
  have pumped := readPump_first (f := f) (mark := mark) running (by rw [atc, tc]; rfl) ended short (by rw [atc])
    (by rw [atc, tc, pos]; exact delivery) (by rw [atc, tc, pos]; exact intake)
  have begins : (s.setTc t d).readStart t f mark = a.readPump t := by
    rw [readStart_eq (r := r) (by rw [State.setTc_tc, pos]; exact job), State.setTc_tc, setTc_setTc, hv₀, hv]
    dsimp only
    rw [accepts, readJob_of_job running, Option.bind_some, stops]
  have restores : (firstTaken r f mark).isRestore = r.isRestore := by
    unfold ReadJob.isRestore
    rw [spec]
  rw [begins, pumped, restores]
  unfold ReadLocated
  simp only [State.setTc_tc, State.setTc_mtb, State.setTc_chg]
  refine ⟨?_, ?_, ?_, ?_, ⟨_, running, spec, start, x, applied, frames, accepted, search, skip⟩, trivial, trivial, ?_, ?_, ?_, ?_⟩
  · rw [atc, tc]
    rfl
  · rw [atc, tc, pos]
    rfl
  · rw [atc, tc]
    rfl
  · rw [atc, tc, pos]
    rfl
  · rw [← ha, State.setTc_mtb, ← hm]
    rfl
  · rw [atc, tc]
    exact sum
  · rw [← ha, State.setTc_chg]
    exact kept.chg
  · have learned : Local t s { v with mtb := m } :=
      kept.trans ⟨by cases t <;> exact otherKept_of_eq rfl rfl, inboundKept_refl v, rfl,
        fun k hk => by rw [← hm, ← vm]; exact acceptedMtb_other v.mtb t f mark hk, rfl, rfl, rfl⟩
    rw [← ha]
    exact ((learned.setTc _).setTc _).other

end Sys2Proof.Proofs
end

section
/-! PROOFS. The locates: the tries, the forward search, the mark count and their ends (R50, R61 to R65; O52). -/

open Sys2Proof Sys2Proof.Machine Sys2Proof.Claims

namespace Sys2Proof.Proofs

-- One declaration at a time: elaborated in parallel, the joined text needs more threads than the memory limit holds.
set_option Elab.async false

/-! ## What a frame of the forward search leaves of the locate in progress (R63)

Every outcome sets the locate anew, so none depends on the one held before the frame. -/

section
variable {s : State} {t : Tr} {c : Tc} {j : Job}

/-- The controller with another locate. -/
def relocated (c : Tc) (x : Option Locate) : Tc := { c with locate := x }

theorem formCredit_setTc_other (v : State) (t : Tr) (d : Tc) :
    (v.setTc t d).formCredit t.other = (v.formCredit t.other).setTc t d := by
  unfold State.formCredit
  rw [State.setTc_tc_other, State.setTc_lnk]
  dsimp only
  split
  · rfl
  · split
    · rfl
    · cases t <;> rfl

/-- What the withdrawal of t's CREDIT leaves outside the controller of t (R110, R176). -/
def creditWithdrawn (s : State) (t : Tr) : State :=
  if s.lnk.notices.any (Notice.isCredit t) then
    (s.modLnk fun l => { l with notices := l.notices.filter fun n => !n.isCredit t }).formCredit t.other
  else s

theorem noticeLeft_setTc {d : Tc} (void : d.pendingCredits = 0) (v : State) (t : Tr) :
    (v.setTc t d).noticeLeft = (v.formCredit t.other).setTc t d := by
  unfold State.noticeLeft
  cases t with
  | tc0 =>
    rw [formCredit_of_none (t := .tc0) (by rw [State.setTc_tc]; exact void)]
    exact formCredit_setTc_other v .tc0 d
  | tc1 =>
    rw [show (v.setTc .tc1 d).formCredit .tc0 = (v.formCredit .tc0).setTc .tc1 d from formCredit_setTc_other v .tc1 d,
      formCredit_of_none (by rw [State.setTc_tc]; exact void)]
    rfl

theorem voidCredits_setTc (s : State) (t : Tr) (c : Tc) :
    (s.setTc t c).voidCredits t = (creditWithdrawn s t).setTc t { c with pendingCredits := 0, granted := 0 } := by
  have link : ∀ d, (s.setTc t d).modLnk (fun l => { l with notices := l.notices.filter fun n => !n.isCredit t }) =
      (s.modLnk fun l => { l with notices := l.notices.filter fun n => !n.isCredit t }).setTc t d := fun d => by
    cases t <;> rfl
  unfold State.voidCredits State.withdrawCredit creditWithdrawn
  rw [modTc_eq, State.setTc_tc, setTc_setTc, State.setTc_lnk]
  split
  · rw [link, noticeLeft_setTc rfl]
  · rfl

theorem jobCleared_setTc (s : State) (t : Tr) (c : Tc) :
    jobCleared (s.setTc t c) t = (creditWithdrawn (s.clearCtx t .none) t).setTc t { c with
      pendingCredits := 0, granted := 0, job := none, locate := none, intake := [], blockQ := [], inflight := []
      rewrite := [], delivery := [] } := by
  unfold jobCleared
  rw [clearCtx_setTc, voidCredits_setTc, modTc_eq, State.setTc_tc, setTc_setTc]

theorem endJob_cleared {v : State} (job : (v.tc t).job = some j) (res : JobResult) :
    v.endJob t res = ((jobCleared v t).jobReport t j res).2.jobEnd t j res ((jobCleared v t).jobReport t j res).1 := by
  unfold State.endJob
  rw [job]
  rfl

theorem endJob_forgets (job : c.job = some j) (x : Option Locate) (res : JobResult) :
    (s.setTc t (relocated c x)).endJob t res = (s.setTc t (relocated c none)).endJob t res := by
  rw [endJob_cleared (j := j) (by rw [State.setTc_tc]; exact job), endJob_cleared (j := j) (by rw [State.setTc_tc]; exact job),
    jobCleared_setTc, jobCleared_setTc]
  rfl

theorem locateFail_forgets (job : c.job = some j) (x : Option Locate) (l : Locate) {res : JobResult}
    (fault : res = .readFault → l.sought = l.x) :
    (s.setTc t (relocated c x)).locateFail t l res = (s.setTc t (relocated c none)).locateFail t l res := by
  have at_ : ∀ y, (s.setTc t (relocated c y)).locateFail t l res =
      (s.setTc t (relocated (locateOver c j l.sought res) y)).endJob t res := fun y => by
    rw [locateFail_eq (j := j) (by rw [State.setTc_tc]; exact job) l fault, State.setTc_tc, setTc_setTc]
    have same : locateOver (relocated c y) j l.sought res = relocated (locateOver c j l.sought res) y := by
      unfold locateOver relocated Tc.goto
      dsimp only
      split <;> rfl
    rw [same]
  rw [at_, at_ none]
  exact endJob_forgets (locateOver_fields c j l.sought res).1 x res

theorem relocate_forgets (f : Tc → Tc) (forgets : ∀ c x, f (relocated c x) = f (relocated c none)) (x : Option Locate) :
    (s.setTc t (relocated c x)).modTc t f = (s.setTc t (relocated c none)).modTc t f := by
  rw [modTc_eq, modTc_eq, State.setTc_tc, State.setTc_tc, setTc_setTc, setTc_setTc, forgets]

theorem readStart_forgets {r : ReadJob} (job : c.job = some (.read r)) (x : Option Locate) (f : ReadFrame) (mark : Bool) :
    (s.setTc t (relocated c x)).readStart t f mark = (s.setTc t (relocated c none)).readStart t f mark := by
  have streams : readStarted (relocated c x) r f = readStarted (relocated c none) r f := by
    unfold readStarted relocated Tc.stream
    rfl
  rw [readStart_eq (r := r) (by rw [State.setTc_tc]; exact job), readStart_eq (r := r) (by rw [State.setTc_tc]; exact job)]
  rw [State.setTc_tc, State.setTc_tc, setTc_setTc, setTc_setTc, streams]

theorem writeStart_forgets (x : Option Locate) (addr file : Nat) (recovered : Bool) :
    (s.setTc t (relocated c x)).writeStart t addr file recovered =
      (s.setTc t (relocated c none)).writeStart t addr file recovered := by
  have begun : ∀ y, ((s.setTc t (relocated c y)).modWrite t fun w => { w with
      start := some addr, nextAddr := addr, nextFile := file, eodRecovered := recovered
      fillerLimit := ((s.setTc t (relocated c y)).tc t).gov.active.filler }).modTc t (fun c => { c with locate := none }) =
      ((s.setTc t (relocated c none)).modWrite t fun w => { w with
        start := some addr, nextAddr := addr, nextFile := file, eodRecovered := recovered
        fillerLimit := ((s.setTc t (relocated c none)).tc t).gov.active.filler }).modTc t (fun c => { c with locate := none }) :=
      fun y => by
    unfold State.modWrite
    rw [modTc_eq, modTc_eq, modTc_eq, modTc_eq]
    simp only [State.setTc_tc, setTc_setTc]
    unfold relocated
    dsimp only
    cases c.job with
    | none => rfl
    | some j => cases j <;> rfl
  unfold State.writeStart
  dsimp only
  rw [begun x]

theorem relocated_learn (x : Option Locate) (f : ReadFrame) (mark : Bool) :
    (s.setTc t (relocated c x)).learn t f.info mark =
      State.setTc { s with mtb := acceptedMtb s.mtb t f mark } t (relocated c x) := by
  rw [learn_eq, State.setTc_mtb, relearned]

theorem countOn_forgets (job : c.job = some j) (x : Option Locate) (l : Locate) :
    (s.setTc t (relocated c x)).countOn t l = (s.setTc t (relocated c none)).countOn t l := by
  unfold State.countOn
  split
  · exact locateFail_forgets job x l nofun
  · exact relocate_forgets _ (fun _ _ => rfl) x

theorem countAccept_forgets (job : c.job = some j) (x : Option Locate) (l : Locate) (f : ReadFrame) (mark : Bool) :
    (s.setTc t (relocated c x)).countAccept t l false f mark =
      (s.setTc t (relocated c none)).countAccept t l false f mark := by
  unfold State.countAccept
  dsimp only
  rw [relocated_learn, relocated_learn]
  split
  · exact (Bool.false_ne_true ‹_›).elim
  · split
    · exact writeStart_forgets ..
    · exact countOn_forgets job x _

theorem searchStart_forgets (job : c.job = some j) (x : Option Locate) (l : Locate) (files : Nat) :
    (s.setTc t (relocated c x)).searchStart t l files = (s.setTc t (relocated c none)).searchStart t l files := by
  have reserve : ∀ y, (s.setTc t (relocated c y)).reserveAt t = s.reserveAt t := fun y => by
    unfold State.reserveAt State.frames State.classOf State.bayRecord
    rw [State.setTc_mtb]
  unfold State.searchStart
  rw [reserve, reserve, State.setTc_tc, State.setTc_tc]
  dsimp only [relocated]
  split
  · exact locateFail_forgets job x l nofun
  · exact relocate_forgets _ (fun _ _ => rfl) x

/-- The found frame of a reading locate leaves nothing of the locate in progress, where the job takes it (R63, R64,
R66). -/
theorem located_forgets (job : c.job = some j) (x : Option Locate) (l : Locate) (f : ReadFrame) (mark : Bool)
    (takes : (∃ r, j = .read r) ∨ l.goal ≠ .address) :
    (s.setTc t (relocated c x)).located t l f mark = (s.setTc t (relocated c none)).located t l f mark := by
  unfold State.located
  cases goal : l.goal with
  | address =>
    obtain ⟨r, rfl⟩ | other := takes
    · exact readStart_forgets job x f mark
    · exact absurd goal other
  | marks k => exact countAccept_forgets job x l f mark
  | endOfData =>
    have files : ∀ y, (s.setTc t (relocated c y)).mapOf t = s.mapOf t := fun y => by
      unfold State.mapOf State.bayRecord
      rw [State.setTc_mtb]
    dsimp only
    rw [files, files, relocated_learn, relocated_learn]
    exact searchStart_forgets job x _ _

theorem forwardFrame_forgets (job : c.job = some j) (x : Option Locate) (l : Locate) (n : Nat)
    (raw : RawFrame) (takes : (∃ r, j = .read r) ∨ l.writing = true ∨ l.goal ≠ .address) :
    (s.setTc t (relocated c x)).forwardFrame t l n raw = (s.setTc t (relocated c none)).forwardFrame t l n raw := by
  have on : (if Config.windowMax ≤ n + 1 then (s.setTc t (relocated c x)).locateFail t l .locateFault
      else (s.setTc t (relocated c x)).modTc t fun c => { c with locate := some { l with phase := .forward (n + 1) } }) =
      if Config.windowMax ≤ n + 1 then (s.setTc t (relocated c none)).locateFail t l .locateFault
      else (s.setTc t (relocated c none)).modTc t fun c => { c with locate := some { l with phase := .forward (n + 1) } } := by
    split
    · exact locateFail_forgets job x l nofun
    · exact relocate_forgets _ (fun _ _ => rfl) x
  have target : (s.setTc t (relocated c x)).writeTarget t l = (s.setTc t (relocated c none)).writeTarget t l := by
    unfold State.writeTarget State.eodOf State.bayRecord
    rw [State.setTc_tc, State.setTc_tc, State.setTc_mtb, State.setTc_mtb]
    rfl
  unfold State.forwardFrame
  dsimp only
  rw [on, target]
  split
  · rfl
  rename_i f read
  split
  · rw [modTc_eq, modTc_eq, State.setTc_tc, State.setTc_tc, setTc_setTc, setTc_setTc]
    exact writeStart_forgets (c := { c with pos := some f.hdr.frame }) x _ _ _
  split
  · exact locateFail_forgets job x l nofun
  split
  · split
    · rfl
    · rename_i not_writing
      refine located_forgets job x l _ _ (takes.imp_right fun h => ?_)
      obtain writing | goal := h
      · intro goal
        rw [writing, goal] at not_writing
        exact not_writing rfl
      · exact goal
  · rfl

end

/-! ## The accept rule (R82) -/

theorem accepted_kind {x : Nat} {raw : RawFrame} {f : ReadFrame} {mark : Bool} (accepted : classify x raw = .accepted f mark) :
    f.hdr.kind = if mark then 3 else 2 := by
  obtain ⟨-, kind, -⟩ := classify_accepted accepted
  unfold kindOf at kind
  split at kind
  case h_2 two => cases mark with
    | false => exact two
    | true => cases kind
  case h_3 three => cases mark with
    | false => cases kind
    | true => exact three
  all_goals cases mark <;> cases kind

theorem accepted_good {x : Nat} {raw : RawFrame} {f : ReadFrame} {mark : Bool} (accepted : classify x raw = .accepted f mark) :
    f.payGood = true := by
  unfold classify at accepted
  split at accepted
  · cases accepted
  split at accepted
  · cases accepted
  · cases accepted
  · cases accepted
  all_goals split at accepted
  all_goals try cases accepted
  all_goals split at accepted
  all_goals cases accepted
  all_goals
    rename_i hit
    exact hit.2

theorem classify_lost {raw : RawFrame} (lost : readFrame raw = none) (x : Nat) : classify x raw = .counted := by
  unfold classify
  rw [lost]

/-- LABEL and FILLER frames are not counted (R82). -/
theorem classify_passes {raw : RawFrame} {f : ReadFrame} (read : readFrame raw = some f) (kind : f.hdr.kind = 1 ∨ f.hdr.kind = 4)
    (x : Nat) : classify x raw = .uncounted := by
  unfold classify
  rw [read]
  dsimp only
  obtain one | four := kind
  · rw [one]
    rfl
  · rw [four]
    rfl

theorem classify_endOfData {x : Nat} {raw : RawFrame} {f : ReadFrame} (ends : classify x raw = .endOfData f) :
    readFrame raw = some f := by
  unfold classify at ends
  split at ends
  · cases ends
  rename_i g read
  split at ends
  case h_6 =>
    split at ends
    · cases ends
    · split at ends
      · cases ends
        exact read
      · cases ends
  all_goals try cases ends
  all_goals
    split at ends
    · cases ends
    · split at ends <;> cases ends

/-! ## Tries (R62) -/

section
variable {s : State} {t : Tr} {j : Job} {l : Locate}

theorem tryFailed_again (tries : l.tries < 2) (target : Nat) :
    s.tryFailed t l target = s.setTc t { s.tc t with
      locate := some { l with tries := l.tries + 1, lastHeader := none, phase := .fast (max 1 target) } } := by
  unfold State.tryFailed
  rw [if_neg (show ¬Config.triesMax ≤ l.tries + 1 from Nat.not_le.mpr (Nat.succ_lt_succ tries)), modTc_eq]
  rfl

theorem tryFailed_last (job : (s.tc t).job = some j) (tries : 2 ≤ l.tries) (target : Nat) :
    LocateFails s (s.tryFailed t l target) t j l.sought none .positionFault ∧
      ((s.tryFailed t l target).tc t).st = .adrift ∧ ((s.tryFailed t l target).tc t).pos = none := by
  unfold State.tryFailed
  rw [if_pos (show Config.triesMax ≤ l.tries + 1 from Nat.succ_le_succ tries)]
  exact positionLost_ends job l

/-! ## The forward search (R63) -/

theorem forwardFrame_passes {raw : RawFrame} (passes : readFrame raw = none ∨ ∃ f, readFrame raw = some f ∧ f.hdr.kind ≠ 5 ∧
      (f.hdr.addr ≠ l.a ∨ (f.hdr.kind ≠ 2 ∧ f.hdr.kind ≠ 3) ∨ (l.writing = false ∧ f.payGood = false))) (n : Nat) :
    s.forwardFrame t l n raw =
      if 8192 ≤ n + 1 then s.locateFail t l .locateFault
      else s.setTc t { s.tc t with locate := some { l with phase := .forward (n + 1) } } := by
  have on : (if Config.windowMax ≤ n + 1 then s.locateFail t l .locateFault
      else s.modTc t fun c => { c with locate := some { l with phase := .forward (n + 1) } }) =
      if 8192 ≤ n + 1 then s.locateFail t l .locateFault
      else s.setTc t { s.tc t with locate := some { l with phase := .forward (n + 1) } } := by
    rw [modTc_eq]
    rfl
  unfold State.forwardFrame
  dsimp only
  rw [on]
  obtain lost | ⟨f, read, not_eod, other⟩ := passes
  · rw [lost]
  · have miss : l.writingHit f = false := by
      unfold Locate.writingHit
      obtain addr | ⟨two, three⟩ | ⟨reads, -⟩ := other
      · rw [decide_eq_false addr, Bool.and_false, Bool.false_and]
      · rw [decide_eq_false two, decide_eq_false three, decide_eq_false not_eod]
        exact Bool.and_false _
      · rw [reads]
        rfl
    have below : l.eodHit f = false := by
      unfold Locate.eodHit
      rw [decide_eq_false not_eod]
      rfl
    have not_accepted : ∀ g mark, classify l.a raw ≠ .accepted g mark := fun g mark accepted => by
      obtain ⟨again, -, addr⟩ := classify_accepted accepted
      obtain rfl : f = g := Option.some.inj (read.symm.trans again)
      have kind := accepted_kind accepted
      obtain differs | ⟨two, three⟩ | ⟨-, bad⟩ := other
      · exact differs addr
      · cases mark with
        | false => exact two kind
        | true => exact three kind
      · rw [accepted_good accepted] at bad
        cases bad
    rw [read]
    dsimp only
    rw [miss, below, if_neg Bool.false_ne_true, if_neg Bool.false_ne_true]
    cases verdict : classify l.a raw with
    | accepted g mark => exact absurd verdict (not_accepted g mark)
    | _ => rfl

theorem forwardFrame_eod {raw : RawFrame} {f : ReadFrame} (read : readFrame raw = some f) (eod : f.hdr.kind = 5)
    (ends : (l.writing = false ∧ f.hdr.addr ≤ l.a) ∨ f.hdr.addr < l.a) (n : Nat) :
    s.forwardFrame t l n raw = s.locateFail t l .beyondEod := by
  have miss : l.writingHit f = false := by
    unfold Locate.writingHit
    obtain ⟨reads, -⟩ | below := ends
    · rw [reads]
      rfl
    · rw [decide_eq_false (Nat.ne_of_lt below), Bool.and_false, Bool.false_and]
  have hit : l.eodHit f = true := by
    unfold Locate.eodHit
    rw [decide_eq_true eod]
    obtain ⟨reads, le⟩ | below := ends
    · rw [reads]
      exact decide_eq_true le
    · split
      · exact decide_eq_true below
      · exact decide_eq_true (Nat.le_of_lt below)
  unfold State.forwardFrame
  rw [read]
  dsimp only
  rw [miss, hit, if_neg Bool.false_ne_true, if_pos rfl]

theorem forwardFrame_writes {raw : RawFrame} {f : ReadFrame} (read : readFrame raw = some f) (writes : l.writing = true)
    (goal : l.goal = .address) (kind : f.hdr.kind = 2 ∨ f.hdr.kind = 3 ∨ f.hdr.kind = 5) (addr : f.hdr.addr = l.a) (n : Nat) :
    s.forwardFrame t l n raw =
      (s.setTc t { s.tc t with pos := some f.hdr.frame }).writeStart t (s.writeTarget t l).1 (s.writeTarget t l).2 false := by
  have hit : l.writingHit f = true := by
    unfold Locate.writingHit
    rw [writes, goal, decide_eq_true addr, decide_eq_true rfl]
    obtain two | three | five := kind
    · rw [two]
      rfl
    · rw [three]
      rfl
    · rw [five]
      rfl
  unfold State.forwardFrame
  rw [read]
  dsimp only
  rw [hit, if_pos rfl, modTc_eq]

/-- The accepted frame at the address sought, of any locate but one that overwrites it (R63). -/
theorem forwardFrame_found {raw : RawFrame} {f : ReadFrame} {mark : Bool} (finds : l.writing = false ∨ l.goal ≠ .address)
    (accepted : classify l.a raw = .accepted f mark) (n : Nat) : s.forwardFrame t l n raw = s.located t l f mark := by
  obtain ⟨read, -, addr⟩ := classify_accepted accepted
  have not_there : (l.writing && decide (l.goal = .address)) = false := by
    obtain reads | other := finds
    · rw [reads]
      rfl
    · rw [decide_eq_false other, Bool.and_false]
  have miss : l.writingHit f = false := by
    unfold Locate.writingHit
    rw [not_there]
    rfl
  have not_eod : l.eodHit f = false := by
    unfold Locate.eodHit
    rw [accepted_kind accepted]
    cases mark <;> rfl
  unfold State.forwardFrame
  rw [read]
  dsimp only
  rw [miss, not_eod, if_neg Bool.false_ne_true, if_neg Bool.false_ne_true, accepted, not_there]
  exact if_neg Bool.false_ne_true

/-- The first place of a write job that overwrites (R106). -/
theorem writeTarget_eq {w : WriteJob} {r : CartRecord} (job : (s.tc t).job = some (.write w)) (record : s.mtb.get (.bay t) = some r)
    {k : Nat} (target : (∃ p, w.mode = .append ∧ r.eod = .known l.a p k) ∨ ∃ m, w.mode = .fromFile m ∧ k = m.toNat) :
    s.writeTarget t l = (l.a, k) := by
  unfold State.writeTarget
  rw [writeJob_of_job job, eodOf_of_record record]
  obtain ⟨p, mode, eod⟩ | ⟨m, mode, rfl⟩ := target
  · dsimp only
    rw [mode, eod]
  · dsimp only
    rw [mode]

/-! ## Counting marks (R64) -/

theorem countAccept_on {k : Nat} (goal : l.goal = .marks k) {f : ReadFrame} {mark : Bool}
    (on : mark = false ∨ f.hdr.file + 1 ≠ k ∨ l.writing = false) (v : State) :
    v.countAccept t l false f mark = (v.learn t f.info mark).countOn t { l with
      x := f.hdr.addr + 1, skip := 0, phase := .counting (mark && decide (f.hdr.file + 1 = k)) } := by
  have sought : l.goal.soughtMark f mark = (mark && decide (f.hdr.file + 1 = k)) := by
    rw [goal]
    rfl
  have goes : ((mark && decide (f.hdr.file + 1 = k)) && l.writing) = false := by
    obtain rfl | other | reads := on
    · rfl
    · rw [decide_eq_false other, Bool.and_false, Bool.false_and]
    · rw [reads, Bool.and_false]
  unfold State.countAccept
  dsimp only
  rw [sought, goes, if_neg Bool.false_ne_true, if_neg Bool.false_ne_true]

theorem countAccept_writes {k : Nat} (goal : l.goal = .marks k) {f : ReadFrame} (file : f.hdr.file + 1 = k)
    (writes : l.writing = true) (v : State) :
    v.countAccept t l false f true = (v.learn t f.info true).writeStart t (f.hdr.addr + 1) k false := by
  have sought : l.goal.soughtMark f true = true := by
    rw [goal]
    exact decide_eq_true file
  have to_file : l.goal.file = k := by rw [goal]; rfl
  unfold State.countAccept
  dsimp only
  rw [sought, writes, to_file]
  rfl

theorem countFrame_endOfData {raw : RawFrame} {f : ReadFrame} (ends : classify l.x raw = .endOfData f) (found : Bool) :
    s.countFrame t l found raw = (s.setTc t ((s.tc t).passed raw)).locateFail t l .beyondEod := by
  unfold State.countFrame
  rw [ends, modTc_eq]

theorem countFrame_passes {raw : RawFrame} (passes : classify l.x raw = .uncounted) (found : Bool) :
    s.countFrame t l found raw = s.setTc t { (s.tc t).passed raw with locate := some l } := by
  unfold State.countFrame
  rw [passes, modTc_eq]
  dsimp only
  rw [modTc_eq, State.setTc_tc, setTc_setTc]

theorem countFrame_counted {raw : RawFrame} (counts : classify l.x raw = .counted) (found : Bool) :
    s.countFrame t l found raw =
      if 64 ≤ l.skip + 1 then (s.setTc t ((s.tc t).passed raw)).locateFail t l .readFault
      else s.setTc t { (s.tc t).passed raw with locate := some { l with skip := l.skip + 1 } } := by
  unfold State.countFrame
  rw [counts, modTc_eq]
  dsimp only
  rw [modTc_eq, State.setTc_tc, setTc_setTc]
  rfl

end

/-! ## A locate, frame by frame -/

section
variable {s : State} {t : Tr} {j : Job} {l : Locate}

/-- A failure at a frame that the locate has passed. -/
theorem locateFail_passed {c : Tc} (job : c.job = some j) (intake : c.intake = (s.tc t).intake) (l : Locate) {res : JobResult}
    (fault : res = .readFault → l.sought = l.x) :
    LocateFails s ((s.setTc t c).locateFail t l res) t j l.sought (reachedOf c.pos res) res ∧
      (((s.setTc t c).locateFail t l res).tc t).st = .ready ∧ (((s.setTc t c).locateFail t l res).tc t).pos = c.pos := by
  obtain ⟨fails, st, pos⟩ := locateFail_ends (s := s.setTc t c) (t := t) (j := j) (by rw [State.setTc_tc]; exact job) l fault
  rw [State.setTc_tc] at fails pos
  exact ⟨locateFails_passed intake fails, st, pos⟩

/-- A failure at a frame that the locate has passed and learned. -/
theorem locateFail_learned {c : Tc} (job : c.job = some j) (intake : c.intake = (s.tc t).intake) (f : ReadFrame) (mark : Bool)
    (l : Locate) {res : JobResult} (fault : res = .readFault → l.sought = l.x) {v : State}
    (learned : State.setTc { s with mtb := acceptedMtb s.mtb t f mark } t c = v) :
    LocateFails s (v.locateFail t l res) t j l.sought (reachedOf c.pos res) res ∧
      ((v.locateFail t l res).tc t).st = .ready ∧ ((v.locateFail t l res).tc t).pos = c.pos := by
  have tc : v.tc t = c := by rw [← learned, State.setTc_tc]
  obtain ⟨fails, st, pos⟩ := locateFail_ends (s := v) (t := t) (j := j) (by rw [tc]; exact job) l fault
  rw [tc] at fails pos
  rw [← learned] at fails ⊢
  exact ⟨locateFails_before intake (fun _ other => acceptedMtb_other s.mtb t f mark other)
    (fun j => reportOf_accepted _ s.mtb t f mark s.free j res) fails, by rw [learned]; exact st, by rw [learned]; exact pos⟩

/-- A third try that has failed at a frame that the locate has passed (R62). -/
theorem tryFailed_passed {c : Tc} (job : c.job = some j) (intake : c.intake = (s.tc t).intake) (tries : 2 ≤ l.tries) (target : Nat) :
    LocateFails s ((s.setTc t c).tryFailed t l target) t j l.sought none .positionFault ∧
      (((s.setTc t c).tryFailed t l target).tc t).st = .adrift ∧ (((s.setTc t c).tryFailed t l target).tc t).pos = none := by
  obtain ⟨fails, st, pos⟩ := tryFailed_last (s := s.setTc t c) (t := t) (j := j) (by rw [State.setTc_tc]; exact job) tries target
  exact ⟨locateFails_passed intake fails, st, pos⟩

theorem sought_near (near : (∃ a, l.phase = .fast a) ∨ (∃ a b, l.phase = .checking a b) ∨ ∃ a, l.phase = .forward a) : l.sought = l.a := by
  unfold Locate.sought
  obtain ⟨a, phase⟩ | ⟨a, b, phase⟩ | ⟨a, phase⟩ := near <;> rw [phase]

theorem sought_next (next : l.phase = .fastFirst ∨ (∃ a, l.phase = .resync a) ∨ (∃ a, l.phase = .counting a) ∨
    ∃ sr, l.phase = .searching sr) : l.sought = l.x := by
  unfold Locate.sought
  obtain phase | ⟨a, phase⟩ | ⟨a, phase⟩ | ⟨a, phase⟩ := next <;> rw [phase]

theorem passed_noted {raw : RawFrame} {p next : Nat} {header : Option Nat} (pos : (s.tc t).pos = some p)
    (passes : (readFrame raw = none ∧ next = p + 1 ∧ header = l.lastHeader) ∨
      ∃ f, readFrame raw = some f ∧ next = f.hdr.frame + 1 ∧ header = some f.hdr.frame) :
    (s.tc t).passed raw = { s.tc t with pos := some next } ∧ l.noted raw = { l with lastHeader := header } := by
  obtain ⟨lost, rfl, rfl⟩ | ⟨f, read, rfl, rfl⟩ := passes
  · exact ⟨passed_lost lost pos, noted_lost lost l⟩
  · exact ⟨passed_header read _, noted_header read l⟩

theorem checkFrame_lost {raw : RawFrame} (lost : readFrame raw = none) {p : Nat}
    (pos : (s.tc t).pos = some p) {start n : Nat} (locate : (s.tc t).locate = some l) (phase : l.phase = .checking start n) :
    (n + 1 < 64 →
      s.locateFrame t raw = s.setTc t { s.tc t with
        pos := some (p + 1), locate := some { l with phase := .checking start (n + 1) } }) ∧
    (64 ≤ n + 1 →
      s.locateFrame t raw = (s.setTc t { s.tc t with pos := some (p + 1) }).tryFailed t l (start - 16)) := by
  rw [locateFrame_checking locate phase, noted_lost lost]
  unfold State.checkFrame
  dsimp only
  rw [modTc_eq, passed_lost lost pos, lost]
  dsimp only
  refine ⟨fun more => ?_, fun last => if_pos last⟩
  rw [if_neg (show ¬Config.tryFrames ≤ n + 1 from Nat.not_le.mpr more), modTc_eq, State.setTc_tc, setTc_setTc]

theorem checkFrame_header {raw : RawFrame} {f : ReadFrame} (read : readFrame raw = some f) {start n : Nat}
    (locate : (s.tc t).locate = some l) (phase : l.phase = .checking start n) :
    (f.hdr.frame ≤ l.e →
      s.locateFrame t raw = (s.setTc t { s.tc t with pos := some (f.hdr.frame + 1) }).forwardFrame t
        { l with lastHeader := some f.hdr.frame, phase := .forward 0 } 0 raw) ∧
    (l.e < f.hdr.frame →
      s.locateFrame t raw = (s.setTc t { s.tc t with pos := some (f.hdr.frame + 1) }).tryFailed t
        { l with lastHeader := some f.hdr.frame } (l.e - 16)) := by
  rw [locateFrame_checking locate phase, noted_header read]
  unfold State.checkFrame
  dsimp only
  rw [modTc_eq, passed_header read, read]
  dsimp only
  exact ⟨fun le => if_pos le, fun above => if_neg (Nat.not_le.mpr above)⟩

/-- The first header of a try that is not above the estimate begins the forward search with its own frame (R62, R63). -/
theorem checkFrame_forwards (job : (s.tc t).job = some j) {raw : RawFrame} {f : ReadFrame} (read : readFrame raw = some f)
    {start n : Nat} (locate : (s.tc t).locate = some l) (phase : l.phase = .checking start n) (le : f.hdr.frame ≤ l.e)
    (takes : (∃ r, j = .read r) ∨ l.writing = true ∨ l.goal ≠ .address) :
    s.locateFrame t raw =
      (s.setTc t { s.tc t with locate := some { l with phase := .forward 0 } }).locateFrame t raw := by
  obtain ⟨c, hc⟩ : ∃ c : Tc, { s.tc t with pos := some (f.hdr.frame + 1) } = c := ⟨_, rfl⟩
  obtain ⟨d, hd⟩ : ∃ d : Tc, { s.tc t with locate := some { l with phase := .forward 0 } } = d := ⟨_, rfl⟩
  have running : c.job = some j := by rw [← hc]; exact job
  have now : s.setTc t c = s.setTc t (relocated c c.locate) := rfl
  have forgets := forwardFrame_forgets (s := s) (t := t) (c := c) (j := j) running
  have then_ : d.passed raw = relocated c (some { l with phase := .forward 0 }) := by
    rw [passed_header read, ← hd, ← hc]
    rfl
  have header : ({ l with phase := .forward 0 } : Locate).noted raw =
      { l with lastHeader := some f.hdr.frame, phase := .forward 0 } := noted_header read _
  rw [(checkFrame_header read locate phase).1 le, hc, hd, locateFrame_forward (l := { l with phase := .forward 0 })
    (by rw [State.setTc_tc, ← hd]) rfl, State.setTc_tc, setTc_setTc, then_, header, now]
  obtain ⟨l', hl⟩ : ∃ l' : Locate, { l with lastHeader := some f.hdr.frame, phase := .forward 0 } = l' := ⟨_, rfl⟩
  rw [hl]
  have takes' : (∃ r, j = .read r) ∨ l'.writing = true ∨ l'.goal ≠ .address := by
    rw [← hl]
    exact takes
  rw [forgets c.locate l' 0 raw takes', forgets (some _) l' 0 raw takes']

/-- A write job located where another frame has just been learned. -/
theorem writeStart_learned {w : WriteJob} {r : CartRecord} {c : CartClass} {place : Nat} (waits : WriteWaits s t w)
    (record : s.mtb.get (.bay t) = some r) (cls : r.cls = some c) (free : place < Config.capacity c - 16) (f : ReadFrame)
    (mark : Bool) (addr file : Nat) :
    WriteLocated { s with mtb := acceptedMtb s.mtb t f mark }
      ((State.setTc { s with mtb := acceptedMtb s.mtb t f mark } t { s.tc t with pos := some place }).writeStart t addr file false)
      t w place addr file false := by
  obtain ⟨map, dirty, learned⟩ := acceptedMtb_record record f mark
  obtain ⟨m, hm⟩ : ∃ m, acceptedMtb s.mtb t f mark = m := ⟨_, rfl⟩
  rw [hm] at learned ⊢
  have same : ({ s with mtb := m } : State).tc t = s.tc t := by cases t <;> rfl
  have context : ({ s with mtb := m } : State).cx t = s.cx t := by cases t <;> rfl
  refine writeStart_located (s := { s with mtb := m }) ?_ learned cls free (by rw [same]) addr file false
  unfold WriteWaits at waits ⊢
  rw [same, context]
  exact waits

end

/-! ## The clauses of O52 -/

section
variable {s : State} {t : Tr} {j : Job} {l : Locate}

theorem fastMoved_checks (locate : (s.tc t).locate = some l) {target : Nat} (phase : l.phase = .fast target) (tach : Nat) :
    s.fastMoved t tach = s.setTc t { s.tc t with pos := some tach, locate := some { l with phase := .checking tach 0 } } := by
  unfold State.fastMoved
  rw [locate]
  dsimp only
  rw [phase]
  dsimp only
  rw [modTc_eq, modTc_eq, State.setTc_tc, setTc_setTc]

theorem fastMoved_counts (locate : (s.tc t).locate = some l) (phase : l.phase = .fastFirst) {k : Nat} (goal : l.goal = .marks k)
    (tach : Nat) :
    s.fastMoved t tach = s.setTc t { s.tc t with pos := some tach, locate := some { l with phase := .counting false } } := by
  unfold State.fastMoved
  rw [locate]
  dsimp only
  rw [phase]
  dsimp only
  rw [goal, modTc_eq]
  dsimp only
  rw [modTc_eq, State.setTc_tc, setTc_setTc]

theorem positionFault_ends (job : (s.tc t).job = some j) (locate : (s.tc t).locate = some l) (moving : l.fastMoving = true) :
    ∃ u, Runs (.positionFault t) s u ∧ (u.tc t).st = .adrift ∧ (u.tc t).pos = none ∧
      LocateFails s u t j l.sought none .positionFault := by
  have lost : s.fastMoveLost t = s.positionLost t l := by
    unfold State.fastMoveLost
    rw [locate]
    exact if_pos moving
  obtain ⟨fails, st, pos⟩ := positionLost_ends job l
  exact ⟨_, runs_of_eq (v := s.fastMoveLost t) rfl lost, st, pos, fails⟩

theorem physicalEnd_ends (job : (s.tc t).job = some j) {res : JobResult} (ends : s.physicalEnd t = s.locateFail t l res)
    (fault : res = .readFault → l.sought = l.x) :
    ∃ u, Runs (.physicalEnd t) s u ∧ (u.tc t).st = .ready ∧ (u.tc t).pos = (s.tc t).pos ∧
      LocateFails s u t j l.sought (reachedOf (s.tc t).pos res) res := by
  obtain ⟨fails, st, pos⟩ := locateFail_ends job l fault
  exact ⟨_, physicalEnd_runs ends, st, pos, fails⟩

/-- A mark count that goes on behind an accepted frame, or ends at its end bound (R64, R84). -/
theorem countAccept_passed (job : (s.tc t).job = some j) {k : Nat} (goal : l.goal = .marks k) {f : ReadFrame} {mark : Bool}
    (on : mark = false ∨ f.hdr.file + 1 ≠ k ∨ l.writing = false) {u : State}
    (counts : (s.setTc t { s.tc t with pos := some (f.hdr.frame + 1) }).countAccept t
      { l with lastHeader := some f.hdr.frame } false f mark = u) :
    (l.bound ≠ some (f.hdr.addr + 1) →
      u = State.setTc { s with mtb := acceptedMtb s.mtb t f mark } t { s.tc t with
        pos := some (f.hdr.frame + 1)
        locate := some { l with
          x := f.hdr.addr + 1, skip := 0, lastHeader := some f.hdr.frame
          phase := .counting (mark && decide (f.hdr.file + 1 = k)) } }) ∧
    (l.bound = some (f.hdr.addr + 1) →
      (u.tc t).st = .ready ∧ (u.tc t).pos = some (f.hdr.frame + 1) ∧
        LocateFails s u t j (f.hdr.addr + 1) (some (f.hdr.frame + 1)) .beyondEod) := by
  rw [countAccept_on (l := { l with lastHeader := some f.hdr.frame }) goal on, learn_eq, State.setTc_mtb, relearned] at counts
  unfold State.countOn at counts
  refine ⟨fun not_end => ?_, fun meets => ?_⟩
  · rw [if_neg not_end, modTc_eq, State.setTc_tc, setTc_setTc] at counts
    exact counts.symm
  · rw [if_pos meets] at counts
    obtain ⟨fails, st, pos⟩ := locateFail_learned (s := s) (t := t) (j := j)
      (c := { s.tc t with pos := some (f.hdr.frame + 1) }) job rfl f mark
      { l with x := f.hdr.addr + 1, skip := 0, lastHeader := some f.hdr.frame
               phase := .counting (mark && decide (f.hdr.file + 1 = k)) } (res := .beyondEod) nofun rfl
    rw [counts] at fails st pos
    exact ⟨st, pos, fails⟩

/-- The frame accepted in a mark count, or by the locate of the mark it starts from, is told to the count (R64). -/
theorem locateFrame_counts (locate : (s.tc t).locate = some l) {k x : Nat} (goal : l.goal = .marks k) {raw : RawFrame}
    {f : ReadFrame} {mark : Bool} (phase : (l.phase = .counting false ∧ x = l.x) ∨ ∃ n, l.phase = .forward n ∧ x = l.a)
    (accepted : classify x raw = .accepted f mark) :
    s.locateFrame t raw = (s.setTc t { s.tc t with pos := some (f.hdr.frame + 1) }).countAccept t
      { l with lastHeader := some f.hdr.frame } false f mark := by
  have read := (classify_accepted accepted).1
  obtain ⟨counting, rfl⟩ | ⟨n, forward, rfl⟩ := phase
  · rw [locateFrame_counting locate counting, noted_header read,
      countFrame_accepted (l := { l with lastHeader := some f.hdr.frame }) accepted, passed_header read]
  · rw [locateFrame_forward locate forward, noted_header read, passed_header read,
      forwardFrame_found (l := { l with lastHeader := some f.hdr.frame }) (.inr (by rw [goal]; nofun)) accepted n]
    unfold State.located
    dsimp only
    rw [goal]

/-- The first frame of a reading job found by its address, or behind the mark counted to (R63, R64). -/
theorem locateFrame_starts (locate : (s.tc t).locate = some l) {raw : RawFrame} {f : ReadFrame} {mark : Bool}
    (reads : l.writing = false)
    (phase : (∃ n, l.phase = .forward n ∧ l.goal = .address ∧ classify l.a raw = .accepted f mark) ∨
      (l.phase = .counting true ∧ classify l.x raw = .accepted f mark)) :
    s.locateFrame t raw = (s.setTc t { s.tc t with pos := some (f.hdr.frame + 1) }).readStart t f mark := by
  obtain ⟨n, forward, goal, accepted⟩ | ⟨counting, accepted⟩ := phase
  · have read := (classify_accepted accepted).1
    rw [locateFrame_forward locate forward, noted_header read, passed_header read,
      forwardFrame_found (l := { l with lastHeader := some f.hdr.frame }) (.inl reads) accepted n]
    unfold State.located
    dsimp only
    rw [goal]
  · have read := (classify_accepted accepted).1
    rw [locateFrame_counting locate counting, noted_header read,
      countFrame_accepted (l := { l with lastHeader := some f.hdr.frame }) accepted, passed_header read]
    rfl

end

/-- Settles O52: the phases of a locate, each at the frame or the end that it meets. -/
theorem locateSearchesForItsBlock : Obligations.LocateSearchesForItsBlock := by
  unfold Obligations.LocateSearchesForItsBlock
  intro s t l j locate job
  refine ⟨fun target tach phase => fastMoved_runs (fastMoved_checks locate phase tach), ?_, ?_, ?_, ?_, ?_, ?_, ?_, ?_, ?_,
    fun tach k phase goal => fastMoved_runs (fastMoved_counts locate phase goal tach), ?_, ?_⟩
  · rintro sought (⟨⟨x, phase⟩, rfl⟩ | ⟨phase | ⟨x, phase⟩, rfl⟩)
    · rw [← sought_near (.inl ⟨x, phase⟩)]
      exact positionFault_ends job locate (by unfold Locate.fastMoving; rw [phase])
    · rw [← sought_next (.inl phase)]
      exact positionFault_ends job locate (by unfold Locate.fastMoving; rw [phase])
    · rw [← sought_next (.inr (.inl ⟨x, phase⟩))]
      exact positionFault_ends job locate (by unfold Locate.fastMoving; rw [phase])
  · intro start n p raw phase pos lost
    obtain ⟨more, last⟩ := checkFrame_lost lost pos locate phase
    refine ⟨fun h => locateFrame_runs (more h), fun h tries => locateFrame_runs ?_, fun h tries => ?_⟩
    · rw [last h, tryFailed_again tries, State.setTc_tc, setTc_setTc]
    · obtain ⟨fails, st, pos⟩ := tryFailed_passed (s := s) (t := t) (l := l) (c := { s.tc t with pos := some (p + 1) }) job rfl
        tries (start - 16)
      rw [sought_near (.inr (.inl ⟨start, n, phase⟩))] at fails
      exact ⟨_, locateFrame_runs (last h), st, pos, fails⟩
  · intro start n raw f phase read
    obtain ⟨-, above⟩ := checkFrame_header read locate phase
    refine ⟨fun le takes => ?_, fun h tries => locateFrame_runs ?_, fun h tries => ?_⟩
    · have same := checkFrame_forwards job read locate phase le takes
      rw [locateFrame_runs same]
      exact (locateFrame_runs rfl).symm
    · rw [above h, tryFailed_again (l := { l with lastHeader := some f.hdr.frame }) tries, State.setTc_tc, setTc_setTc]
    · obtain ⟨fails, st, pos⟩ := tryFailed_passed (s := s) (t := t) (l := { l with lastHeader := some f.hdr.frame })
        (c := { s.tc t with pos := some (f.hdr.frame + 1) }) job rfl tries (l.e - 16)
      rw [sought_near (l := { l with lastHeader := some f.hdr.frame }) (.inr (.inl ⟨start, n, phase⟩))] at fails
      exact ⟨_, locateFrame_runs (above h), st, pos, fails⟩
  · intro n p raw next header phase pos passes
    obtain ⟨moved, noted⟩ := passed_noted (l := l) pos (passes.imp_right fun ⟨f, read, _, next, header, _⟩ => ⟨f, read, next, header⟩)
    have frame : s.locateFrame t raw = if 8192 ≤ n + 1 then
        (s.setTc t { s.tc t with pos := some next }).locateFail t { l with lastHeader := header } .locateFault
      else s.setTc t { s.tc t with pos := some next, locate := some { l with lastHeader := header, phase := .forward (n + 1) } } := by
      rw [locateFrame_forward locate phase, moved, noted, forwardFrame_passes (l := { l with lastHeader := header })
        (passes.imp (fun h => h.1) fun ⟨f, read, kind, _, _, other⟩ => ⟨f, read, kind, other⟩), State.setTc_tc, setTc_setTc]
    refine ⟨fun more => locateFrame_runs (by rw [frame, if_neg (Nat.not_le.mpr more)]), fun last => ?_⟩
    obtain ⟨fails, st, pos⟩ := locateFail_passed (s := s) (t := t) (c := { s.tc t with pos := some next }) job rfl
      { l with lastHeader := header } (res := .locateFault) nofun
    rw [sought_near (l := { l with lastHeader := header }) (.inr (.inr ⟨n, phase⟩))] at fails
    exact ⟨_, locateFrame_runs (by rw [frame, if_pos last]), st, pos, fails⟩
  · intro n raw f phase read eod ends
    have frame : s.locateFrame t raw = (s.setTc t { s.tc t with pos := some (f.hdr.frame + 1) }).locateFail t
        { l with lastHeader := some f.hdr.frame } .beyondEod := by
      rw [locateFrame_forward locate phase, passed_header read, noted_header read,
        forwardFrame_eod (l := { l with lastHeader := some f.hdr.frame }) read eod ends]
    obtain ⟨fails, st, pos⟩ := locateFail_passed (s := s) (t := t) (c := { s.tc t with pos := some (f.hdr.frame + 1) }) job rfl
      { l with lastHeader := some f.hdr.frame } (res := .beyondEod) nofun
    rw [sought_near (l := { l with lastHeader := some f.hdr.frame }) (.inr (.inr ⟨n, phase⟩))] at fails
    exact ⟨_, locateFrame_runs frame, st, pos, fails⟩
  · rintro n raw f w r c phase writes goal read kind addr rfl waits record cls free k target
    have place : (s.setTc t { s.tc t with pos := some (f.hdr.frame + 1) }).writeTarget t { l with lastHeader := some f.hdr.frame } =
        (l.a, k) :=
      writeTarget_eq (l := { l with lastHeader := some f.hdr.frame }) (by rw [State.setTc_tc]; exact job)
        (by rw [State.setTc_mtb]; exact record) target
    have frame : s.locateFrame t raw =
        (s.setTc t { s.tc t with pos := some f.hdr.frame }).writeStart t l.a k false := by
      rw [locateFrame_forward locate phase, passed_header read, noted_header read,
        forwardFrame_writes (l := { l with lastHeader := some f.hdr.frame }) read writes goal kind addr, place, State.setTc_tc, setTc_setTc]
    exact ⟨_, locateFrame_runs frame, writeStart_located waits record cls free rfl l.a k false⟩
  · rintro raw f mark r reads rfl phase spec bound ended short start not_mark gaps queue delivery intake off
    exact ⟨_, locateFrame_runs (locateFrame_starts locate reads phase),
      readStart_located job ⟨spec, bound, ended, short, start, not_mark, gaps⟩ queue delivery intake off rfl⟩
  · intro raw x f mark k goal phase accepted
    have frame := locateFrame_counts locate goal phase accepted
    refine ⟨fun on not_end => locateFrame_runs (frame.trans ((countAccept_passed job goal on rfl).1 not_end)), fun on meets => ?_, ?_⟩
    · obtain ⟨st, pos, fails⟩ := (countAccept_passed job goal on rfl).2 meets
      exact ⟨_, locateFrame_runs frame, st, pos, fails⟩
    · rintro w r c rfl file writes rfl waits record cls free
      refine ⟨_, locateFrame_runs (frame.trans ?_), writeStart_learned waits record cls free f true (f.hdr.addr + 1) k⟩
      rw [countAccept_writes (l := { l with lastHeader := some f.hdr.frame }) goal file writes, learn_eq, State.setTc_mtb, relearned]
  · intro found raw p phase pos
    refine ⟨fun f ends => ?_, fun f read kind => locateFrame_runs ?_, fun lost => ?_⟩
    · have read := classify_endOfData ends
      have frame : s.locateFrame t raw = (s.setTc t { s.tc t with pos := some (f.hdr.frame + 1) }).locateFail t
          { l with lastHeader := some f.hdr.frame } .beyondEod := by
        rw [locateFrame_counting locate phase, noted_header read,
          countFrame_endOfData (l := { l with lastHeader := some f.hdr.frame }) ends, passed_header read]
      obtain ⟨fails, st, pos⟩ := locateFail_passed (s := s) (t := t) (c := { s.tc t with pos := some (f.hdr.frame + 1) }) job rfl
        { l with lastHeader := some f.hdr.frame } (res := .beyondEod) nofun
      rw [sought_next (l := { l with lastHeader := some f.hdr.frame }) (.inr (.inr (.inl ⟨found, phase⟩)))] at fails
      exact ⟨_, locateFrame_runs frame, st, pos, fails⟩
    · rw [locateFrame_counting locate phase, noted_header read,
        countFrame_passes (l := { l with lastHeader := some f.hdr.frame }) (classify_passes read kind l.x), passed_header read]
    · have frame : s.locateFrame t raw = if 64 ≤ l.skip + 1 then
          (s.setTc t { s.tc t with pos := some (p + 1) }).locateFail t l .readFault
        else s.setTc t { s.tc t with pos := some (p + 1), locate := some { l with skip := l.skip + 1 } } := by
        rw [locateFrame_counting locate phase, noted_lost lost, countFrame_counted (classify_lost lost l.x), passed_lost lost pos]
      refine ⟨fun more => locateFrame_runs (by rw [frame, if_neg (Nat.not_le.mpr more)]), fun last => ?_⟩
      have sought : l.sought = l.x := sought_next (.inr (.inr (.inl ⟨found, phase⟩)))
      obtain ⟨fails, st, pos⟩ := locateFail_passed (s := s) (t := t) (c := { s.tc t with pos := some (p + 1) }) job rfl l
        (res := .readFault) fun _ => sought
      rw [sought] at fails
      exact ⟨_, locateFrame_runs (by rw [frame, if_pos last]), st, pos, fails⟩
  · rintro ⟨a, b, phase⟩
    have ends : s.physicalEnd t = s.locateFail t l .locateFault := by
      unfold State.physicalEnd
      rw [locate]
      dsimp only
      obtain phase | phase := phase <;> rw [phase]
    rw [← sought_near (phase.elim (fun h => .inr (.inl ⟨a, b, h⟩)) fun h => .inr (.inr ⟨a, h⟩))]
    exact physicalEnd_ends job ends nofun
  · rintro ⟨a, phase⟩
    have ends : s.physicalEnd t = s.locateFail t l .readFault := by
      unfold State.physicalEnd
      rw [locate]
      dsimp only
      obtain phase | ⟨sr, phase⟩ := phase <;> rw [phase]
    have sought : l.sought = l.x :=
      sought_next (.inr (.inr (phase.elim (fun h => .inl ⟨a, h⟩) fun ⟨sr, h⟩ => .inr ⟨sr, h⟩)))
    have over_ := physicalEnd_ends job ends fun _ => sought
    rw [sought] at over_
    exact over_

end Sys2Proof.Proofs
end

section
/-! PROOFS. The end-of-data search (R66; O53). -/

open Sys2Proof Sys2Proof.Machine Sys2Proof.Claims

namespace Sys2Proof.Proofs

-- One declaration at a time: elaborated in parallel, the joined text needs more threads than the memory limit holds.
set_option Elab.async false

section
variable {s : State} {t : Tr} {l : Locate} {sr : Search} {w : WriteJob} {r : CartRecord} {c : CartClass}

/-- The search goes on with a locate, unless its place lies in the reserve zone (R66). -/
theorem searchOn_passed (job : (s.tc t).job = some (.write w)) (record : s.mtb.get (.bay t) = some r) (cls : r.cls = some c)
    (next : Nat) (m : Locate) :
    (next < Config.capacity c - 16 →
      (s.setTc t { s.tc t with pos := some next }).searchOn t m = s.setTc t { s.tc t with pos := some next, locate := some m }) ∧
    (Config.capacity c - 16 ≤ next →
      let u := (s.setTc t { s.tc t with pos := some next }).searchOn t m
      (u.tc t).st = .ready ∧ LocateFails s u t (.write w) m.sought none .endOfMedia) := by
  have reserve : (s.setTc t { s.tc t with pos := some next }).reserveAt t = Config.capacity c - 16 :=
    reserveAt_of_record (by rw [State.setTc_mtb]; exact record) cls
  unfold State.searchOn
  rw [reserve, State.setTc_tc]
  dsimp only [Option.getD_some]
  refine ⟨fun free => ?_, fun full => ?_⟩
  · rw [if_neg (Nat.not_le.mpr free), modTc_eq, State.setTc_tc, setTc_setTc]
  · rw [if_pos full]
    obtain ⟨fails, st, -⟩ := locateFail_passed (s := s) (t := t) (c := { s.tc t with pos := some next }) job rfl m
      (res := .endOfMedia) nofun
    exact ⟨st, fails⟩

/-- The search goes on behind a frame that it has accepted (R66, R67). -/
theorem searchOn_learned (record : s.mtb.get (.bay t) = some r) (cls : r.cls = some c) (f : ReadFrame) (mark : Bool)
    {next : Nat} (free : next < Config.capacity c - 16) (m : Locate) :
    ((s.setTc t { s.tc t with pos := some next }).learn t f.info mark).searchOn t m =
      State.setTc { s with mtb := acceptedMtb s.mtb t f mark } t { s.tc t with pos := some next, locate := some m } := by
  obtain ⟨map, dirty, learned⟩ := acceptedMtb_record record f mark
  rw [learn_eq, State.setTc_mtb, relearned]
  have reserve : (State.setTc { s with mtb := acceptedMtb s.mtb t f mark } t { s.tc t with pos := some next }).reserveAt t =
      Config.capacity c - 16 :=
    reserveAt_of_record (r := { r with map := map, dirty := dirty }) (by rw [State.setTc_mtb]; exact learned) cls
  unfold State.searchOn
  rw [reserve, State.setTc_tc]
  dsimp only [Option.getD_some]
  rw [if_neg (Nat.not_le.mpr free), modTc_eq, State.setTc_tc, setTc_setTc]

theorem searchStart_begins (record : s.mtb.get (.bay t) = some r) (cls : r.cls = some c) {place : Nat}
    (pos : (s.tc t).pos = some place) (free : place < Config.capacity c - 16) (m : Locate) (files : Nat) :
    s.searchStart t m files = s.setTc t { s.tc t with
      locate := some { m with phase := .searching { startFrame := place, startFiles := files }, skip := 0 } } := by
  unfold State.searchStart
  rw [pos, reserveAt_of_record record cls]
  dsimp only [Option.getD_some]
  rw [if_neg (Nat.not_le.mpr free), modTc_eq]

/-- The end-of-data search begins behind the frame of the last map entry (R66). -/
theorem located_searches (locate : (s.tc t).locate = some l) (goal : l.goal = .endOfData) (record : s.mtb.get (.bay t) = some r)
    (cls : r.cls = some c) {n : Nat} (phase : l.phase = .forward n) {raw : RawFrame} {f : ReadFrame} {mark : Bool}
    (accepted : classify l.a raw = .accepted f mark) (free : f.hdr.frame + 1 < Config.capacity c - 16) :
    s.locateFrame t raw = State.setTc { s with mtb := acceptedMtb s.mtb t f mark } t { s.tc t with
      pos := some (f.hdr.frame + 1)
      locate := some { l with
        x := f.hdr.addr + 1, skip := 0, lastHeader := some f.hdr.frame
        phase := .searching { startFrame := f.hdr.frame + 1, startFiles := r.map.length } } } := by
  have read := (classify_accepted accepted).1
  obtain ⟨map, dirty, learned⟩ := acceptedMtb_record record f mark
  have files : (s.setTc t { s.tc t with pos := some (f.hdr.frame + 1) }).mapOf t = r.map :=
    mapOf_of_record (by rw [State.setTc_mtb]; exact record)
  rw [locateFrame_forward locate phase, noted_header read, passed_header read,
    forwardFrame_found (l := { l with lastHeader := some f.hdr.frame }) (.inr (by rw [goal]; nofun)) accepted n]
  unfold State.located
  dsimp only
  rw [goal]
  dsimp only
  rw [files, learn_eq, State.setTc_mtb, relearned]
  rw [searchStart_begins (r := { r with map := map, dirty := dirty }) (place := f.hdr.frame + 1)
    (by rw [State.setTc_mtb]; exact learned) cls (by rw [State.setTc_tc]) free, State.setTc_tc, setTc_setTc, ← goal]

theorem fastMoved_searches (locate : (s.tc t).locate = some l) (goal : l.goal = .endOfData)
    (record : s.mtb.get (.bay t) = some r) (cls : r.cls = some c) (phase : l.phase = .fastFirst) {tach : Nat}
    (free : tach < Config.capacity c - 16) :
    s.fastMoved t tach = s.setTc t { s.tc t with
      pos := some tach
      locate := some { l with skip := 0, phase := .searching { startFrame := tach, startFiles := 0 } } } := by
  unfold State.fastMoved
  rw [locate]
  dsimp only
  rw [phase]
  dsimp only
  rw [goal, modTc_eq]
  dsimp only
  rw [searchStart_begins (place := tach) (by rw [State.setTc_mtb]; exact record) cls (by rw [State.setTc_tc]) free,
    State.setTc_tc, setTc_setTc, ← goal]

/-! ## A frame of the search -/

theorem track_header {raw : RawFrame} {f : ReadFrame} (read : readFrame raw = some f) :
    sr.track raw = { sr with lastGood := some f.hdr.frame, run := 0 } := by
  unfold Search.track
  rw [read]

theorem track_lost {raw : RawFrame} (lost : readFrame raw = none) : sr.track raw = { sr with run := sr.run + 1 } := by
  unfold Search.track
  rw [lost]

theorem searchFrame_header (locate : (s.tc t).locate = some l) (phase : l.phase = .searching sr) {raw : RawFrame} {f : ReadFrame}
    (read : readFrame raw = some f) :
    s.eodSearchFrame t raw = (s.setTc t { s.tc t with pos := some (f.hdr.frame + 1) }).searchAccept t
      { l with lastHeader := some f.hdr.frame } { sr with lastGood := some f.hdr.frame, run := 0 } raw := by
  rw [eodSearchFrame_searching locate phase, noted_header read]
  unfold State.searchFrame
  dsimp only
  rw [modTc_eq, passed_header read, track_header read, read]

theorem searchFrame_lost (locate : (s.tc t).locate = some l) (phase : l.phase = .searching sr) {raw : RawFrame}
    (lost : readFrame raw = none) {p : Nat} (pos : (s.tc t).pos = some p) :
    s.eodSearchFrame t raw = (s.setTc t { s.tc t with pos := some (p + 1) }).searchLost t l { sr with run := sr.run + 1 } := by
  rw [eodSearchFrame_searching locate phase, noted_lost lost]
  unfold State.searchFrame
  dsimp only
  rw [modTc_eq, passed_lost lost pos, track_lost lost, lost]

theorem searchLost_more (more : sr.run < 32) (v : State) : v.searchLost t l sr = v.searchOn t { l with phase := .searching sr } :=
  if_neg (Nat.not_le.mpr more)

theorem searchLost_recovers (run : 32 ≤ sr.run) (next : Nat) :
    (s.setTc t { s.tc t with pos := some next }).searchLost t l sr =
      (s.setTc t { s.tc t with pos := some sr.place }).writeStart t l.x sr.files true := by
  unfold State.searchLost
  rw [if_pos (show Config.blankRun ≤ sr.run from run), modTc_eq, State.setTc_tc, setTc_setTc]

/-- A well-formed EOD frame of the address sought ends the data (R82). -/
theorem classify_eod {x : Nat} {raw : RawFrame} {f : ReadFrame} (read : readFrame raw = some f) (kind : f.hdr.kind = 5)
    (whole : f.hdr.malformed = false) (addr : f.hdr.addr = x) : classify x raw = .endOfData f := by
  unfold classify
  rw [read]
  dsimp only
  rw [kind]
  show (if f.hdr.malformed = true then Verdict.counted else if f.hdr.addr = x then .endOfData f else .counted) = _
  rw [whole, if_neg Bool.false_ne_true, if_pos addr]

/-- The recovered end of data: a write job starts behind the last good header, or where the search began (R66). -/
theorem recovered_located (waits : WriteWaits s t w) (record : s.mtb.get (.bay t) = some r) (cls : r.cls = some c)
    (locate : (s.tc t).locate = some l) (phase : l.phase = .searching sr) {raw : RawFrame} (lost : readFrame raw = none) {p : Nat}
    (pos : (s.tc t).pos = some p) (run : 32 ≤ sr.run + 1) (free : sr.place < Config.capacity c - 16) :
    ∃ u, Runs (.eodSearchFrameRead t raw) s u ∧ WriteLocated s u t w sr.place l.x sr.files true :=
  ⟨_, eodSearchFrame_runs ((searchFrame_lost locate phase lost pos).trans (searchLost_recovers (sr := { sr with run := sr.run + 1 }) run _)),
    writeStart_located waits record cls free rfl l.x sr.files true⟩

end

/-- Settles O53: the begin of the search, and each verdict of a frame in it. -/
theorem endOfDataSearchFindsThePlace : Obligations.EndOfDataSearchFindsThePlace := by
  unfold Obligations.EndOfDataSearchFindsThePlace
  refine ⟨fun s t l r c locate goal record cls => ⟨fun tach phase free => ?_, fun n raw f mark phase accepted free => ?_⟩, ?_⟩
  · exact fastMoved_runs (fastMoved_searches locate goal record cls phase free)
  · exact locateFrame_runs (located_searches locate goal record cls phase accepted free)
  intro s t l sr w r c p raw locate phase waits record cls pos
  have job := waits.2.1
  refine ⟨fun f read kind whole addr free => ?_, fun f mark accepted free => eodSearchFrame_runs ?_,
    fun f read kind free => eodSearchFrame_runs ?_, fun f read counted => ?_, fun lost => ?_⟩
  · refine ⟨_, eodSearchFrame_runs ((searchFrame_header locate phase read).trans ?_),
      writeStart_located waits record cls free rfl l.x f.hdr.file false⟩
    unfold State.searchAccept
    rw [classify_eod (x := l.x) read kind whole addr]
    dsimp only
    rw [modTc_eq, State.setTc_tc, setTc_setTc]
  · rw [searchFrame_header locate phase (classify_accepted accepted).1]
    unfold State.searchAccept
    dsimp only
    rw [accepted]
    exact searchOn_learned record cls f mark free _
  · rw [searchFrame_header locate phase read]
    unfold State.searchAccept
    dsimp only
    rw [classify_passes read kind l.x]
    exact (searchOn_passed job record cls _ _).1 free
  · have frame : s.eodSearchFrame t raw =
        if 64 ≤ l.skip + 1 then (s.setTc t { s.tc t with pos := some (f.hdr.frame + 1) }).locateFail t
          { l with lastHeader := some f.hdr.frame } .readFault
        else (s.setTc t { s.tc t with pos := some (f.hdr.frame + 1) }).searchOn t { l with
          skip := l.skip + 1, lastHeader := some f.hdr.frame
          phase := .searching { sr with lastGood := some f.hdr.frame, run := 0 } } := by
      rw [searchFrame_header locate phase read]
      unfold State.searchAccept
      dsimp only
      rw [counted]
      rfl
    refine ⟨fun more free => eodSearchFrame_runs ?_, fun last => ?_, fun more full => ?_⟩
    · rw [frame, if_neg (Nat.not_le.mpr more)]
      exact (searchOn_passed job record cls _ _).1 free
    · have sought : ({ l with lastHeader := some f.hdr.frame } : Locate).sought = l.x :=
        sought_next (l := { l with lastHeader := some f.hdr.frame }) (.inr (.inr (.inr ⟨sr, phase⟩)))
      obtain ⟨fails, st, at_⟩ := locateFail_passed (s := s) (t := t) (c := { s.tc t with pos := some (f.hdr.frame + 1) }) job rfl
        { l with lastHeader := some f.hdr.frame } (res := .readFault) fun _ => sought
      rw [sought] at fails
      exact ⟨_, eodSearchFrame_runs (frame.trans (if_pos last)), st, at_, fails⟩
    · obtain ⟨st, fails⟩ := (searchOn_passed job record cls (f.hdr.frame + 1) { l with
        skip := l.skip + 1, lastHeader := some f.hdr.frame
        phase := .searching { sr with lastGood := some f.hdr.frame, run := 0 } }).2 full
      exact ⟨_, eodSearchFrame_runs (frame.trans (if_neg (Nat.not_le.mpr more))), st, fails⟩
  · have frame := searchFrame_lost locate phase lost pos
    refine ⟨fun more free => eodSearchFrame_runs ?_, fun more full => ?_, fun run => ⟨fun g good free => ?_, fun none_good free => ?_⟩⟩
    · rw [frame, searchLost_more (sr := { sr with run := sr.run + 1 }) more]
      exact (searchOn_passed job record cls _ _).1 free
    · obtain ⟨st, fails⟩ := (searchOn_passed job record cls (p + 1) { l with
        phase := .searching { sr with run := sr.run + 1 } }).2 full
      exact ⟨_, eodSearchFrame_runs (frame.trans (searchLost_more (sr := { sr with run := sr.run + 1 }) more _)), st, fails⟩
    · have place : sr.place = g + 1 := by
        unfold Search.place
        rw [good]
      obtain ⟨u, runs, located⟩ := recovered_located waits record cls locate phase lost pos run (by rw [place]; exact free)
      rw [place] at located
      exact ⟨u, runs, located⟩
    · have place : sr.place = sr.startFrame := by
        unfold Search.place
        rw [none_good]
      obtain ⟨u, runs, located⟩ := recovered_located waits record cls locate phase lost pos run (by rw [place]; exact free)
      rw [place] at located
      exact ⟨u, runs, located⟩

end Sys2Proof.Proofs
end

section
/-! PROOFS. Reading: acceptances, ends of a reading, read faults and resyncs (R82, R83, R146 to R162; O58). -/

open Sys2Proof Sys2Proof.Machine Sys2Proof.Claims

namespace Sys2Proof.Proofs

-- One declaration at a time: elaborated in parallel, the joined text needs more threads than the memory limit holds.
set_option Elab.async false

/-! ## The parts of an acceptance (R146, R147) -/

theorem take_eq (r : ReadJob) (f : ReadFrame) (mark : Bool) :
    ∃ start applied resume covered rewritten, r.take f mark = { r with
      start := start, applied := applied, resume := resume, x := f.hdr.addr + 1, skip := 0, searchStart := f.hdr.frame + 1
      resynced := false, lastSeen := none, pendingGaps := [], accepted := r.accepted + 1, covered := covered
      blocksAccepted := if mark then r.blocksAccepted else r.blocksAccepted + 1
      marksAccepted := if mark then r.marksAccepted + 1 else r.marksAccepted, rewritten := rewritten } := by
  unfold ReadJob.take
  dsimp only
  split <;> exact ⟨_, _, _, _, _, rfl⟩

theorem restore_meets {r : ReadJob} {offset : Nat} {stop : RestoreEnd} (spec : r.spec = .restore offset stop) (mark : Bool) :
    r.meets mark = true ↔ (∃ n, stop = .count n ∧ n.toNat ≤ r.accepted) ∨ (stop = .toMark ∧ mark = true) := by
  unfold ReadJob.meets
  rw [spec]
  cases stop with
  | count n => simp
  | toMark => simp
  | toEod => simp

theorem verify_meets {r : ReadJob} {a : Nat} {range : VerifyRange} {mode : VerifyMode} {policy : FaultPolicy}
    (spec : r.spec = .verify a range mode policy) (mark : Bool) :
    r.meets mark = true ↔ ∃ n, range = .count n ∧ a + n.toNat ≤ r.x := by
  unfold ReadJob.meets
  rw [spec]
  cases range with
  | count n => simp
  | toEod => simp

theorem restore_atEnd {r : ReadJob} {offset : Nat} {stop : RestoreEnd} (spec : r.spec = .restore offset stop) :
    r.atEnd = if stop = .toEod then .ok else .endOfData := by
  unfold ReadJob.atEnd
  rw [spec]
  cases stop <;> rfl

theorem verify_atEnd {r : ReadJob} {a : Nat} {range : VerifyRange} {mode : VerifyMode} {policy : FaultPolicy}
    (spec : r.spec = .verify a range mode policy) : r.atEnd = if range = .toEod then .ok else .endOfData := by
  unfold ReadJob.atEnd
  rw [spec]
  cases range <;> rfl

theorem endsAt_met {r : ReadJob} {mark : Bool} (met : r.meets mark = true) : r.endsAt mark = some .ok := if_pos met

theorem endsAt_bound {r : ReadJob} {mark : Bool} (not_met : r.meets mark ≠ true) (bound : r.bound = some r.x) :
    r.endsAt mark = some r.atEnd := by
  unfold ReadJob.endsAt
  rw [if_neg not_met, if_pos bound]

theorem endsAt_mark {r : ReadJob} {mark : Bool} (not_met : r.meets mark ≠ true) (inside : r.bound ≠ some r.x) :
    r.endsAt mark = if r.atMark && mark then some .aborted else none := by
  unfold ReadJob.endsAt
  rw [if_neg not_met, if_neg inside]

theorem not_compare_of_restore {r : ReadJob} {offset : Nat} {stop : RestoreEnd} (spec : r.spec = .restore offset stop) :
    r.isCompare = false ∧ r.isRestore = true := by
  unfold ReadJob.isCompare ReadJob.isRestore
  rw [spec]
  exact ⟨rfl, rfl⟩

theorem compare_of_verify {r : ReadJob} {a : Nat} {range : VerifyRange} {mode : VerifyMode} {policy : FaultPolicy}
    (spec : r.spec = .verify a range mode policy) : r.isCompare = decide (mode = .compare) ∧ r.isRestore = false := by
  unfold ReadJob.isCompare ReadJob.isRestore
  rw [spec]
  cases mode <;> exact ⟨rfl, rfl⟩

/-! ## The reports (R165, R166) -/

section
variable {r r' : ReadJob} {res : JobResult}

/-- A job as its report tells it: one that accepted nothing tells free values (log entries 2, 17). -/
def toldJob (free : Nat) (r : ReadJob) : ReadJob :=
  if r.start = none then { r with applied := Config.unstated free, x := Config.unstated (free + 1) } else r

theorem reportOf_restore {offset : Nat} {stop : RestoreEnd} (spec : r.spec = .restore offset stop) (u : State)
    (q : Option CartRecord) (free : Nat) : reportOf u q free (.read r) res = restoreLayout (toldJob free r) res := by
  unfold reportOf toldJob
  dsimp only
  rw [spec]

theorem reportOf_verify {a : Nat} {range : VerifyRange} {mode : VerifyMode} {policy : FaultPolicy}
    (spec : r.spec = .verify a range mode policy) (u : State)
    (q : Option CartRecord) (free : Nat) : reportOf u q free (.read r) res = verifyLayout (toldJob free r) policy res := by
  unfold reportOf toldJob
  dsimp only
  rw [spec]

theorem reportOf_restore_congr {offset : Nat} {stop : RestoreEnd} (spec : r.spec = .restore offset stop) (spec' : r'.spec = r.spec)
    (start : r'.start = r.start) (same : restoreLayout r' res = restoreLayout r res)
    (unstated : ∀ a x, restoreLayout { r' with applied := a, x := x } res = restoreLayout { r with applied := a, x := x } res)
    (u : State) (q : Option CartRecord) (free : Nat) : reportOf u q free (.read r') res = reportOf u q free (.read r) res := by
  rw [reportOf_restore spec, reportOf_restore (spec'.trans spec)]
  unfold toldJob
  by_cases none_accepted : r.start = none
  · rw [if_pos none_accepted, if_pos (start.trans none_accepted)]
    exact unstated _ _
  · rw [if_neg none_accepted, if_neg fun h => none_accepted (start.symm.trans h)]
    exact same

theorem reportOf_verify_congr {a : Nat} {range : VerifyRange} {mode : VerifyMode} {policy : FaultPolicy}
    (spec : r.spec = .verify a range mode policy) (spec' : r'.spec = r.spec) (start : r'.start = r.start)
    (same : verifyLayout r' policy res = verifyLayout r policy res)
    (unstated : ∀ a x, verifyLayout { r' with applied := a, x := x } policy res =
      verifyLayout { r with applied := a, x := x } policy res)
    (u : State) (q : Option CartRecord) (free : Nat) : reportOf u q free (.read r') res = reportOf u q free (.read r) res := by
  rw [reportOf_verify spec, reportOf_verify (spec'.trans spec)]
  unfold toldJob
  by_cases none_accepted : r.start = none
  · rw [if_pos none_accepted, if_pos (start.trans none_accepted)]
    exact unstated _ _
  · rw [if_neg none_accepted, if_neg fun h => none_accepted (start.symm.trans h)]
    exact same

end

/-! ## What follows a frame that changed a reading's queues (R149 to R152, R157, R161) -/

section
variable {s : State} {t : Tr} {r : ReadJob}

/-- A read job whose comparison has nothing to pair: it has none, or neither side offers a byte. -/
def Unpaired (c : Tc) (r : ReadJob) : Prop := r.isCompare = false ∨ (c.delivery = [] ∧ c.intake = [])

theorem compare_unpaired (job : (s.tc t).job = some (.read r)) (unpaired : Unpaired (s.tc t) r) : s.compare t = s := by
  cases compares : r.isCompare with
  | false => exact compare_self job compares
  | true =>
    obtain not_compare | ⟨delivery, intake⟩ := unpaired
    · rw [compares] at not_compare
      cases not_compare
    · refine compare_stuck job compares ?_
      rw [delivery, intake]
      unfold Cmp.step
      dsimp only
      split
      · rfl
      · split <;> rfl

/-- A reading that goes on, or whose last blocks wait: nothing follows. -/
theorem readPump_stays (job : (s.tc t).job = some (.read r)) (plain : HeadPlain (s.tc t).blockQ) (short : r.short = none)
    (unpaired : Unpaired (s.tc t) r)
    (stays : (r.ended = none ∧ (s.tc t).st ≠ .waiting) ∨ (r.ended ≠ none ∧ (s.tc t).blockQ ≠ [])) : s.readPump t = s := by
  have not_last : r.ended = none ∨ (s.tc t).blockQ ≠ [] := stays.imp And.left And.right
  have no_resume : ¬((s.tc t).st = .waiting ∧ r.ended = none ∧ (s.tc t).blockQ.length ≤ (s.tc t).gov.active.resume) := by
    rintro ⟨waiting, running, -⟩
    obtain ⟨-, still⟩ | ⟨over_, -⟩ := stays
    · exact still waiting
    · exact over_ running
  unfold State.readPump
  rw [takeHeads_self job plain, lastGaps_self job (not_last.imp_right .inl), readResume_eq job, if_neg no_resume,
    compare_unpaired job unpaired, shortEnd_self job short, readEndTest_self job (not_last.imp_right .inl)]

/-- A reading that has ended with nothing left to decode or deliver: the job ends (R152, R161). -/
theorem readPump_ends {e : JobResult} (job : (s.tc t).job = some (.read r)) (ended : r.ended = some e) (short : r.short = none)
    (gaps : r.pendingGaps = []) (queue : (s.tc t).blockQ = []) (delivery : (s.tc t).delivery = [])
    (unpaired : Unpaired (s.tc t) r) (free : s.opOf t = false) : s.readPump t = s.endRead t r.result := by
  have no_resume : ¬((s.tc t).st = .waiting ∧ r.ended = none ∧ (s.tc t).blockQ.length ≤ (s.tc t).gov.active.resume) := by
    rw [ended]
    exact fun h => nomatch h.2.1
  have closed : (if r.isRestore then s.modTc t fun c => { c with delivery := closeFilling c.delivery } else s) = s := by
    split
    · rw [modTc_eq, delivery]
      show s.setTc t { s.tc t with delivery := [] } = s
      rw [← delivery]
      exact setTc_self s t
    · rfl
  unfold State.readPump
  rw [takeHeads_self job (.inl queue), lastGaps_self job (.inr (.inr gaps)), readResume_eq job, if_neg no_resume,
    compare_unpaired job unpaired, shortEnd_self job short]
  unfold State.readEndTest
  rw [readJob_of_job job]
  dsimp only
  rw [if_pos ⟨by rw [ended]; rfl, queue, by rw [free]; rfl⟩, closed, if_pos delivery]

/-- A reading of a restore that has ended at a mark: the mark waits to be delivered (R149, R150). -/
theorem readPump_marked {e : JobResult} (job : (s.tc t).job = some (.read r)) (ended : r.ended = some e) (short : r.short = none)
    (gaps : r.pendingGaps = []) (queue : (s.tc t).blockQ = []) (delivery : (s.tc t).delivery = [.mark])
    (no_compare : r.isCompare = false) : s.readPump t = s := by
  have no_resume : ¬((s.tc t).st = .waiting ∧ r.ended = none ∧ (s.tc t).blockQ.length ≤ (s.tc t).gov.active.resume) := by
    rw [ended]
    exact fun h => nomatch h.2.1
  have closed : (if r.isRestore then s.modTc t fun c => { c with delivery := closeFilling c.delivery } else s) = s := by
    split
    · rw [modTc_eq, delivery]
      show s.setTc t { s.tc t with delivery := [.mark] } = s
      rw [← delivery]
      exact setTc_self s t
    · rfl
  unfold State.readPump
  rw [takeHeads_self job (.inl queue), lastGaps_self job (.inr (.inr gaps)), readResume_eq job, if_neg no_resume,
    compare_self job no_compare, shortEnd_self job short]
  unfold State.readEndTest
  rw [readJob_of_job job]
  dsimp only
  rw [closed, delivery, if_neg (List.cons_ne_nil _ _), ite_self]

/-- A comparison whose reading has ended in a gap that no entry carries: it waits for the host's bytes (R157, R158). -/
theorem readPump_gap {e : JobResult} {a p n : Nat} (job : (s.tc t).job = some (.read r)) (ended : r.ended = some e)
    (short : r.short = none) (aligned : r.unaligned = false) (compares : r.isCompare = true) (gaps : r.pendingGaps = [.bytes a p (n + 1)])
    (queue : (s.tc t).blockQ = []) (delivery : (s.tc t).delivery = []) (intake : (s.tc t).intake = []) :
    s.readPump t = s.setTc t { s.tc t with
      delivery := [.gap (.bytes a p (n + 1))], job := some (.read { r with pendingGaps := [] }) } := by
  obtain ⟨u, hu⟩ : ∃ u, s.setTc t { s.tc t with
    delivery := [.gap (.bytes a p (n + 1))], job := some (.read { r with pendingGaps := [] }) } = u := ⟨_, rfl⟩
  have tc : u.tc t = { s.tc t with
      delivery := [.gap (.bytes a p (n + 1))], job := some (.read { r with pendingGaps := [] }) } := by rw [← hu, State.setTc_tc]
  have running : (u.tc t).job = some (.read { r with pendingGaps := [] }) := by rw [tc]
  have placed : s.lastGaps t = u := by
    unfold State.lastGaps
    rw [readJob_of_job job]
    dsimp only
    rw [if_pos ⟨by rw [ended]; rfl, queue⟩, gaps, modTc_eq, modRead_of_read (r := r) (by rw [State.setTc_tc]; exact job),
      State.setTc_tc, setTc_setTc, delivery]
    exact hu
  have no_resume : ¬((u.tc t).st = .waiting ∧ ({ r with pendingGaps := [] } : ReadJob).ended = none ∧
      (u.tc t).blockQ.length ≤ (u.tc t).gov.active.resume) := fun h => by
    have none_ended : r.ended = none := h.2.1
    rw [ended] at none_ended
    cases none_ended
  have stuck : Cmp.step { delivery := (u.tc t).delivery, intake := (u.tc t).intake, job := { r with pendingGaps := [] } } = none := by
    rw [tc]
    dsimp only
    rw [intake]
    unfold Cmp.step
    dsimp only
    rw [short, aligned]
    rfl
  have restore : ({ r with pendingGaps := [] } : ReadJob).isRestore = false := isRestore_of_compare compares
  have waits : (u.tc t).delivery ≠ [] := by
    rw [tc]
    exact List.cons_ne_nil _ _
  unfold State.readPump
  rw [takeHeads_self job (.inl queue), placed, readResume_eq running, if_neg no_resume, compare_stuck running compares stuck,
    shortEnd_self running short]
  unfold State.readEndTest
  rw [readJob_of_job running]
  dsimp only
  rw [restore, if_neg Bool.false_ne_true, if_neg waits, ite_self]
  exact hu.symm

/-- A read job that ends behind a change of its transport's controller (R152, R158, R161). -/
theorem endRead_after {c : Tc} (job : c.job = some (.read r)) (res : JobResult) :
    JobEnded t (Job.kind (.read r)) res
        (reportOf ((s.setTc t c).endRead t res) (s.mtb.get (.bay t)) s.free (.read (r.leave c.intake)) res) s
        ((s.setTc t c).endRead t res) ∧
      (((s.setTc t c).endRead t res).tc t).st = .ready ∧ (((s.setTc t c).endRead t res).tc t).pos = c.pos := by
  obtain ⟨ended, st, pos, -⟩ := endRead_ends (s := s.setTc t c) (t := t) (r := r) (by rw [State.setTc_tc]; exact job) res
  rw [State.setTc_mtb, State.setTc_free, State.setTc_tc] at ended
  rw [State.setTc_tc] at pos
  exact ⟨jobEnded_of_local ((Local.refl t s).setTc c) (State.setTc_lnk ..) ended, st, pos⟩

end

/-! ## A frame of a reading (R82, R83, R136, R146, R147) -/

section
variable {s : State} {t : Tr} {r : ReadJob}

theorem opOf_setTc (s : State) (t : Tr) (c : Tc) : (s.setTc t c).opOf t = s.opOf t := by
  cases t <;> rfl

/-- The controller of a reading that has skipped one frame more (R82). -/
def skippedTc (c : Tc) (r : ReadJob) (raw : RawFrame) (pos : Nat) : Tc :=
  { c with pos := some pos, job := some (.read (ReadJob.skipOne { r with framesRead := r.framesRead + 1 } raw)) }

/-- The controller with a frame counted toward the governor's evaluations (R136). -/
def frameCounted (c : Tc) : Tc := { c with gov := c.gov.countFrame false c.blockQ.length }

theorem countedTc_plain {c : Tc} (plain : HeadPlain c.blockQ) (r : ReadJob) : countedTc c r = frameCounted c := by
  unfold countedTc frameCounted
  rw [takeHeads_plain plain]

/-- The reading ends behind an event that leaves the controller c (R147). -/
theorem afterFrame_over {c : Tc} (job : c.job = some (.read r)) (plain : HeadPlain c.blockQ) (res : JobResult) :
    (s.setTc t c).afterFrame t (some res) = (s.setTc t (readingOver (frameCounted c) r res)).readPump t := by
  rw [afterFrame_stops (r := r) (by rw [State.setTc_tc]; exact job), State.setTc_tc, setTc_setTc, countedTc_plain plain]

/-- The reading goes on behind an event that leaves the controller c: a hitch at 32 entries (R139). -/
theorem afterFrame_on {c : Tc} (job : c.job = some (.read r)) (plain : HeadPlain c.blockQ) (still : c.st ≠ .waiting)
    (running : r.ended = none) (short : r.short = none) (no_compare : r.isCompare = false) :
    (s.setTc t c).afterFrame t none =
      if 32 ≤ c.blockQ.length then
        s.setTc t (Tc.goto { frameCounted c with job := some (.read { r with hitches := r.hitches + 1 }) } .hitch)
      else s.setTc t (frameCounted c) := by
  have goes := afterFrame_goes (s := s.setTc t c) (t := t) (r := r) (by rw [State.setTc_tc]; exact job)
  rw [State.setTc_tc, setTc_setTc, setTc_setTc, countedTc_plain plain] at goes
  rw [goes]
  split
  next full =>
    rw [if_pos (show 32 ≤ c.blockQ.length from full)]
    refine readPump_stays (r := { r with hitches := r.hitches + 1 }) ?_ ?_ short (.inl no_compare) (.inl ⟨running, ?_⟩)
    all_goals rw [State.setTc_tc]
    · exact Tc.goto_job ..
    · rw [goto_eq]
      exact plain
    · rw [Tc.goto_st]
      decide
  next room =>
    rw [if_neg (show ¬32 ≤ c.blockQ.length from room)]
    refine readPump_stays (r := r) ?_ ?_ short (.inl no_compare) (.inl ⟨running, ?_⟩)
    all_goals rw [State.setTc_tc]
    · exact job
    · exact plain
    · exact still

theorem readOne_lost (reading : (s.tc t).st = .reading) (job : (s.tc t).job = some (.read r)) {raw : RawFrame}
    (lost : readFrame raw = none) {p : Nat} (pos : (s.tc t).pos = some p) :
    s.readOne t raw =
      if 64 ≤ r.skip + 1 then (s.setTc t (frameCounted (skippedTc (s.tc t) r raw (p + 1)))).readFault t
      else (s.setTc t (skippedTc (s.tc t) r raw (p + 1))).afterFrame t none := by
  have seen : readSeen (s.tc t) r raw =
      { s.tc t with pos := some (p + 1), job := some (.read { r with framesRead := r.framesRead + 1 }) } := by
    unfold readSeen
    rw [passed_lost lost pos]
  rw [readOne_eq reading job, classify_lost lost, seen]
  dsimp only
  rw [modRead_of_read (r := { r with framesRead := r.framesRead + 1 }) (by rw [State.setTc_tc]), State.setTc_tc, setTc_setTc,
    modTc_eq, State.setTc_tc, setTc_setTc]
  rfl

theorem readOne_endOfData (reading : (s.tc t).st = .reading) (job : (s.tc t).job = some (.read r)) {raw : RawFrame} {f : ReadFrame}
    (ends : classify r.x raw = .endOfData f) :
    s.readOne t raw = (s.setTc t { s.tc t with
      pos := some (f.hdr.frame + 1), job := some (.read { r with framesRead := r.framesRead + 1 }) }).afterFrame t (some r.atEnd) := by
  have seen : readSeen (s.tc t) r raw =
      { s.tc t with pos := some (f.hdr.frame + 1), job := some (.read { r with framesRead := r.framesRead + 1 }) } := by
    unfold readSeen
    rw [passed_header (classify_endOfData ends)]
  rw [readOne_eq reading job, ends, seen]

/-- The controller of a reading that has accepted a frame (R146). -/
def acceptedTc (c : Tc) (r : ReadJob) (f : ReadFrame) (mark : Bool) (watch : WatchPoint) : Tc :=
  { c with
    pos := some (f.hdr.frame + 1)
    blockQ := c.blockQ ++ [f.entry mark r.pendingGaps]
    job := some (.read (ReadJob.take { r with framesRead := r.framesRead + 1 } f mark))
    watch := watch }

theorem readSeen_header {raw : RawFrame} {f : ReadFrame} (read : readFrame raw = some f) (c : Tc) (r : ReadJob) :
    readSeen c r raw =
      { c with pos := some (f.hdr.frame + 1), job := some (.read { r with framesRead := r.framesRead + 1 }) } := by
  unfold readSeen
  rw [passed_header read]

/-- An acceptance leaves the record's map, the watch point and its notices, and the controller with the entry (R146). -/
theorem readOne_accepted (reading : (s.tc t).st = .reading) (job : (s.tc t).job = some (.read r)) {raw : RawFrame} {f : ReadFrame}
    {mark : Bool} (accepted : classify r.x raw = .accepted f mark) :
    ∃ v watch, v.tc t = acceptedTc (s.tc t) r f mark watch ∧
      s.readOne t raw =
        v.afterFrame t ((ReadJob.take { r with framesRead := r.framesRead + 1 } f mark).endsAt mark) ∧
      ((s.tc t).watch = .off →
        v = State.setTc { s with mtb := acceptedMtb s.mtb t f mark } t (acceptedTc (s.tc t) r f mark .off)) := by
  have read := (classify_accepted accepted).1
  obtain ⟨c, hc⟩ : ∃ c : Tc, { s.tc t with
    pos := some (f.hdr.frame + 1), job := some (.read { r with framesRead := r.framesRead + 1 }) } = c := ⟨_, rfl⟩
  have running : ((s.setTc t c).tc t).job = some (.read { r with framesRead := r.framesRead + 1 }) := by
    rw [State.setTc_tc, ← hc]
  obtain ⟨watch, left⟩ := acceptFrame_tc (r := r) running f mark
  rw [State.setTc_tc] at left
  refine ⟨(s.setTc t c).acceptFrame t r f mark, watch, ?_, ?_, fun off => ?_⟩
  · rw [left, ← hc]
    rfl
  · rw [readOne_eq reading job, accepted, readSeen_header read, hc]
    dsimp only
    rw [readJob_of_job (by rw [left]), Option.bind_some]
  · have still : (((s.setTc t { (s.setTc t c).tc t with
        blockQ := ((s.setTc t c).tc t).blockQ ++ [f.entry mark r.pendingGaps]
        job := some (.read (ReadJob.take { r with framesRead := r.framesRead + 1 } f mark)) }).learn t f.info mark).tc t).watch = .off := by
      rw [learn_tc, State.setTc_tc, State.setTc_tc, ← hc]
      exact off
    obtain ⟨m, hm⟩ : ∃ m, acceptedMtb s.mtb t f mark = m := ⟨_, rfl⟩
    rw [acceptFrame_eq running, setTc_setTc, watchTest_off still, learn_eq, State.setTc_mtb, hm, relearned, State.setTc_tc, ← hc]
    unfold acceptedTc
    dsimp only
    rw [off]

/-! ## A read fault (R83, R147, R160) -/

theorem readFault_restore (job : (s.tc t).job = some (.read r)) (restore : r.isRestore = true) :
    s.readFault t = (s.setTc t (readingOver (s.tc t) { r with readFault := some r.x } .readFault)).readPump t := by
  unfold State.readFault
  rw [readJob_of_job job]
  dsimp only
  rw [if_pos restore, modRead_of_read job, endReading_eq (r := { r with readFault := some r.x }) (by rw [State.setTc_tc]),
    State.setTc_tc, setTc_setTc]
  rfl

theorem readFault_verify (job : (s.tc t).job = some (.read r)) (verify : r.isRestore = false) :
    s.readFault t =
      match r.unreadable.past.endsAt false with
      | some res => (s.setTc t (readingOver (s.tc t) r.unreadable res)).readPump t
      | none =>
        if r.resynced then (s.setTc t (readingOver (s.tc t) r.unreadable .readFault)).readPump t
        else (s.setTc t { Tc.goto { s.tc t with job := some (.read r.unreadable.resync) } .locating with
          locate := some r.unreadable.resyncLocate }).readPump t := by
  have over_ : ∀ res, (s.setTc t { s.tc t with job := some (.read r.unreadable) }).endReading t res =
      s.setTc t (readingOver (s.tc t) r.unreadable res) := fun res => by
    rw [endReading_eq (r := r.unreadable) (by rw [State.setTc_tc]), State.setTc_tc, setTc_setTc]
    rfl
  unfold State.readFault
  rw [readJob_of_job job]
  dsimp only
  rw [verify, if_neg Bool.false_ne_true, modRead_of_read job, modRead_of_read (r := r.unreadable) (by rw [State.setTc_tc]),
    State.setTc_tc, setTc_setTc, modTc_eq, State.setTc_tc, setTc_setTc]
  cases r.unreadable.past.endsAt false with
  | some res =>
    dsimp only
    rw [over_]
  | none =>
    dsimp only
    rw [over_]

end

theorem readingRead_runs {s : State} {t : Tr} {raw : RawFrame} {u : State} (read : s.readOne t raw = u) :
    Runs (.readingFrameRead t raw) s u :=
  runs_of_eq (v := s.readOne t raw) rfl read

/-! ## The ends of a reading -/

section
variable {s : State} {t : Tr} {r : ReadJob}

/-- A reading that ends with nothing left to deliver ends its job (R147, R152, R161). -/
theorem readingOver_ends {c : Tc} {res : JobResult} (short : r.short = none) (gaps : r.pendingGaps = [])
    (queue : c.blockQ = []) (delivery : c.delivery = []) (unpaired : r.isCompare = false) (free : s.opOf t = false) :
    let u := (s.setTc t (readingOver c r res)).readPump t
    (u.tc t).st = .ready ∧ (u.tc t).pos = c.pos ∧
      JobEnded t (Job.kind (.read r)) (ReadJob.result { r with ended := some res })
        (reportOf u (s.mtb.get (.bay t)) s.free (.read (ReadJob.leave { r with ended := some res } c.intake))
          (ReadJob.result { r with ended := some res })) s u := by
  obtain ⟨gov, -, parts⟩ := readingOver_parts c r res
  obtain ⟨d, hd⟩ : ∃ d, readingOver c r res = d := ⟨_, rfl⟩
  rw [hd] at parts
  have job : d.job = some (.read { r with ended := some res }) := by rw [parts]
  have pumped := readPump_ends (s := s.setTc t d) (t := t) (r := { r with ended := some res }) (e := res)
    (by rw [State.setTc_tc]; exact job) rfl short gaps (by rw [State.setTc_tc, parts]; exact queue)
    (by rw [State.setTc_tc, parts]; exact delivery) (.inl unpaired) (by rw [opOf_setTc]; exact free)
  obtain ⟨ended, st, pos⟩ := endRead_after (s := s) (t := t) job (ReadJob.result { r with ended := some res })
  dsimp only
  have at_ : d.pos = c.pos := by rw [parts]
  have left : d.intake = c.intake := by rw [parts]
  rw [left] at ended
  rw [hd, pumped]
  exact ⟨st, pos.trans at_, ended⟩

end

end Sys2Proof.Proofs
end

section
/-! PROOFS. Reading in address order (O58), clause by clause. -/

open Sys2Proof Sys2Proof.Machine Sys2Proof.Claims

namespace Sys2Proof.Proofs

-- One declaration at a time: elaborated in parallel, the joined text needs more threads than the memory limit holds.
set_option Elab.async false

section
variable {s : State} {t : Tr} {r : ReadJob} {raw : RawFrame} {f : ReadFrame}

/-! ## A restore of all data (R146 to R149) -/

theorem skipOne_lost (lost : readFrame raw = none) (r : ReadJob) :
    r.skipOne raw = { r with skip := r.skip + 1, countedSkips := r.countedSkips + 1 } := by
  unfold ReadJob.skipOne seenLength
  rw [lost]

theorem reading_skips (reading : (s.tc t).st = .reading) (job : (s.tc t).job = some (.read r)) {offset : Nat} {stop : RestoreEnd}
    (spec : r.spec = .restore offset stop) (running : r.ended = none) (short : r.short = none) {p : Nat} (pos : (s.tc t).pos = some p)
    (queue : (s.tc t).blockQ = []) (lost : readFrame raw = none) (more : r.skip + 1 < 64) :
    s.readOne t raw = s.setTc t { s.tc t with
      pos := some (p + 1)
      job := some (.read { r with
        framesRead := r.framesRead + 1, countedSkips := r.countedSkips + 1, skip := r.skip + 1 })
      gov := (s.tc t).gov.countFrame false 0 } := by
  have skipped : skippedTc (s.tc t) r raw (p + 1) = { s.tc t with
      pos := some (p + 1)
      job := some (.read { r with
        framesRead := r.framesRead + 1, countedSkips := r.countedSkips + 1, skip := r.skip + 1 }) } := by
    unfold skippedTc
    rw [skipOne_lost lost]
  have still : (s.tc t).st ≠ .waiting := by rw [reading]; decide
  have room : ¬32 ≤ (s.tc t).blockQ.length := by rw [queue]; decide
  rw [readOne_lost reading job lost pos, if_neg (Nat.not_le.mpr more),
    afterFrame_on (c := skippedTc (s.tc t) r raw (p + 1)) (r := ReadJob.skipOne { r with framesRead := r.framesRead + 1 } raw) rfl
      (.inl queue) still running short (not_compare_of_restore spec).1, skipped, if_neg room]
  unfold frameCounted
  dsimp only
  rw [queue]
  rfl

theorem reading_faults (reading : (s.tc t).st = .reading) (job : (s.tc t).job = some (.read r)) {offset : Nat} {stop : RestoreEnd}
    (spec : r.spec = .restore offset stop) (short : r.short = none) (gaps : r.pendingGaps = []) (not_mark : r.atMark = false)
    {p : Nat} (pos : (s.tc t).pos = some p) (queue : (s.tc t).blockQ = []) (delivery : (s.tc t).delivery = [])
    (free : s.opOf t = false) (lost : readFrame raw = none) (last : 64 ≤ r.skip + 1) :
    ∃ u, s.readOne t raw = u ∧ (u.tc t).st = .ready ∧ (u.tc t).pos = some (p + 1) ∧
      JobEnded t .restore .readFault
        (reportOf u (s.mtb.get (.bay t)) s.free
          (.read { r with framesRead := r.framesRead + 1, countedSkips := r.countedSkips + 1, readFault := some r.x }) .readFault)
        s u := by
  obtain ⟨no_compare, restore⟩ := not_compare_of_restore spec
  obtain ⟨r', hr⟩ : ∃ r' : ReadJob, { r with
    framesRead := r.framesRead + 1, countedSkips := r.countedSkips + 1, skip := r.skip + 1 } = r' := ⟨_, rfl⟩
  have skipped : ReadJob.skipOne { r with framesRead := r.framesRead + 1 } raw = r' := by
    rw [skipOne_lost lost, ← hr]
  obtain ⟨c, hc⟩ : ∃ c, frameCounted (skippedTc (s.tc t) r raw (p + 1)) = c := ⟨_, rfl⟩
  have at_ : c.pos = some (p + 1) := by rw [← hc]; rfl
  have running : c.job = some (.read r') := by rw [← hc, ← skipped]; rfl
  have frame : s.readOne t raw = (s.setTc t (readingOver c { r' with readFault := some r'.x } .readFault)).readPump t := by
    rw [readOne_lost reading job lost pos, if_pos last, hc,
      readFault_restore (r := r') (by rw [State.setTc_tc]; exact running) (by rw [← hr]; exact restore), State.setTc_tc, setTc_setTc]
  have ends := readingOver_ends (s := s) (t := t) (r := { r' with readFault := some r'.x }) (c := c) (res := .readFault)
    (by rw [← hr]; exact short) (by rw [← hr]; exact gaps) (by rw [← hc]; exact queue) (by rw [← hc]; exact delivery)
    (by rw [← hr]; exact no_compare) free
  dsimp only at ends
  obtain ⟨st, place, ended⟩ := ends
  obtain ⟨u, hu⟩ : ∃ u, (s.setTc t (readingOver c { r' with readFault := some r'.x } .readFault)).readPump t = u := ⟨_, rfl⟩
  rw [hu] at st place ended frame
  have result : ReadJob.result { r' with readFault := some r'.x, ended := some .readFault } = .readFault := by
    unfold ReadJob.result
    rw [← hr]
    dsimp only
    rw [not_mark]
    rfl
  have kind : Job.kind (.read { r' with readFault := some r'.x }) = .restore := by
    rw [← hr]
    unfold Job.kind
    dsimp only
    rw [spec]
  rw [result, kind, reportOf_restore_congr (r := { r with
    framesRead := r.framesRead + 1, countedSkips := r.countedSkips + 1, readFault := some r.x }) spec (by rw [← hr]; rfl)
    (by rw [← hr]; rfl) (by rw [← hr]; rfl) (fun a x => by rw [← hr]; rfl)] at ended
  exact ⟨u, frame, st, place.trans at_, ended⟩

/-- End of data ends a restore with nothing left to deliver (R147, R152, R162). -/
theorem reading_endOfData (reading : (s.tc t).st = .reading) (job : (s.tc t).job = some (.read r)) {offset : Nat} {stop : RestoreEnd}
    (spec : r.spec = .restore offset stop) (short : r.short = none) (gaps : r.pendingGaps = []) (queue : (s.tc t).blockQ = [])
    (delivery : (s.tc t).delivery = []) (free : s.opOf t = false) (ends : classify r.x raw = .endOfData f) :
    ∃ u, s.readOne t raw = u ∧ (u.tc t).st = .ready ∧ (u.tc t).pos = some (f.hdr.frame + 1) ∧
      JobEnded t .restore (ReadJob.result { r with ended := some r.atEnd })
        (reportOf u (s.mtb.get (.bay t)) s.free
          (.read { r with framesRead := r.framesRead + 1, ended := some r.atEnd }) (ReadJob.result { r with ended := some r.atEnd }))
        s u := by
  obtain ⟨no_compare, restore⟩ := not_compare_of_restore spec
  obtain ⟨c, hc⟩ : ∃ c : Tc, { s.tc t with
    pos := some (f.hdr.frame + 1), job := some (.read { r with framesRead := r.framesRead + 1 }) } = c := ⟨_, rfl⟩
  obtain ⟨d, hd⟩ : ∃ d, frameCounted c = d := ⟨_, rfl⟩
  have frame : s.readOne t raw =
      (s.setTc t (readingOver d { r with framesRead := r.framesRead + 1 } r.atEnd)).readPump t := by
    rw [readOne_endOfData reading job ends, hc,
      afterFrame_over (c := c) (r := { r with framesRead := r.framesRead + 1 }) (by rw [← hc]) (.inl (by rw [← hc]; exact queue)), hd]
  have left := readingOver_ends (s := s) (t := t) (r := { r with framesRead := r.framesRead + 1 }) (c := d) (res := r.atEnd) short gaps
    (by rw [← hd, ← hc]; exact queue) (by rw [← hd, ← hc]; exact delivery) no_compare free
  dsimp only at left
  obtain ⟨st, place, ended⟩ := left
  obtain ⟨u, hu⟩ : ∃ u, (s.setTc t (readingOver d { r with framesRead := r.framesRead + 1 } r.atEnd)).readPump t = u := ⟨_, rfl⟩
  rw [hu] at st place ended frame
  have at_ : d.pos = some (f.hdr.frame + 1) := by rw [← hd, ← hc]; rfl
  have kind : Job.kind (.read { r with framesRead := r.framesRead + 1 }) = .restore := by
    unfold Job.kind
    dsimp only
    rw [spec]
  obtain ⟨res, hres⟩ : ∃ res, ReadJob.result { r with framesRead := r.framesRead + 1, ended := some r.atEnd } = res := ⟨_, rfl⟩
  have same : ReadJob.result { r with ended := some r.atEnd } = res := hres
  rw [hres, kind, reportOf_restore_congr (r := { r with framesRead := r.framesRead + 1, ended := some r.atEnd })
    (r' := ReadJob.leave { r with framesRead := r.framesRead + 1, ended := some r.atEnd } d.intake) spec rfl rfl rfl
    (fun _ _ => rfl)] at ended
  rw [same]
  exact ⟨u, frame, st, place.trans at_, ended⟩

/-- An ABORT AT_MARK decides the result of a reading that ends as usual (R162; log entry 27). -/
theorem result_atMark (at_mark : r.atMark = true) {res : JobResult} (no_fault : res ≠ .restoreFault) :
    ReadJob.result { r with ended := some res } = .aborted := by
  unfold ReadJob.result
  dsimp only
  rw [at_mark]
  split
  next h => exact absurd (Option.some.inj h) no_fault
  next h => rfl
  next h => cases h

theorem result_faultless (not_mark : r.atMark = false) (none_found : r.faultCount = 0) (res : JobResult) :
    ReadJob.result { r with ended := some res } = res := by
  unfold ReadJob.result
  dsimp only
  rw [not_mark, none_found]
  split
  next h => exact (Option.some.inj h).symm
  next h =>
    rw [if_neg Bool.false_ne_true, if_neg fun h => absurd h.2 (Nat.lt_irrefl 0)]
    exact (Option.some.inj h).symm
  next h => cases h

/-- A restore that ends OK has no resume point, whatever has ended its reading (log entry 28). -/
theorem restoreLayout_ok (r : ReadJob) : restoreLayout { r with ended := some .ok } .ok = restoreLayout r .ok := by
  unfold restoreLayout
  dsimp only
  rw [if_pos (.inl rfl), if_pos (.inl rfl)]

/-! ## Acceptances (R139, R146, R147, R149) -/

/-- A restore to the end of data that its end bound does not meet at a frame reads on behind it. -/
theorem endsAt_toEod {offset : Nat} (spec : r.spec = .restore offset .toEod) (not_mark : r.atMark = false)
    (bound : r.bound ≠ some (f.hdr.addr + 1)) (mark : Bool) :
    (ReadJob.take { r with framesRead := r.framesRead + 1 } f mark).endsAt mark = none := by
  obtain ⟨_, _, _, _, _, shape⟩ := take_eq { r with framesRead := r.framesRead + 1 } f mark
  obtain ⟨r', hr⟩ : ∃ r', ReadJob.take { r with framesRead := r.framesRead + 1 } f mark = r' := ⟨_, rfl⟩
  rw [hr] at shape ⊢
  have spec' : r'.spec = .restore offset .toEod := by rw [shape]; exact spec
  have not_met : r'.meets mark ≠ true := fun met => by
    obtain ⟨n, h, -⟩ | ⟨h, -⟩ := (restore_meets spec' mark).mp met
    · cases h
    · cases h
  have none_marked : (r'.atMark && mark) = false := by
    rw [shape]
    dsimp only
    rw [not_mark]
    rfl
  rw [endsAt_mark not_met (by rw [shape]; exact bound), none_marked, if_neg Bool.false_ne_true]

theorem reading_accepts_block (reading : (s.tc t).st = .reading) (job : (s.tc t).job = some (.read r)) {offset : Nat}
    (spec : r.spec = .restore offset .toEod) (running : r.ended = none) (not_mark : r.atMark = false) (short : r.short = none)
    (gaps : r.pendingGaps = []) (off : (s.tc t).watch = .off) (plain : HeadPlain (s.tc t).blockQ) (room : (s.tc t).blockQ.length < 32)
    (accepted : classify r.x raw = .accepted f false) (bound : r.bound ≠ some (f.hdr.addr + 1)) :
    ∃ u r', s.readOne t raw = u ∧ (u.tc t).blockQ = (s.tc t).blockQ ++ [.readBlock f.info f.block []] ∧
      (u.tc t).st = (if (s.tc t).blockQ.length + 1 = 32 then .hitch else .reading) ∧ (u.tc t).pos = some (f.hdr.frame + 1) ∧
      (u.tc t).job = some (.read r') ∧ r'.x = f.hdr.addr + 1 ∧ r'.skip = 0 ∧ r'.accepted = r.accepted + 1 ∧
      r'.blocksAccepted = r.blocksAccepted + 1 ∧ r'.framesRead = r.framesRead + 1 ∧ u.mtb = s.mtb := by
  obtain ⟨v, watch, -, frame, exact_⟩ := readOne_accepted reading job accepted
  obtain ⟨_, _, _, _, _, shape⟩ := take_eq { r with framesRead := r.framesRead + 1 } f false
  obtain ⟨r', hr⟩ : ∃ r', ReadJob.take { r with framesRead := r.framesRead + 1 } f false = r' := ⟨_, rfl⟩
  obtain ⟨c, hc⟩ : ∃ c, acceptedTc (s.tc t) r f false .off = c := ⟨_, rfl⟩
  have entry : f.entry false r.pendingGaps = .readBlock f.info f.block [] := by
    unfold ReadFrame.entry
    rw [gaps, if_neg Bool.false_ne_true]
  have queue : c.blockQ = (s.tc t).blockQ ++ [.readBlock f.info f.block []] := by
    rw [← hc, ← entry]
    rfl
  have plain' : HeadPlain c.blockQ := by
    rw [queue]
    obtain h | ⟨i, b, rest, h⟩ := plain
    · rw [h]
      exact .inr ⟨_, _, _, rfl⟩
    · rw [h]
      exact .inr ⟨_, _, _, rfl⟩
  have spec' : r'.spec = .restore offset .toEod := by rw [← hr, shape]; exact spec
  have st : c.st = .reading := by rw [← hc]; exact reading
  have left : s.readOne t raw = if 32 ≤ c.blockQ.length then
      s.setTc t (Tc.goto { frameCounted c with job := some (.read { r' with hitches := r'.hitches + 1 }) } .hitch)
      else s.setTc t (frameCounted c) := by
    rw [frame, endsAt_toEod spec not_mark bound, exact_ off, hc]
    show (s.setTc t c).afterFrame t none = _
    exact afterFrame_on (r := r') (by rw [← hc, ← hr]; rfl) plain' (by rw [st]; decide) (by rw [← hr, shape]; exact running)
      (by rw [← hr, shape]; exact short) (not_compare_of_restore spec').1
  have length : c.blockQ.length = (s.tc t).blockQ.length + 1 := by
    rw [queue, List.length_append]
    rfl
  rw [hr] at shape
  by_cases full : (s.tc t).blockQ.length + 1 = 32
  · rw [if_pos (Nat.le_of_eq (length.trans full).symm)] at left
    refine ⟨_, { r' with hitches := r'.hitches + 1 }, left, ?_⟩
    rw [State.setTc_tc, State.setTc_mtb, goto_eq, if_pos full, shape]
    exact ⟨queue, rfl, by rw [← hc]; rfl, rfl, rfl, rfl, rfl, rfl, rfl, rfl⟩
  · rw [if_neg (by omega)] at left
    refine ⟨_, r', left, ?_⟩
    rw [State.setTc_tc, State.setTc_mtb, if_neg full, shape]
    exact ⟨queue, st, by rw [← hc]; rfl, by rw [← shape, ← hr, ← hc]; rfl, rfl, rfl, rfl, rfl, rfl, rfl⟩

theorem takeHeads_mark (restore : Bool) (i : ReadInfo) (d : List DItem) :
    Machine.takeHeads restore [.readMark i []] d = ([], if restore then closeFilling d ++ [.mark] else d) := by
  unfold Machine.takeHeads
  dsimp only
  rw [List.map_nil, List.append_nil]
  rfl

theorem entry_mark (f : ReadFrame) (gaps : List Gap) : f.entry true gaps = .readMark f.info gaps := if_pos rfl

theorem entry_block (f : ReadFrame) (gaps : List Gap) : f.entry false gaps = .readBlock f.info f.block gaps :=
  if_neg Bool.false_ne_true

theorem reading_accepts_mark (reading : (s.tc t).st = .reading) (job : (s.tc t).job = some (.read r)) {offset : Nat}
    (spec : r.spec = .restore offset .toEod) (running : r.ended = none) (not_mark : r.atMark = false) (short : r.short = none)
    (gaps : r.pendingGaps = []) (off : (s.tc t).watch = .off) (queue : (s.tc t).blockQ = [])
    (accepted : classify r.x raw = .accepted f true) (bound : r.bound ≠ some (f.hdr.addr + 1)) :
    ∃ u r', s.readOne t raw = u ∧ (u.tc t).st = .reading ∧ (u.tc t).blockQ = [] ∧
      (u.tc t).delivery = closeFilling (s.tc t).delivery ++ [.mark] ∧ (u.tc t).job = some (.read r') ∧
      r'.x = f.hdr.addr + 1 ∧ r'.marksAccepted = r.marksAccepted + 1 ∧
      u.mtb = markLearned s.mtb t f.hdr.addr f.hdr.file f.hdr.frame := by
  obtain ⟨v, watch, -, frame, exact_⟩ := readOne_accepted reading job accepted
  obtain ⟨_, _, _, _, _, shape⟩ := take_eq { r with framesRead := r.framesRead + 1 } f true
  obtain ⟨r', hr⟩ : ∃ r', ReadJob.take { r with framesRead := r.framesRead + 1 } f true = r' := ⟨_, rfl⟩
  obtain ⟨c, hc⟩ : ∃ c, acceptedTc (s.tc t) r f true .off = c := ⟨_, rfl⟩
  obtain ⟨w, hw⟩ : ∃ w : State, { s with mtb := acceptedMtb s.mtb t f true } = w := ⟨_, rfl⟩
  have one : c.blockQ = [.readMark f.info []] := by
    rw [← hc, ← gaps, ← entry_mark]
    show (s.tc t).blockQ ++ _ = _
    rw [queue]
    rfl
  have spec' : r'.spec = .restore offset .toEod := by rw [← hr, shape]; exact spec
  obtain ⟨no_compare, restore⟩ := not_compare_of_restore spec'
  have st : c.st = .reading := by rw [← hc]; exact reading
  have jobc : c.job = some (.read r') := by rw [← hc, ← hr]; rfl
  obtain ⟨d, hd⟩ : ∃ d, countedTc c r' = d := ⟨_, rfl⟩
  have taken : d.blockQ = [] ∧ d.delivery = closeFilling (s.tc t).delivery ++ [.mark] := by
    rw [← hd]
    unfold countedTc
    rw [one, takeHeads_mark, restore, ← hc]
    exact ⟨rfl, rfl⟩
  have same : d.st = .reading ∧ d.job = some (.read r') := by
    rw [← hd]
    exact ⟨st, jobc⟩
  have left : s.readOne t raw = w.setTc t d := by
    rw [frame, endsAt_toEod spec not_mark bound, exact_ off, hc, hw]
    show (w.setTc t c).afterFrame t none = _
    rw [afterFrame_goes (r := r') (by rw [State.setTc_tc]; exact jobc), State.setTc_tc, hd, taken.1,
      if_neg (by decide), setTc_setTc]
    refine readPump_stays (r := r') ?_ ?_ (by rw [← hr, shape]; exact short) (.inl no_compare)
      (.inl ⟨by rw [← hr, shape]; exact running, ?_⟩)
    all_goals rw [State.setTc_tc]
    · exact same.2
    · exact .inl taken.1
    · rw [same.1]
      decide
  rw [hr] at shape
  refine ⟨_, r', left, ?_⟩
  rw [State.setTc_tc, State.setTc_mtb]
  refine ⟨same.1, taken.1, taken.2, same.2, by rw [shape], by rw [shape]; rfl, ?_⟩
  rw [← hw]
  rfl

/-! ## The acceptance that ends a reading (R84, R147, R154, R162) -/

/-- What decides the end of a reading at an acceptance, in the words of O58. -/
def EndsWith (r : ReadJob) (f : ReadFrame) (mark : Bool) (res : JobResult) : Prop :=
  (∃ offset stop met, r.spec = .restore offset stop ∧
    met = ((∃ n, stop = .count n ∧ n.toNat ≤ r.accepted + 1) ∨ (stop = .toMark ∧ mark = true)) ∧
    ((met ∧ res = .ok) ∨
      (¬met ∧ r.bound = some (f.hdr.addr + 1) ∧ res = if stop = .toEod then .ok else .endOfData) ∨
      (¬met ∧ r.bound ≠ some (f.hdr.addr + 1) ∧ r.atMark = true ∧ mark = true ∧ res = .aborted))) ∨
  (mark = false ∧ ∃ a range mode policy met, r.spec = .verify a range mode policy ∧
    met = (∃ n, range = .count n ∧ a + n.toNat ≤ f.hdr.addr + 1) ∧
    ((met ∧ res = .ok) ∨
      (¬met ∧ r.bound = some (f.hdr.addr + 1) ∧ res = if range = .toEod then .ok else .endOfData)))

theorem endsAt_accepted {mark : Bool} {res : JobResult} (ends : EndsWith r f mark res) :
    (ReadJob.take { r with framesRead := r.framesRead + 1 } f mark).endsAt mark = some res := by
  obtain ⟨_, _, _, _, _, shape⟩ := take_eq { r with framesRead := r.framesRead + 1 } f mark
  obtain ⟨r', hr⟩ : ∃ r', ReadJob.take { r with framesRead := r.framesRead + 1 } f mark = r' := ⟨_, rfl⟩
  rw [hr] at shape ⊢
  have spec' : r'.spec = r.spec := by rw [shape]
  have accepted : r'.accepted = r.accepted + 1 := by rw [shape]
  have next : r'.x = f.hdr.addr + 1 := by rw [shape]
  have bound' : r'.bound = r.bound := by rw [shape]
  have at_mark : r'.atMark = r.atMark := by rw [shape]
  obtain ⟨offset, stop, met, spec, rfl, outcome⟩ | ⟨rfl, a, range, mode, policy, met, spec, rfl, outcome⟩ := ends
  · have meets := restore_meets (spec'.trans spec) mark
    rw [accepted] at meets
    obtain ⟨met, rfl⟩ | ⟨not_met, bound, rfl⟩ | ⟨not_met, bound, aborts, rfl, rfl⟩ := outcome
    · exact endsAt_met (meets.mpr met)
    · rw [endsAt_bound (fun h => not_met (meets.mp h)) (by rw [bound', next]; exact bound), restore_atEnd (spec'.trans spec)]
    · rw [endsAt_mark (fun h => not_met (meets.mp h)) (by rw [bound', next]; exact bound), at_mark, aborts]
      rfl
  · have meets := verify_meets (spec'.trans spec) false
    rw [next] at meets
    obtain ⟨met, rfl⟩ | ⟨not_met, bound, rfl⟩ := outcome
    · exact endsAt_met (meets.mpr met)
    · rw [endsAt_bound (fun h => not_met (meets.mp h)) (by rw [bound', next]; exact bound), verify_atEnd (spec'.trans spec)]

theorem reading_stops {mark : Bool} {res : JobResult} (reading : (s.tc t).st = .reading) (job : (s.tc t).job = some (.read r))
    (short : r.short = none) (gaps : r.pendingGaps = []) (queue : (s.tc t).blockQ = []) (delivery : (s.tc t).delivery = [])
    (intake : (s.tc t).intake = []) (accepted : classify r.x raw = .accepted f mark) (ends : EndsWith r f mark res) :
    ∃ u r', s.readOne t raw = u ∧ (u.tc t).st = .waiting ∧ (u.tc t).pos = some (f.hdr.frame + 1) ∧
      (u.tc t).job = some (.read r') ∧ r'.ended = some res ∧ r'.x = f.hdr.addr + 1 ∧ r'.accepted = r.accepted + 1 ∧
      (u.tc t).blockQ = (if mark then [] else [.readBlock f.info f.block []]) ∧
      (u.tc t).delivery = (if mark then [.mark] else []) := by
  obtain ⟨v, watch, left, frame, -⟩ := readOne_accepted reading job accepted
  obtain ⟨_, _, _, _, _, shape⟩ := take_eq { r with framesRead := r.framesRead + 1 } f mark
  rw [endsAt_accepted ends] at frame
  obtain ⟨r', hr⟩ : ∃ r', ReadJob.take { r with framesRead := r.framesRead + 1 } f mark = r' := ⟨_, rfl⟩
  have running : (v.tc t).job = some (.read r') := by rw [left, ← hr]; rfl
  rw [hr] at shape
  obtain ⟨d, hd⟩ : ∃ d, countedTc (v.tc t) r' = d := ⟨_, rfl⟩
  obtain ⟨gov, -, parts⟩ := readingOver_parts d r' res
  obtain ⟨e, he⟩ : ∃ e, readingOver d r' res = e := ⟨_, rfl⟩
  rw [he] at parts
  rw [afterFrame_stops running, hd, he] at frame
  have one : (v.tc t).blockQ = [f.entry mark []] ∧ (v.tc t).delivery = [] := by
    rw [left]
    unfold acceptedTc
    dsimp only
    rw [queue, gaps]
    exact ⟨rfl, delivery⟩
  have heads : d.blockQ = (if mark then [] else [.readBlock f.info f.block []]) ∧
      d.delivery = (if mark ∧ r'.isRestore = true then [.mark] else []) := by
    rw [← hd]
    unfold countedTc
    rw [one.1, one.2]
    cases mark with
    | false =>
      rw [entry_block]
      exact ⟨rfl, rfl⟩
    | true =>
      rw [entry_mark, takeHeads_mark]
      cases r'.isRestore <;> exact ⟨rfl, rfl⟩
  have place : d.pos = some (f.hdr.frame + 1) ∧ d.intake = [] := by
    rw [← hd]
    unfold countedTc
    rw [left]
    exact ⟨rfl, intake⟩
  have jobe : e.job = some (.read { r' with ended := some res }) := by rw [parts]
  have short' : r'.short = none := by rw [shape]; exact short
  have gaps' : r'.pendingGaps = [] := by rw [shape]
  have restores : mark = true → r'.isRestore = true := fun at_mark => by
    obtain ⟨offset, stop, met, spec, -⟩ | ⟨no_mark, -⟩ := ends
    · exact (not_compare_of_restore (offset := offset) (stop := stop) (by rw [shape]; exact spec)).2
    · rw [at_mark] at no_mark
      cases no_mark
  have queued : d.delivery = (if mark then [.mark] else []) := by
    rw [heads.2]
    cases mark with
    | false => rfl
    | true => rw [restores rfl]; rfl
  have pumped : (v.setTc t e).readPump t = v.setTc t e := by
    cases mark with
    | false =>
      have head : e.blockQ = [.readBlock f.info f.block []] := by
        rw [parts]
        exact heads.1
      refine readPump_stays (r := { r' with ended := some res }) ?_ ?_ short' (.inr ?_) (.inr ⟨?_, ?_⟩)
      · rw [State.setTc_tc]
        exact jobe
      · rw [State.setTc_tc, head]
        exact .inr ⟨_, _, _, rfl⟩
      · rw [State.setTc_tc, parts]
        exact ⟨queued, place.2⟩
      · exact Option.some_ne_none res
      · rw [State.setTc_tc, head]
        exact List.cons_ne_nil _ _
    | true =>
      have no_compare : r'.isCompare = false := by
        cases compares : r'.isCompare with
        | false => rfl
        | true =>
          have restore := restores rfl
          rw [isRestore_of_compare compares] at restore
          cases restore
      refine readPump_marked (r := { r' with ended := some res }) (e := res) ?_ rfl short' gaps' ?_ ?_ no_compare
      all_goals rw [State.setTc_tc, parts]
      · exact heads.1
      · exact queued
  refine ⟨_, { r' with ended := some res }, frame.trans pumped, ?_⟩
  rw [State.setTc_tc, parts]
  exact ⟨rfl, place.1, rfl, rfl, by rw [shape], by rw [shape], heads.1, queued⟩

/-! ## The read fault of a verify (R157, R159, R160) -/

/-- The job of a verify behind a read fault on its expected address, in the words of O58. -/
def faultyOf (r : ReadJob) (mode : VerifyMode) : ReadJob :=
  { r with
    framesRead := r.framesRead + 1, countedSkips := r.countedSkips + 1, skip := r.skip + 1
    covered := r.covered + 1, faultCount := r.faultCount + 1, lastSeen := none
    faults := (r.record { addr := r.x, kind := .unreadable, offset := 0 }).faults
    pendingGaps :=
      if mode = .compare then [match r.lastSeen with | some n => .bytes r.x 0 n | none => .unaligned] else []
    unalignedFlag := r.unalignedFlag || decide (mode = .compare ∧ r.lastSeen = none) }

variable {a : Nat} {range : VerifyRange} {mode : VerifyMode} {policy : FaultPolicy}

theorem unreadable_eq (spec : r.spec = .verify a range mode policy) (gaps : r.pendingGaps = []) (lost : readFrame raw = none) :
    (ReadJob.skipOne { r with framesRead := r.framesRead + 1 } raw).unreadable = faultyOf r mode := by
  have compares := (compare_of_verify spec).1
  obtain ⟨r', hr⟩ : ∃ r' : ReadJob, { r with
    framesRead := r.framesRead + 1, skip := r.skip + 1, countedSkips := r.countedSkips + 1 } = r' := ⟨_, rfl⟩
  have compares' : r'.isCompare = decide (mode = .compare) := by rw [← hr]; exact compares
  have listed : (r'.record { addr := r'.x, kind := .unreadable, offset := 0 }) =
      { r' with
        faultCount := r.faultCount + 1, faults := (r.record { addr := r.x, kind := .unreadable, offset := 0 }).faults } := by
    rw [← hr]
    rfl
  rw [skipOne_lost lost, hr]
  unfold ReadJob.unreadable faultyOf ReadJob.faultGap
  dsimp only
  rw [listed, compares']
  dsimp only
  rw [← hr]
  dsimp only
  rw [gaps]
  cases mode <;> cases r.lastSeen <;> rfl

theorem faulty_faults (spec : r.spec = .verify a range mode policy) :
    (r.faults.length < 32 → (faultyOf r mode).faults = r.faults ++ [{ addr := r.x, kind := .unreadable, offset := 0 }]) ∧
    (32 ≤ r.faults.length → (faultyOf r mode).faults =
      if policy = .keepLast then r.faults.tail ++ [{ addr := r.x, kind := .unreadable, offset := 0 }] else r.faults) := by
  unfold faultyOf ReadJob.record
  dsimp only
  rw [spec, show Config.faultMax = 32 from rfl]
  refine ⟨fun room => if_pos room, fun full => ?_⟩
  rw [if_neg (Nat.not_lt.mpr full)]
  cases policy <;> rfl

/-- The controller of a verify at its read fault: the frame counted, the skip taken (R83, R136). -/
def faultTc (c : Tc) (r : ReadJob) (raw : RawFrame) (p : Nat) : Tc := frameCounted (skippedTc c r raw (p + 1))

theorem verify_faults (reading : (s.tc t).st = .reading) (job : (s.tc t).job = some (.read r))
    (spec : r.spec = .verify a range mode policy) (gaps : r.pendingGaps = []) {p : Nat} (pos : (s.tc t).pos = some p)
    (lost : readFrame raw = none) (last : 64 ≤ r.skip + 1) :
    s.readOne t raw =
      match (faultyOf r mode).past.endsAt false with
      | some res => (s.setTc t (readingOver (faultTc (s.tc t) r raw p) (faultyOf r mode) res)).readPump t
      | none =>
        if r.resynced then (s.setTc t (readingOver (faultTc (s.tc t) r raw p) (faultyOf r mode) .readFault)).readPump t
        else (s.setTc t { Tc.goto { faultTc (s.tc t) r raw p with job := some (.read (faultyOf r mode).resync) } .locating with
          locate := some (faultyOf r mode).resyncLocate }).readPump t := by
  obtain ⟨c, hc⟩ : ∃ c, faultTc (s.tc t) r raw p = c := ⟨_, rfl⟩
  obtain ⟨r', hr⟩ : ∃ r', ReadJob.skipOne { r with framesRead := r.framesRead + 1 } raw = r' := ⟨_, rfl⟩
  have running : c.job = some (.read r') := by rw [← hc, ← hr]; rfl
  have same : r'.isRestore = false ∧ r'.resynced = r.resynced := by
    rw [← hr, skipOne_lost lost]
    exact ⟨(compare_of_verify spec).2, rfl⟩
  have faulty := unreadable_eq spec gaps lost
  rw [hr] at faulty
  have frame : s.readOne t raw = (s.setTc t c).readFault t := by
    rw [readOne_lost reading job lost pos, if_pos last, ← hc]
    rfl
  rw [frame, readFault_verify (r := r') (by rw [State.setTc_tc]; exact running) same.1, same.2, faulty, State.setTc_tc, hc]
  cases (faultyOf r mode).past.endsAt false with
  | some res =>
    dsimp only
    rw [setTc_setTc]
  | none =>
    dsimp only
    rw [setTc_setTc, setTc_setTc]

/-- Whether the address behind the unreadable one ends a verify (R84, R154). -/
theorem past_ends (spec : r.spec = .verify a range mode policy) (not_mark : r.atMark = false) :
    ((∃ n, range = .count n ∧ a + n.toNat ≤ r.x + 1) → (faultyOf r mode).past.endsAt false = some .ok) ∧
    ((∀ n, range = .count n → r.x + 1 < a + n.toNat) →
      (r.bound = some (r.x + 1) →
        (faultyOf r mode).past.endsAt false = some (if range = .toEod then .ok else .endOfData)) ∧
      (r.bound ≠ some (r.x + 1) → (faultyOf r mode).past.endsAt false = none)) := by
  obtain ⟨r', hr⟩ : ∃ r', (faultyOf r mode).past = r' := ⟨_, rfl⟩
  have spec' : r'.spec = .verify a range mode policy := by rw [← hr]; exact spec
  have next : r'.x = r.x + 1 := by rw [← hr]; rfl
  have bound' : r'.bound = r.bound := by rw [← hr]; rfl
  have at_mark : r'.atMark = false := by rw [← hr]; exact not_mark
  have meets := verify_meets spec' false
  rw [next] at meets
  rw [hr]
  refine ⟨fun met => endsAt_met (meets.mpr met), fun below => ?_⟩
  have not_met : r'.meets false ≠ true := fun met => by
    obtain ⟨n, h, le⟩ := meets.mp met
    exact absurd le (Nat.not_le.mpr (below n h))
  refine ⟨fun bound => ?_, fun inside => ?_⟩
  · rw [endsAt_bound not_met (by rw [bound', next]; exact bound), verify_atEnd spec']
  · rw [endsAt_mark not_met (by rw [bound', next]; exact inside), at_mark]
    rfl

theorem faulty_result (not_mark : r.atMark = false) (mode : VerifyMode) {res : JobResult} (no_fault : res ≠ .restoreFault) :
    ReadJob.result { faultyOf r mode with ended := some res } = if res = .ok then .faultsFound else res := by
  have counts : 0 < (faultyOf r mode).faultCount := Nat.succ_pos _
  have at_mark : (faultyOf r mode).atMark = false := not_mark
  unfold ReadJob.result
  dsimp only
  rw [at_mark]
  split
  next h => exact absurd (Option.some.inj h) no_fault
  next res' _ h =>
    obtain rfl := Option.some.inj h
    rw [if_neg Bool.false_ne_true]
    by_cases ok : res = .ok
    · rw [if_pos ⟨ok, counts⟩, if_pos ok]
    · rw [if_neg fun h => ok h.1, if_neg ok]
  next h => cases h

/-- A CHECK-mode verify whose read fault ends its reading with nothing left to check: the job ends (R160, R161). -/
theorem verify_fault_ends {res : JobResult} (spec : r.spec = .verify a range .check policy) (not_mark : r.atMark = false)
    (short : r.short = none) (intake : (s.tc t).intake = []) (queue : (s.tc t).blockQ = []) (delivery : (s.tc t).delivery = [])
    (free : s.opOf t = false) (p : Nat) (no_fault : res ≠ .restoreFault) {told : JobResult}
    (frame : s.readOne t raw = (s.setTc t (readingOver (faultTc (s.tc t) r raw p) (faultyOf r .check) res)).readPump t)
    (tells : told = if res = .ok then .faultsFound else res) :
    ∃ u, Runs (.readingFrameRead t raw) s u ∧ (u.tc t).st = .ready ∧ (u.tc t).pos = some (p + 1) ∧
      JobEnded t .verify told (reportOf u (s.mtb.get (.bay t)) s.free (.read (faultyOf r .check)) told) s u := by
  obtain ⟨c, hc⟩ : ∃ c, faultTc (s.tc t) r raw p = c := ⟨_, rfl⟩
  have at_ : c.pos = some (p + 1) := by rw [← hc]; rfl
  have left : c.intake = [] := by rw [← hc]; exact intake
  have ends := readingOver_ends (s := s) (t := t) (r := faultyOf r .check) (c := c) (res := res) short rfl
    (by rw [← hc]; exact queue) (by rw [← hc]; exact delivery) (compare_of_verify (r := faultyOf r .check) spec).1 free
  rw [hc] at frame
  dsimp only at ends
  obtain ⟨st, place, ended⟩ := ends
  obtain ⟨u, hu⟩ : ∃ u, (s.setTc t (readingOver c (faultyOf r .check) res)).readPump t = u := ⟨_, rfl⟩
  rw [hu] at frame st place ended
  have kind : Job.kind (.read (faultyOf r .check)) = .verify := by
    unfold Job.kind
    dsimp only
    rw [show (faultyOf r .check).spec = _ from spec]
  rw [kind, faulty_result not_mark .check no_fault, ← tells, left, reportOf_verify_congr (r := faultyOf r .check)
    (r' := ReadJob.leave { faultyOf r .check with ended := some res } []) spec rfl rfl rfl (fun _ _ => rfl)] at ended
  exact ⟨u, readingRead_runs frame, st, place.trans at_, ended⟩

/-- A verify's first read fault behind a search start leads back there (R160). -/
theorem verify_resyncs (mode : VerifyMode) (running : r.ended = none) (short : r.short = none)
    (queue : (s.tc t).blockQ = []) (delivery : (s.tc t).delivery = []) (intake : (s.tc t).intake = []) (p : Nat)
    (frame : s.readOne t raw = (s.setTc t { Tc.goto { faultTc (s.tc t) r raw p with
      job := some (.read (faultyOf r mode).resync) } .locating with locate := some (faultyOf r mode).resyncLocate }).readPump t) :
    ∃ u, Runs (.readingFrameRead t raw) s u ∧ (u.tc t).st = .locating ∧ (u.tc t).pos = some (p + 1) ∧
      (u.tc t).locate =
        some { writing := false, goal := .address, a := r.x + 1, e := r.searchStart, x := r.x + 1, phase := .resync r.searchStart } ∧
      (u.tc t).job = some (.read { faultyOf r mode with resynced := true, resyncs := r.resyncs + 1 }) ∧ u.mtb = s.mtb := by
  obtain ⟨d, hd⟩ : ∃ d, faultTc (s.tc t) r raw p = d := ⟨_, rfl⟩
  have kept : d.pos = some (p + 1) ∧ d.blockQ = [] ∧ d.delivery = [] ∧ d.intake = [] := by
    rw [← hd]
    exact ⟨rfl, queue, delivery, intake⟩
  obtain ⟨c, hc⟩ : ∃ c : Tc, { Tc.goto { d with job := some (.read (faultyOf r mode).resync) } .locating with
    locate := some (faultyOf r mode).resyncLocate } = c := ⟨_, rfl⟩
  rw [hd, hc] at frame
  have fields : c.st = .locating ∧ c.pos = d.pos ∧ c.locate = some (faultyOf r mode).resyncLocate ∧
      c.job = some (.read (faultyOf r mode).resync) ∧ c.blockQ = d.blockQ ∧ c.delivery = d.delivery ∧ c.intake = d.intake := by
    rw [← hc, goto_eq]
    exact ⟨rfl, rfl, rfl, rfl, rfl, rfl, rfl⟩
  obtain ⟨st, pos, locate, job, queue', delivery', intake'⟩ := fields
  rw [readPump_stays (s := s.setTc t c) (t := t) (r := (faultyOf r mode).resync) (by rw [State.setTc_tc]; exact job)
    (.inl (by rw [State.setTc_tc, queue']; exact kept.2.1)) short
    (.inr (by rw [State.setTc_tc, delivery', intake']; exact kept.2.2))
    (.inl ⟨running, by rw [State.setTc_tc, st]; decide⟩)] at frame
  refine ⟨_, readingRead_runs frame, ?_⟩
  rw [State.setTc_tc, State.setTc_mtb]
  exact ⟨st, pos.trans kept.1, locate, job, rfl⟩

/-- A comparison's second read fault leaves the gap of the address to the host's bytes (R157, R160). -/
theorem verify_gap {n : Nat} (spec : r.spec = .verify a range .compare policy) (short : r.short = none)
    (aligned : r.unaligned = false) (queue : (s.tc t).blockQ = []) (delivery : (s.tc t).delivery = [])
    (intake : (s.tc t).intake = []) (seen : r.lastSeen = some (n + 1)) (p : Nat)
    (frame : s.readOne t raw =
      (s.setTc t (readingOver (faultTc (s.tc t) r raw p) (faultyOf r .compare) .readFault)).readPump t) :
    ∃ u r', Runs (.readingFrameRead t raw) s u ∧ (u.tc t).st = .waiting ∧ (u.tc t).job = some (.read r') ∧
      r'.ended = some .readFault ∧ (u.tc t).delivery = [.gap (.bytes r.x 0 (n + 1))] := by
  obtain ⟨d, hd⟩ : ∃ d, faultTc (s.tc t) r raw p = d := ⟨_, rfl⟩
  obtain ⟨gov, -, parts⟩ := readingOver_parts d (faultyOf r .compare) .readFault
  obtain ⟨c, hc⟩ : ∃ c, readingOver d (faultyOf r .compare) .readFault = c := ⟨_, rfl⟩
  rw [hd, hc] at frame
  rw [hc] at parts
  have gaps : (faultyOf r .compare).pendingGaps = [.bytes r.x 0 (n + 1)] := by
    unfold faultyOf
    dsimp only
    rw [seen]
    rfl
  have kept : d.blockQ = [] ∧ d.delivery = [] ∧ d.intake = [] := by
    rw [← hd]
    exact ⟨queue, delivery, intake⟩
  obtain ⟨e, he⟩ : ∃ e : ReadJob, { faultyOf r .compare with ended := some .readFault } = e := ⟨_, rfl⟩
  rw [he] at parts
  rw [readPump_gap (s := s.setTc t c) (t := t) (r := e) (e := .readFault) (a := r.x) (p := 0) (n := n)
    (by rw [State.setTc_tc, parts]) (by rw [← he]) (by rw [← he]; exact short) (by rw [← he]; exact aligned)
    (by rw [← he]; exact (compare_of_verify (r := faultyOf r .compare) spec).1) (by rw [← he]; exact gaps)
    (by rw [State.setTc_tc, parts]; exact kept.1) (by rw [State.setTc_tc, parts]; exact kept.2.1)
    (by rw [State.setTc_tc, parts]; exact kept.2.2), State.setTc_tc, setTc_setTc] at frame
  refine ⟨_, { e with pendingGaps := [] }, readingRead_runs frame, ?_⟩
  rw [State.setTc_tc]
  exact ⟨by rw [parts], rfl, by rw [← he], rfl⟩

/-- The end of a resync's fast move: the reading goes on behind its unreadable address (R160). -/
theorem resync_reads {v : State} {c : Tc} {l : Locate} {place : Nat} (running : r.ended = none) (short : r.short = none) (job : c.job = some (.read r)) (queue : c.blockQ = [])
    (delivery : c.delivery = []) (intake : c.intake = []) (locate : c.locate = some l) (phase : l.phase = .resync place)
    (tach : Nat) (tc : v.tc t = c) :
    v.fastMoved t tach = v.setTc t { c with
      st := .reading, pos := some tach, locate := none, job := some (.read { r with x := r.x + 1, skip := 0 })
      gov := started c.gov } := by
  obtain ⟨d, hd⟩ : ∃ d : Tc, { c with
    st := .reading, pos := some tach, locate := none, job := some (.read { r with x := r.x + 1, skip := 0 })
    gov := started c.gov } = d := ⟨_, rfl⟩
  unfold State.fastMoved
  rw [tc, locate]
  dsimp only
  rw [phase]
  dsimp only
  have moved : v.modTc t (fun c => { c with pos := some tach }) = v.setTc t { c with pos := some tach } := by rw [modTc_eq, tc]
  rw [moved, modRead_of_read (r := r) (by rw [State.setTc_tc]; exact job), State.setTc_tc, setTc_setTc, modTc_eq, State.setTc_tc,
    setTc_setTc]
  show (v.setTc t { c with
    st := .reading, pos := some tach, locate := none, job := some (.read { r with x := r.x + 1, skip := 0 })
    gov := started c.gov }).readPump t = _
  rw [hd]
  refine readPump_stays (r := { r with x := r.x + 1, skip := 0 }) ?_ (.inl ?_) short (.inr ?_) (.inl ⟨running, ?_⟩)
  all_goals rw [State.setTc_tc, ← hd]
  · exact queue
  · exact ⟨delivery, intake⟩
  · nofun

end

/-- Settles O58: a restore frame by frame, the ends of a reading, and the read faults of a verify. -/
theorem readingAcceptsInAddressOrder : Obligations.ReadingAcceptsInAddressOrder := by
  unfold Obligations.ReadingAcceptsInAddressOrder
  refine ⟨?_, ?_, ?_, ?_⟩
  · intro s t r offset raw f p reading job spec running not_mark short gaps off pos
    refine ⟨fun queue lost more => ?_, fun queue delivery free _ lost last => ?_, ?_, fun queue accepted bound => ?_,
      fun queue delivery free faultless ends => ?_⟩
    · refine ⟨_, readingRead_runs (reading_skips reading job spec running short pos queue lost more), ?_⟩
      rw [State.setTc_tc, State.setTc_mtb, State.setTc_chg, State.setTc_tc_other, State.setTc_lnk]
      exact ⟨reading, rfl, rfl, queue, rfl, rfl, rfl, rfl, rfl⟩
    · obtain ⟨u, frame, left⟩ := reading_faults reading job spec short gaps not_mark pos queue delivery free lost last
      exact ⟨u, readingRead_runs frame, left⟩
    · rintro q i b rest rfl plain room accepted bound
      obtain ⟨u, r', frame, left⟩ := reading_accepts_block reading job spec running not_mark short gaps off
        (plain.imp_right fun h => ⟨i, b, rest, h⟩) room accepted bound
      exact ⟨u, r', readingRead_runs frame, left⟩
    · obtain ⟨u, r', frame, left⟩ := reading_accepts_mark reading job spec running not_mark short gaps off queue accepted bound
      exact ⟨u, r', readingRead_runs frame, left⟩
    · obtain ⟨u, frame, st, at_, ended⟩ := reading_endOfData reading job spec short gaps queue delivery free ends
      have ok : r.atEnd = .ok := (restore_atEnd spec).trans (if_pos rfl)
      rw [result_faultless not_mark faultless, ok, reportOf_restore_congr (r := { r with framesRead := r.framesRead + 1 })
        (r' := { r with framesRead := r.framesRead + 1, ended := some .ok }) spec rfl rfl
        (restoreLayout_ok { r with framesRead := r.framesRead + 1 })
        (fun a x => restoreLayout_ok { r with framesRead := r.framesRead + 1, applied := a, x := x })] at ended
      exact ⟨u, readingRead_runs frame, st, at_, ended⟩
  · rintro s t r told offset stop raw f reading job spec - at_mark short gaps queue delivery free ends rfl
    have end_ := restore_atEnd spec
    refine ⟨?_, ?_⟩
    · unfold ReadJob.resumePoint
      cases stop <;> rfl
    · obtain ⟨u, frame, st, at_, ended⟩ := reading_endOfData reading job spec short gaps queue delivery free ends
      have no_fault : r.atEnd ≠ .restoreFault := by
        rw [end_]
        split <;> nofun
      rw [result_atMark at_mark no_fault, end_] at ended
      exact ⟨u, readingRead_runs frame, st, at_, ended⟩
  · intro s t r raw f mark res reading job _ short gaps queue delivery intake accepted ends
    obtain ⟨u, r', frame, left⟩ := reading_stops reading job short gaps queue delivery intake accepted ends
    exact ⟨u, r', readingRead_runs frame, left⟩
  · intro s t r faulty a range mode policy raw p reading job spec running not_mark short gaps aligned pos queue delivery intake
      free lost last hf
    obtain rfl : faulty = faultyOf r mode := hf
    have frame := verify_faults reading job spec gaps pos lost last
    obtain ⟨met, below⟩ := past_ends spec not_mark
    refine ⟨(faulty_faults spec).1, (faulty_faults spec).2, fun inside bound check => ?_, fun inside bound => ⟨?_, ?_, ?_⟩, ?_, ?_⟩
    · subst check
      rw [(below inside).1 bound] at frame
      have no_fault : (if range = .toEod then JobResult.ok else .endOfData) ≠ .restoreFault := by
        split <;> nofun
      have tells : (if range = .toEod then JobResult.faultsFound else .endOfData) =
          if (if range = .toEod then JobResult.ok else .endOfData) = .ok then .faultsFound
          else if range = .toEod then .ok else .endOfData := by
        by_cases whole : range = .toEod
        · rw [if_pos whole, if_pos whole]
          rfl
        · rw [if_neg whole, if_neg whole]
          rfl
      obtain ⟨u, left⟩ := verify_fault_ends spec not_mark short intake queue delivery free p no_fault frame tells
      exact ⟨u, _, rfl, left⟩
    · intro first
      rw [(below inside).2 bound, first] at frame
      exact verify_resyncs mode running short queue delivery intake p frame
    · intro again check
      subst check
      rw [(below inside).2 bound, again] at frame
      exact verify_fault_ends (res := .readFault) spec not_mark short intake queue delivery free p nofun frame rfl
    · intro n again compares seen
      subst compares
      rw [(below inside).2 bound, again] at frame
      exact verify_gap spec short aligned queue delivery intake seen p frame
    · rintro ⟨n, count, last_⟩ check
      subst check
      rw [met ⟨n, count, Nat.le_of_eq last_.symm⟩] at frame
      exact verify_fault_ends (res := .ok) spec not_mark short intake queue delivery free p nofun frame rfl
    · rintro l v place tach phase rfl
      refine fastMoved_runs ?_
      rw [State.setTc_tc, setTc_setTc, resync_reads (r := r) (l := l) (c := { s.tc t with st := .locating, locate := some l })
        running short job queue delivery intake rfl phase tach (by rw [State.setTc_tc]), setTc_setTc]
      rfl

end Sys2Proof.Proofs
end

section
/-! PROOFS. What the pumps of the streaming jobs keep beyond their transport, the datapath's choice, and the completion of a
compression (R90 to R94, R100 to R103; O59). -/

open Sys2Proof Sys2Proof.Machine Sys2Proof.Claims

namespace Sys2Proof.Proofs

-- One declaration at a time: elaborated in parallel, the joined text needs more threads than the memory limit holds.
set_option Elab.async false

/-! ## Properties that the operations of a transport's job keep -/

/-- A property of the state that no change of t's controller and context, of the link or of the free values touches, nor
the clearing of t's context or the forming of a CREDIT. -/
structure Closed (t : Tr) (P : State → Prop) : Prop where
  tc : ∀ {s : State} (c : Tc), P s → P (s.setTc t c)
  cx : ∀ {s : State} (x : Ctx), P s → P (s.setCx t x)
  clear : ∀ {s : State} (d : Dir), P s → P (s.clearCtx t d)
  credit : ∀ {s : State} (u : Tr), P s → P (s.formCredit u)
  link : ∀ {s : State} (f : Lnk → Lnk), P s → P (s.modLnk f)
  free : ∀ {s : State} (n : Nat), P s → P { s with free := n }

theorem formCredit_dp (s : State) (u : Tr) : (s.formCredit u).dp = s.dp := by
  obtain ⟨g, p, l, -, e, -⟩ := formCredit_eq s u
  rw [e]
  cases u <;> rfl

theorem formCredit_mtb (s : State) (u : Tr) : (s.formCredit u).mtb = s.mtb := by
  obtain ⟨g, p, l, -, e, -⟩ := formCredit_eq s u
  rw [e, State.setTc_mtb]

theorem closed_idle (t : Tr) : Closed t fun s => s.dp = none where
  tc c h := by cases t <;> exact h
  cx x h := by cases t <;> exact h
  clear d h := by
    unfold State.clearCtx
    exact congrArg (Option.map _) h
  credit u h := (formCredit_dp _ u).trans h
  link f h := h
  free n h := h

theorem closed_mtb (t : Tr) (m : Mtb) : Closed t fun s => s.mtb = m where
  tc c h := by rw [State.setTc_mtb, h]
  cx x h := by rw [State.setCx_mtb, h]
  clear d h := by cases t <;> exact h
  credit u h := (formCredit_mtb _ u).trans h
  link f h := h
  free n h := h

section
variable {t : Tr} {P : State → Prop} {s : State}

theorem Closed.modTc (closed : Closed t P) (h : P s) (f : Tc → Tc) : P (s.modTc t f) := closed.tc _ h

theorem Closed.earn (closed : Closed t P) (h : P s) (n : Nat) : P (s.earn t n) := closed.credit t (closed.modTc h _)

theorem Closed.ite {c : Prop} [Decidable c] {u v : State} (hu : P u) (hv : P v) : P (if c then u else v) := by
  split
  · exact hu
  · exact hv

/-! ### Write jobs -/

theorem Closed.gather (closed : Closed t P) (h : P s) : P (s.gather t) := by
  unfold State.gather
  split
  · exact h
  · have moved := closed.modTc (closed.tc { s.tc t with
      intake := (Pump.gather { cx := s.cx t, intake := (s.tc t).intake, blockQ := (s.tc t).blockQ }).intake
      blockQ := (Pump.gather { cx := s.cx t, intake := (s.tc t).intake, blockQ := (s.tc t).blockQ }).blockQ } (closed.cx
      (Pump.gather { cx := s.cx t, intake := (s.tc t).intake, blockQ := (s.tc t).blockQ }).cx h))
    exact Closed.ite (moved _) (closed.earn (moved _) _)

theorem Closed.beginFrame (closed : Closed t P) (h : P s) (f : WFrame) : P (s.beginFrame t f) := by
  unfold State.beginFrame State.modWrite State.warn State.modWrite
  refine closed.modTc ?_ _
  split
  · exact Closed.ite (closed.link _ (closed.modTc h _)) h
  · exact h

theorem Closed.drainFrame (closed : Closed t P) (h : P s) (place : Nat) : P (s.drainFrame t place) := by
  unfold State.drainFrame
  split
  · exact closed.beginFrame h _
  · exact h

theorem Closed.giveUp (closed : Closed t P) (h : P s) (res : JobResult) (given : List WEntry) : P (s.giveUp t res given) := by
  unfold State.giveUp State.discardWork
  exact closed.modTc (closed.modTc (closed.modTc (closed.modTc (closed.clear _ h) _) _) _) _

theorem Closed.chooseFrame (closed : Closed t P) (h : P s) (w : WriteJob) (place : Nat) : P (s.chooseFrame t w place) := by
  unfold State.chooseFrame
  refine Closed.ite (closed.drainFrame (closed.giveUp h _ _) _) ?_
  split
  · exact closed.beginFrame (closed.modTc h _) _
  · refine Closed.ite (closed.drainFrame h _) ?_
    split
    · exact closed.beginFrame (closed.modTc (closed.modTc h _) _) _
    · exact closed.beginFrame (closed.modTc (closed.modTc h _) _) _
    · exact closed.drainFrame (closed.modTc h _) _
    · refine Closed.ite (closed.beginFrame h _) ?_
      unfold State.writeHitch
      exact closed.modTc (closed.modTc h _) _

theorem Closed.choose (closed : Closed t P) (h : P s) : P (s.choose t) := by
  unfold State.choose
  dsimp only
  split
  · exact Closed.ite (closed.chooseFrame (closed.modTc h _) _ _) (closed.modTc h _)
  · exact closed.modTc h _

theorem Closed.writePump (closed : Closed t P) (h : P s) : P (s.writePump t) := by
  have resumed : ∀ {u : State}, P u → P (u.writeResume t) := fun {u} hu => by
    unfold State.writeResume
    split
    · exact Closed.ite (closed.choose (closed.modTc hu _)) hu
    · exact hu
  exact closed.gather (resumed (closed.gather h))

/-! ### Read jobs -/

theorem Closed.endJob (closed : Closed t P) (bay : ∀ {s : State} (f : CartRecord → CartRecord), P s → P (s.modBay t f)) (h : P s)
    (res : JobResult) : P (s.endJob t res) := by
  cases job : (s.tc t).job with
  | none =>
    rw [endJob_of_none res job]
    exact h
  | some j =>
    have cleared : P (jobCleared s t) := by
      unfold jobCleared State.voidCredits State.withdrawCredit State.noticeLeft
      refine closed.modTc (Closed.ite (closed.credit _ (closed.credit _ (closed.link _ ?_))) ?_) _
      · exact closed.modTc (closed.clear _ h) _
      · exact closed.modTc (closed.clear _ h) _
    obtain ⟨n, ends⟩ := endJob_eq job res
    rw [ends]
    exact bay _ (closed.link _ (closed.free n cleared))

theorem Closed.readPump (closed : Closed t P) (bay : ∀ {s : State} (f : CartRecord → CartRecord), P s → P (s.modBay t f)) (h : P s) :
    P (s.readPump t) := by
  have ends : ∀ {u : State}, P u → ∀ res, P (u.endRead t res) := fun hu res => by
    unfold State.endRead State.countSurplus
    exact closed.endJob bay (closed.modTc (closed.modTc hu _) _) res
  have heads : P (s.takeHeads t) := by
    unfold State.takeHeads
    split
    · exact closed.modTc h _
    · exact h
  have gaps : P ((s.takeHeads t).lastGaps t) := by
    unfold State.lastGaps
    split
    · exact Closed.ite (closed.modTc (closed.modTc heads _) _) heads
    · exact heads
  have resumed : P (((s.takeHeads t).lastGaps t).readResume t) := by
    unfold State.readResume
    split
    · exact Closed.ite (closed.modTc gaps _) gaps
    · exact gaps
  have compared : P ((((s.takeHeads t).lastGaps t).readResume t).compare t) := by
    unfold State.compare
    split
    · exact Closed.ite (Closed.ite (closed.modTc resumed _) (closed.earn (closed.modTc resumed _) _)) resumed
    · exact resumed
  have shortened : P (((((s.takeHeads t).lastGaps t).readResume t).compare t).shortEnd t) := by
    unfold State.shortEnd
    split
    · exact Closed.ite (ends compared _) compared
    · exact compared
  unfold State.readPump State.readEndTest
  split
  · exact Closed.ite (Closed.ite (ends (Closed.ite (closed.modTc shortened _) shortened) _)
      (Closed.ite (closed.modTc shortened _) shortened)) shortened
  · exact shortened

end

/-! ## The datapath's choice (R100 to R102) -/

theorem excluded_eq (r : ReadJob) (i : ReadInfo) (b : Block) : r.excluded i b = leftOut r i b := by
  unfold ReadJob.excluded leftOut
  cases r.spec with
  | restore offset stop => rfl
  | verify a range mode policy => cases mode <;> rfl

/-- The bytes a decode places, each with its block position (R148). -/
theorem placedBytes_eq (i : ReadInfo) (b : Block) (out start : Nat) (bytes : List Byte) :
    placedBytes i b out start bytes = placedFrom i b out start bytes := by
  unfold placedBytes placedFrom
  dsimp only
  refine List.ext_getElem? fun k => ?_
  rw [List.getElem?_map, List.getElem?_zipIdx, List.getElem?_mapIdx, List.getElem?_drop]
  by_cases inside : out - start + k < bytes.length
  · have first : start + min (out - start) bytes.length + k = max start out + k := by omega
    rw [List.getElem?_eq_getElem inside]
    dsimp only [Option.map_some]
    rw [first]
  · rw [List.getElem?_eq_none (Nat.le_of_not_lt inside)]
    rfl

section
variable {s : State} {t : Tr}

theorem isWrite_iff (c : Tc) : c.isWrite = true ↔ ∃ w, c.job = some (.write w) := by
  unfold Tc.isWrite
  cases c.job with
  | none => simp
  | some j => cases j <;> simp

theorem readReady_of_write {w : WriteJob} (job : (s.tc t).job = some (.write w)) : s.readReady t = false := by
  have none_there : (s.tc t).readJob = none := by
    unfold Tc.readJob
    rw [job]
  unfold State.readReady
  rw [none_there]

theorem writeReady_of_read {r : ReadJob} (job : (s.tc t).job = some (.read r)) : s.writeReady t = false := by
  have not_write : (s.tc t).isWrite = false := by
    unfold Tc.isWrite
    rw [job]
  unfold State.writeReady
  rw [not_write]
  rfl

theorem ready_of_none (job : (s.tc t).job = none) : s.ready t = false := by
  have none_there : (s.tc t).readJob = none := by
    unfold Tc.readJob
    rw [job]
  have not_write : (s.tc t).isWrite = false := by
    unfold Tc.isWrite
    rw [job]
  unfold State.ready State.writeReady State.readReady
  rw [not_write, none_there]
  rfl

/-- The datapath takes a ready context as R100 says. -/
theorem dpTake_taken (ready : s.ready t = true) : Taken t s (s.dpTake t) := by
  refine ⟨fun w job => ?_, fun r i b gaps rest x job queue hx => ?_⟩
  · have writes : s.writeReady t = true := by
      unfold State.ready at ready
      rw [readReady_of_write job, Bool.or_false] at ready
      exact ready
    unfold State.dpTake
    rw [if_pos writes]
  · have head : (s.tc t).headBlock = some (i, b) := by
      unfold Tc.headBlock
      rw [queue]
    unfold State.dpTake State.beginDecode
    rw [writeReady_of_read job, if_neg Bool.false_ne_true, readJob_of_job job, head]
    dsimp only
    rw [← hx, excluded_eq, placedBytes_eq, modTc_eq, State.setCx_tc]

theorem dpNext_taken (idle : s.dp = none) : NextTaken t s (s.dpNext t) := by
  unfold State.dpNext
  refine ⟨idle, fun other => ?_, fun other same => ?_, fun other same => ?_⟩
  · rw [if_pos other]
    exact dpTake_taken other
  · rw [other, if_neg Bool.false_ne_true, if_pos same]
    exact dpTake_taken same
  · rw [other, same]
    rfl

theorem dpKick_taken (s : State) :
    (s.dp ≠ none → s.dpKick = s) ∧
    (s.dp = none →
      (s.ready .tc0 = true → Taken .tc0 s s.dpKick) ∧
      (s.ready .tc0 = false → s.ready .tc1 = true → Taken .tc1 s s.dpKick) ∧
      (s.ready .tc0 = false → s.ready .tc1 = false → s.dpKick = s)) := by
  unfold State.dpKick
  refine ⟨fun busy => if_pos (Option.isSome_iff_ne_none.mpr busy), fun idle => ?_⟩
  rw [idle]
  dsimp only [Option.isSome_none]
  rw [if_neg Bool.false_ne_true]
  refine ⟨fun first => ?_, fun first second => ?_, fun first second => ?_⟩
  · rw [if_pos first]
    exact dpTake_taken first
  · rw [first, if_neg Bool.false_ne_true, if_pos second]
    exact dpTake_taken second
  · rw [first, second]
    rfl

/-- No operation of t that is not abandoned is in progress (R103). -/
theorem opOf_false_iff (s : State) (t : Tr) :
    s.opOf t = false ↔ ∀ k, s.dp ≠ some { t := t, decode := k, abandoned := false } := by
  unfold State.opOf
  cases dp : s.dp with
  | none => simp
  | some o =>
    obtain ⟨u, k, abandoned⟩ := o
    cases abandoned <;> simp

theorem ready_write_iff {w : WriteJob} (job : (s.tc t).job = some (.write w)) :
    s.ready t = true ↔
      (s.cx t).complete = true ∧ s.dp ≠ some { t := t, decode := false, abandoned := false } ∧
        s.dp ≠ some { t := t, decode := true, abandoned := false } := by
  have writes : (s.tc t).isWrite = true := (isWrite_iff _).mpr ⟨w, job⟩
  have both : (∀ k, s.dp ≠ some { t := t, decode := k, abandoned := false }) ↔
      s.dp ≠ some { t := t, decode := false, abandoned := false } ∧ s.dp ≠ some { t := t, decode := true, abandoned := false } :=
    ⟨fun h => ⟨h false, h true⟩, fun | h, false => h.1 | h, true => h.2⟩
  unfold State.ready State.writeReady
  rw [readReady_of_write job, writes, Bool.or_false, Bool.true_and, Bool.and_eq_true, Bool.not_eq_true', opOf_false_iff, both]

end

/-! ## The end of a compression (R91, R94) -/

section
variable {s : State} {t : Tr} {w : WriteJob}

theorem compressionComplete_runs {u : State} (done : s.compressionDone = u) : Runs .compressionComplete s u :=
  runs_of_eq (v := s.compressionDone) rfl done

theorem compressionDone_eq (dp : s.dp = some { t := t, decode := false, abandoned := false }) :
    s.compressionDone = ((({ s with dp := none } : State).compressed t).writePump t).dpNext t := by
  unfold State.compressionDone
  rw [dp]
  rfl

theorem compressionDone_abandoned (dp : s.dp = some { t := t, decode := false, abandoned := true }) :
    s.compressionDone = ({ s with dp := none } : State).dpNext t := by
  unfold State.compressionDone
  rw [dp]
  rfl

theorem codeSlice_eq (tokens slice : List Byte) :
    codeSlice tokens slice =
      if tokens.length < slice.length then
        1 :: beBytes 2 slice.length ++ beBytes 2 tokens.length ++ beBytes 4 (crc32 slice).toNat ++ tokens
      else 2 :: beBytes 2 slice.length ++ beBytes 2 slice.length ++ beBytes 4 (crc32 slice).toNat ++ slice := by
  unfold codeSlice
  split <;> rfl

/-- What the compression leaves of the context (R94). -/
theorem compressed_parts (x : Ctx) :
    x.compressed.slice = [] ∧ x.compressed.complete = false ∧ x.compressed.closed = x.closed ∧ x.compressed.held = x.held ∧
      x.compressed.history = (x.history ++ x.slice).drop ((x.history ++ x.slice).length - 4096) ∧
      x.compressed.cur =
        { payload := x.cur.payload ++ codeSlice (tokenize x.table x.history x.slice x.cur.raw).out x.slice
          raw := x.cur.raw + x.slice.length, slices := x.cur.slices + 1 } := by
  unfold Ctx.compressed lastHistory
  exact ⟨rfl, rfl, rfl, rfl, by dsimp only, rfl⟩

/-- A slice that leaves its block open stays in the context (R94). -/
theorem compressed_appends (job : (s.tc t).job = some (.write w)) (intake : (s.tc t).intake = []) (closed : (s.cx t).closed = none)
    (held : (s.cx t).held = none) (few : (s.cx t).cur.slices + 1 < 32) : s.compressed t = s.setCx t (s.cx t).compressed := by
  obtain ⟨x, hx⟩ : ∃ x, (s.cx t).compressed = x := ⟨_, rfl⟩
  have parts := compressed_parts (s.cx t)
  rw [hx] at parts
  obtain ⟨-, -, closed', held', -, cur⟩ := parts
  have open_ : Pump.sliceLimit { cx := x, intake := (s.tc t).intake, blockQ := (s.tc t).blockQ } =
      { cx := x, intake := (s.tc t).intake, blockQ := (s.tc t).blockQ } := by
    refine if_neg ?_
    show ¬32 ≤ x.cur.slices
    rw [cur]
    exact Nat.not_le.mpr few
  have same : (s.setCx t x).setTc t { s.tc t with blockQ := (s.tc t).blockQ } = s.setCx t x := by
    have self := setTc_self (s.setCx t x) t
    rw [State.setCx_tc] at self
    exact self
  unfold State.compressed
  dsimp only
  rw [hx, open_]
  dsimp only
  rw [same]
  exact gather_idle (w := w) (by rw [State.setCx_tc]; exact job) (by rw [State.setCx_cx]; exact closed'.trans closed)
    (by rw [State.setCx_cx]; exact held'.trans held) (.inl (by rw [State.setCx_tc]; exact intake))

/-- An item behind a block that has just closed passes into the block queue (R90, R91). -/
theorem gather_item_closed {x : Ctx} {q : List QEntry} (open_ : x.complete = false) (slice : x.slice = []) (closed : x.closed = none)
    (held : x.held = none) (none_there : x.cur = emptyBlock) (room : q.length < 32) (i : Item) :
    Pump.gather { cx := x, intake := [.item i], blockQ := q } = { cx := x, intake := [], blockQ := q ++ [itemEntry i] } := by
  have step : Pump.step { cx := x, intake := [.item i], blockQ := q } =
      some { cx := x, intake := [], blockQ := q ++ [itemEntry i] } := by
    obtain ⟨_, _, _, _, _, _, _, _, _, _, _, _, _⟩ := x
    dsimp only at open_ slice closed held none_there
    subst open_ slice closed held none_there
    unfold Pump.step Pump.closeBlock Pump.handItem
    simp [emptyBlock, Config.blockMax, room]
  have stuck : Pump.step { cx := x, intake := [], blockQ := q ++ [itemEntry i] } = none := by
    unfold Pump.step
    simp [open_]
  unfold Pump.gather
  rw [flush_of_none (by exact closed) (by exact held)]
  exact (run_of_step step _).trans (run_of_stuck stuck _)

/-- A block closed by its 32nd slice, or by an item that waits behind it, joins the block queue, and the item follows
(R91, R94). -/
theorem closed_pump {x : Ctx} {intake : List IntakeItem} {blockQ q : List QEntry} (slice : x.slice = []) (open_ : x.complete = false)
    (closed : x.closed = none) (held : x.held = none) (some_there : x.cur.slices ≠ 0)
    (closes : (intake = [] ∧ 32 ≤ x.cur.slices ∧ q = blockQ ++ [.block x.cur]) ∨
      ∃ i, intake = [.item i] ∧ q = blockQ ++ [.block x.cur, if i = .mark then .mark else .close])
    (room : blockQ.length + 1 < 32) :
    ∃ p, Pump.sliceLimit { cx := x, intake := intake, blockQ := blockQ } = p ∧ p.intake = intake ∧
      Pump.gather { cx := p.cx, intake := intake, blockQ := p.blockQ } =
        { cx := { x with cur := emptyBlock }, intake := [], blockQ := q } := by
  have joined : (Pump.closeBlock { cx := x, intake := intake, blockQ := blockQ }) =
      { cx := { x with cur := emptyBlock }, intake := intake, blockQ := blockQ ++ [.block x.cur] } := by
    unfold Pump.closeBlock
    dsimp only
    rw [if_neg some_there, if_pos ⟨show blockQ.length < 32 by omega, closed⟩]
  have item : ∀ i : Item, itemEntry i = if i = .mark then .mark else .close := fun i => by cases i <;> rfl
  by_cases full : 32 ≤ x.cur.slices
  · refine ⟨_, if_pos full, by rw [joined], ?_⟩
    rw [joined]
    obtain ⟨rfl, -, rfl⟩ | ⟨i, rfl, rfl⟩ := closes
    · exact gather_of_stuck closed held (by unfold Pump.step; simp [open_])
    · dsimp only
      rw [gather_item_closed (x := { x with cur := emptyBlock }) open_ slice closed held rfl
        (by rw [List.length_append, List.length_singleton]; omega) i, item, List.append_assoc]
      rfl
  · refine ⟨_, if_neg full, rfl, ?_⟩
    obtain ⟨-, at_limit, -⟩ | ⟨i, rfl, rfl⟩ := closes
    · exact absurd at_limit full
    · dsimp only
      rw [gather_item open_ slice closed held room i, if_neg some_there, item, List.append_assoc]
      rfl

/-- The state behind a compression that has closed its block (R91, R94). -/
theorem compressed_closes (job : (s.tc t).job = some (.write w)) (closed : (s.cx t).closed = none) (held : (s.cx t).held = none)
    {q : List QEntry}
    (closes : ((s.tc t).intake = [] ∧ 32 ≤ (s.cx t).compressed.cur.slices ∧
        q = (s.tc t).blockQ ++ [.block (s.cx t).compressed.cur]) ∨
      ∃ i, (s.tc t).intake = [.item i] ∧
        q = (s.tc t).blockQ ++ [.block (s.cx t).compressed.cur, if i = .mark then .mark else .close])
    (room : (s.tc t).blockQ.length + 1 < 32) :
    s.compressed t = (s.setCx t { (s.cx t).compressed with cur := emptyBlock }).setTc t { s.tc t with intake := [], blockQ := q } := by
  obtain ⟨x, hx⟩ : ∃ x, (s.cx t).compressed = x := ⟨_, rfl⟩
  have parts := compressed_parts (s.cx t)
  rw [hx] at parts closes ⊢
  obtain ⟨slice, open_, closed', held', -, cur⟩ := parts
  have some_there : x.cur.slices ≠ 0 := by
    rw [cur]
    exact Nat.succ_ne_zero _
  obtain ⟨p, limit, left, pumped⟩ :=
    closed_pump slice open_ (closed'.trans closed) (held'.trans held) some_there closes room
  obtain ⟨v, hv⟩ : ∃ v, (s.setCx t p.cx).setTc t { s.tc t with blockQ := p.blockQ } = v := ⟨_, rfl⟩
  have tc : v.tc t = { s.tc t with blockQ := p.blockQ } := by rw [← hv, State.setTc_tc]
  have cx : v.cx t = p.cx := by rw [← hv, State.setTc_cx, State.setCx_cx]
  have same : ∀ c : Tc, c.job = some (.write w) →
      ({ c with job := some (.write { w with rawAccepted := w.rawAccepted + 0 }) } : Tc) = c := fun c h => by
    cases c
    cases h
    rfl
  have gathered := gather_eq (w := w) (s := v) (t := t)
    (p := { cx := { x with cur := emptyBlock }, intake := [], blockQ := q }) (by rw [tc]; exact job) (by rw [tc, cx]; exact pumped)
  unfold State.compressed
  dsimp only
  rw [hx, limit, hv, gathered, if_pos rfl, tc]
  have moved : ∀ c : Tc, (v.setCx t { x with cur := emptyBlock }).setTc t c = (s.setCx t { x with cur := emptyBlock }).setTc t c :=
    fun c => by
      rw [← hv]
      cases t <;> rfl
  rw [moved]
  exact congrArg (State.setTc _ t) (same { s.tc t with intake := [], blockQ := q } job)

end

section
variable {s : State} {t : Tr} {w : WriteJob}

/-- The state with the datapath free. -/
def dpFreed (s : State) : State := { s with dp := none }

theorem dpFreed_tc (s : State) (t : Tr) : (dpFreed s).tc t = s.tc t := by cases t <;> rfl

theorem dpFreed_cx (s : State) (t : Tr) : (dpFreed s).cx t = s.cx t := by cases t <;> rfl

/-- A compression that leaves its block open (R94). -/
theorem compression_appends (dp : s.dp = some { t := t, decode := false, abandoned := false })
    (job : (s.tc t).job = some (.write w)) (abort : w.abort = .none) (verdict : w.verdict = none)
    (stays : (s.tc t).st = .waiting → ¬Resumes (s.tc t) (s.tc t).blockQ) (intake : (s.tc t).intake = [])
    (closed : (s.cx t).closed = none) (held : (s.cx t).held = none) (few : (s.cx t).cur.slices + 1 < 32) :
    ∃ u, Runs .compressionComplete s u ∧ NextTaken t ((dpFreed s).setCx t (s.cx t).compressed) u := by
  obtain ⟨x, hx⟩ : ∃ x, (s.cx t).compressed = x := ⟨_, rfl⟩
  have parts := compressed_parts (s.cx t)
  rw [hx] at parts ⊢
  obtain ⟨-, -, closed', held', -, -⟩ := parts
  have appended : (dpFreed s).compressed t = (dpFreed s).setCx t x := by
    rw [compressed_appends (w := w) (by rw [dpFreed_tc]; exact job) (by rw [dpFreed_tc]; exact intake)
      (by rw [dpFreed_cx]; exact closed) (by rw [dpFreed_cx]; exact held) (by rw [dpFreed_cx]; exact few), dpFreed_cx, hx]
  have tc : ((dpFreed s).setCx t x).tc t = s.tc t := by rw [State.setCx_tc, dpFreed_tc]
  have pumped : ((dpFreed s).setCx t x).writePump t = (dpFreed s).setCx t x := by
    refine writePump_idle (w := w) (by rw [tc]; exact job) (by rw [State.setCx_cx]; exact closed'.trans closed)
      (by rw [State.setCx_cx]; exact held'.trans held) (.inl (by rw [tc]; exact intake)) fun waiting _ => ?_
    rw [tc] at waiting ⊢
    exact ⟨stays waiting, abort, verdict⟩
  have idle : ((dpFreed s).setCx t x).dp = none := (closed_idle t).cx x rfl
  refine ⟨_, compressionComplete_runs (compressionDone_eq dp), ?_⟩
  show NextTaken t _ ((((dpFreed s).compressed t).writePump t).dpNext t)
  rw [appended, pumped]
  exact dpNext_taken idle

/-- A compression that closes its block, and what follows it (R91, R94, R112, R120, R142). -/
theorem compression_closes (dp : s.dp = some { t := t, decode := false, abandoned := false })
    (job : (s.tc t).job = some (.write w)) (abort : w.abort = .none) (verdict : w.verdict = none) (closed : (s.cx t).closed = none)
    (held : (s.cx t).held = none) {q : List QEntry}
    (closes : ((s.tc t).intake = [] ∧ 32 ≤ (s.cx t).compressed.cur.slices ∧
        q = (s.tc t).blockQ ++ [.block (s.cx t).compressed.cur]) ∨
      ∃ i, (s.tc t).intake = [.item i] ∧
        q = (s.tc t).blockQ ++ [.block (s.cx t).compressed.cur, if i = .mark then .mark else .close])
    (room : (s.tc t).blockQ.length + 1 < 32) :
    ∃ v u, Runs .compressionComplete s u ∧ NextTaken t v u ∧ (v.cx t).slice = [] ∧ (v.tc t).intake = [] ∧
      (v.cx t).cur = { payload := [], raw := 0, slices := 0 } ∧ v.mtb = s.mtb ∧ v.chg = s.chg ∧
      (((s.tc t).st = .waiting → ¬Resumes (s.tc t) q) →
        v.tc t = { s.tc t with intake := [], blockQ := q } ∧ v.lnk = s.lnk) ∧
      ((s.tc t).st = .waiting → Resumes (s.tc t) q → WriteEntries (s.tc t).blockQ →
        ∀ place, WriteStill (s.setTc t { s.tc t with intake := [] }) t w place → WriteStreams s v t w q place) := by
  obtain ⟨x, hx⟩ : ∃ x : Ctx, { (s.cx t).compressed with cur := emptyBlock } = x := ⟨_, rfl⟩
  have empty : x.slice = [] ∧ x.closed = none ∧ x.held = none ∧ x.cur = emptyBlock := by
    rw [← hx]
    exact ⟨rfl, closed, held, rfl⟩
  obtain ⟨slice, closed', held', cur⟩ := empty
  obtain ⟨c, hc⟩ : ∃ c : Tc, { s.tc t with intake := [], blockQ := q } = c := ⟨_, rfl⟩
  have fields : c.job = some (.write w) ∧ c.intake = [] ∧ c.blockQ = q ∧ c.st = (s.tc t).st := by
    rw [← hc]
    exact ⟨job, rfl, rfl, rfl⟩
  obtain ⟨jobc, intake, queue, st⟩ := fields
  obtain ⟨v₀, hv⟩ : ∃ v₀, ((dpFreed s).setCx t x).setTc t c = v₀ := ⟨_, rfl⟩
  have tc : v₀.tc t = c := by rw [← hv, State.setTc_tc]
  have cx : v₀.cx t = x := by rw [← hv, State.setTc_cx, State.setCx_cx]
  have running : (v₀.tc t).job = some (.write w) := by rw [tc]; exact jobc
  have compressed : (dpFreed s).compressed t = v₀ := by
    have left := compressed_closes (s := dpFreed s) (t := t) (w := w) (q := q) (by rw [dpFreed_tc]; exact job)
      (by rw [dpFreed_cx]; exact closed) (by rw [dpFreed_cx]; exact held) (by rw [dpFreed_tc, dpFreed_cx]; exact closes)
      (by rw [dpFreed_tc]; exact room)
    rw [dpFreed_tc, dpFreed_cx, hx, hc, hv] at left
    exact left
  have idle : v₀.dp = none := by
    rw [← hv]
    exact (closed_idle t).tc c ((closed_idle t).cx x rfl)
  have kept : v₀.mtb = s.mtb ∧ v₀.chg = s.chg ∧ v₀.lnk = s.lnk := by
    rw [← hv]
    cases t <;> exact ⟨rfl, rfl, rfl⟩
  obtain ⟨mtb, chg, lnk⟩ := kept
  obtain ⟨-, intake', context, -⟩ := writePump_work running (by rw [tc]; exact intake) (by rw [cx]; exact closed')
    (by rw [cx]; exact held')
  have emptied : ((v₀.writePump t).cx t).slice = [] ∧ ((v₀.writePump t).cx t).cur = emptyBlock := by
    obtain same | cleared := context
    · rw [same, cx]
      exact ⟨slice, cur⟩
    · rw [cleared]
      exact ⟨rfl, rfl⟩
  have pumped : Local t v₀ (v₀.writePump t) := (Local.refl t v₀).writePump
  refine ⟨v₀.writePump t, (v₀.writePump t).dpNext t, compressionComplete_runs ((compressionDone_eq dp).trans ?_), ?_, emptied.1, intake', emptied.2,
    (closed_mtb t s.mtb).writePump mtb, pumped.chg.trans chg, fun stays => ?_, fun waiting resumes entries place still => ?_⟩
  · show (((dpFreed s).compressed t).writePump t).dpNext t = _
    rw [compressed]
  · exact dpNext_taken ((closed_idle t).writePump idle)
  · have same : v₀.writePump t = v₀ := by
      refine writePump_idle running (by rw [cx]; exact closed') (by rw [cx]; exact held') (.inl (by rw [tc]; exact intake))
        fun waiting _ => ?_
      rw [tc] at waiting ⊢
      rw [queue]
      refine ⟨fun resumes => stays (st.symm.trans waiting) ?_, abort, verdict⟩
      rw [← hc] at resumes
      exact resumes
    rw [same, hc]
    exact ⟨tc, lnk⟩
  · have not_empty : q ≠ [] := by
      obtain ⟨-, -, rfl⟩ | ⟨i, -, rfl⟩ := closes <;> simp
    have all : WriteEntries (v₀.tc t).blockQ := by
      rw [tc, queue]
      obtain ⟨-, -, rfl⟩ | ⟨i, -, rfl⟩ := closes
      · intro e he
        obtain old | rfl := (List.mem_append.mp he).imp_right List.mem_singleton.mp
        · exact entries e old
        · exact .inl ⟨_, rfl⟩
      · intro e he
        obtain old | new := List.mem_append.mp he
        · exact entries e old
        · obtain rfl | rfl := (List.mem_cons.mp new).imp_right List.mem_singleton.mp
          · exact .inl ⟨_, rfl⟩
          · cases i
            · exact .inr (.inl rfl)
            · exact .inr (.inr rfl)
    have still₀ : WriteStill v₀ t w place := by
      unfold WriteStill at still ⊢
      rw [State.setTc_tc, State.setTc_mtb] at still
      rw [tc, cx, mtb]
      obtain ⟨start, idle', flight, rewrite, -, -, -, rest⟩ := still
      refine ⟨start, idle', ?_, ?_, intake, closed', held', ?_⟩
      all_goals rw [← hc]
      · exact flight
      · exact rewrite
      · exact rest
    have streams := (writePump_streams running (by rw [tc, st]; exact waiting) still₀ all
      (fun none_there => absurd (by rw [tc, queue] at none_there; exact none_there) not_empty)
      (fun _ => ⟨by rw [abort]; decide, verdict⟩) (.inl (by rw [tc, queue, ← hc]; exact resumes))).1
    rw [tc, queue] at streams
    exact writeStreams_of_gov streams (by rw [tc, ← hc]) mtb chg

end

/-- Settles O59: the two ends of a compression, the abandoned one, and the datapath's choices. -/
theorem compressionAppendsTheSlice : Obligations.CompressionAppendsTheSlice := by
  unfold Obligations.CompressionAppendsTheSlice
  refine ⟨?_, fun s t job => ready_of_none job, fun s t w job => ready_write_iff job, dpKick_taken⟩
  rintro s t x rfl
  refine ⟨?_, ?_, fun dp => ⟨_, compressionComplete_runs (compressionDone_abandoned dp), dpNext_taken rfl⟩⟩
  · rintro w tokens dp job abort verdict stays intake closed held few rfl
    obtain ⟨u, runs, taken⟩ := compression_appends dp job abort verdict stays intake closed held few
    obtain ⟨y, hy⟩ : ∃ y, (s.cx t).compressed = y := ⟨_, rfl⟩
    have parts := compressed_parts (s.cx t)
    rw [hy] at parts taken
    obtain ⟨slice, open_, -, -, history, cur⟩ := parts
    refine ⟨_, u, runs, taken, ?_⟩
    rw [State.setCx_cx, State.setCx_tc, dpFreed_tc, ← codeSlice_eq, cur]
    exact ⟨slice, open_, rfl, rfl, rfl, history, rfl, by cases t <;> rfl, by cases t <;> rfl, by cases t <;> rfl⟩
  · rintro w tokens b q dp job abort verdict closed held rfl rfl closes room
    exact compression_closes dp job abort verdict closed held closes room

end Sys2Proof.Proofs
end

section
/-! PROOFS. The completion of a decode (R96 to R101, R148, R151, R154, R157; O60). -/

open Sys2Proof Sys2Proof.Machine Sys2Proof.Claims

namespace Sys2Proof.Proofs

-- One declaration at a time: elaborated in parallel, the joined text needs more threads than the memory limit holds.
set_option Elab.async false

/-! ## What a completed slice leaves (R99) -/

theorem sliceDone_last (x : Ctx) (out : SliceOut) {slices : Nat} (last : slices = x.next + 1) :
    x.sliceDone out slices = { x with ref := false, next := 0, off := 0, decoded := 0, history := [] } :=
  if_neg (by omega)

theorem sliceDone_more (x : Ctx) (out : SliceOut) {slices : Nat} (more : x.next + 1 < slices) :
    x.sliceDone out slices = { x with
      next := x.next + 1, off := x.off + out.size, decoded := x.decoded + out.bytes.length
      history := lastHistory (x.history ++ out.bytes) } :=
  if_pos more

theorem sliceGood_verify {r : ReadJob} (verify : r.isRestore = false) (i : ReadInfo) (b : Block) (start n : Nat) (last : Bool) :
    r.sliceGood i b start n last = { r with rawChecked := r.rawChecked + n } := by
  unfold ReadJob.sliceGood
  rw [verify]
  rfl

/-- What a good slice leaves of the job but its counts. -/
theorem sliceGood_parts (r : ReadJob) (i : ReadInfo) (b : Block) (start n : Nat) (last : Bool) :
    ∃ skipped delivered, r.sliceGood i b start n last = { r with
      rawSkipped := skipped, rawChecked := if r.isRestore then r.rawChecked else r.rawChecked + n
      blocksDelivered := delivered } :=
  ⟨_, _, rfl⟩

theorem record_room {r : ReadJob} (room : r.faults.length < 32) (f : VFault) :
    r.record f = { r with faultCount := r.faultCount + 1, faults := r.faults ++ [f] } := by
  unfold ReadJob.record
  dsimp only
  rw [if_pos (show r.faults.length < Config.faultMax from room)]

section
variable {s : State} {t : Tr} {r : ReadJob} {i : ReadInfo} {b : Block} {gaps : List Gap} {rest : List QEntry} {out : SliceOut}

theorem decodeComplete_runs {u : State} (done : s.decodeDone = u) : Runs .decodeComplete s u :=
  runs_of_eq (v := s.decodeDone) rfl done

/-- A decode that completes: the datapath chooses behind what the job makes of it (R99, R102). -/
theorem decodeComplete_next (dp : s.dp = some { t := t, decode := true, abandoned := false }) {v : State}
    (left : (dpFreed s).decoded t = v) (idle : v.dp = none) : ∃ u, Runs .decodeComplete s u ∧ NextTaken t v u := by
  refine ⟨_, decodeComplete_runs (u := v.dpNext t) ?_, dpNext_taken idle⟩
  unfold State.decodeDone
  rw [dp, ← left]
  rfl

theorem decodeComplete_abandoned (dp : s.dp = some { t := t, decode := true, abandoned := true }) :
    ∃ u, Runs .decodeComplete s u ∧ NextTaken t { s with dp := none } u := by
  refine ⟨_, decodeComplete_runs (u := State.dpNext { s with dp := none } t) ?_, dpNext_taken rfl⟩
  unfold State.decodeDone
  rw [dp]
  rfl

theorem decoded_good (queue : (s.tc t).blockQ = .readBlock i b gaps :: rest) (good : (decodeNext (s.cx t) b).result = .good) :
    s.decoded t = (s.sliceGood t i b (decodeNext (s.cx t) b)).readPump t := by
  have head : (s.tc t).headBlock = some (i, b) := by
    unfold Tc.headBlock
    rw [queue]
  unfold State.decoded
  rw [head]
  dsimp only
  rw [good]

/-- The fault that a verify records for a slice (R99, R154). -/
def FaultKind (res : DecodeEnd) (k : Nat) (kind : VFaultKind) : Prop :=
  (res = .decodeError k ∧ kind = .decodeBad) ∨ (res = .checkFault k ∧ kind = .sliceCheck)

theorem decoded_bad {k : Nat} {kind : VFaultKind} (queue : (s.tc t).blockQ = .readBlock i b gaps :: rest)
    (bad : FaultKind (decodeNext (s.cx t) b).result k kind) : s.decoded t = (s.sliceBad t i b kind k).readPump t := by
  have head : (s.tc t).headBlock = some (i, b) := by
    unfold Tc.headBlock
    rw [queue]
  unfold State.decoded
  rw [head]
  dsimp only
  obtain ⟨res, rfl⟩ | ⟨res, rfl⟩ := bad
  · rw [res]
  · rw [res]

/-- The controller behind a good slice (R99). -/
def goodTc (c : Tc) (r : ReadJob) (last : Bool) : Tc :=
  { c with
    job := some (.read r), delivery := c.delivery.map DItem.check
    blockQ := if last then c.blockQ.tail else c.blockQ }

theorem goodTc_tail {c : Tc} (r : ReadJob) {e : QEntry} {rest : List QEntry} (queue : c.blockQ = e :: rest) :
    (goodTc c r true).blockQ = rest := by
  unfold goodTc
  dsimp only
  rw [if_pos rfl, queue]
  rfl

theorem sliceGood_eq (job : (s.tc t).job = some (.read r)) (i : ReadInfo) (b : Block) (out : SliceOut) :
    s.sliceGood t i b out = (s.setCx t ((s.cx t).sliceDone out b.slices)).setTc t (goodTc (s.tc t)
      (r.sliceGood i b (s.cx t).decoded out.bytes.length (decide (b.slices ≤ (s.cx t).next + 1)))
      (decide (b.slices ≤ (s.cx t).next + 1))) := by
  unfold State.sliceGood
  dsimp only
  rw [modRead_of_read job, modTc_eq, State.setCx_tc, State.setTc_tc]
  cases t <;> rfl

/-- The controller behind a faulty slice of a verify (R99, R154, R157). -/
def badTc (c : Tc) (x : Ctx) (r : ReadJob) (i : ReadInfo) (b : Block) (kind : VFaultKind) : Tc :=
  { c with
    job := some (.read (r.record { addr := i.addr, kind := kind, offset := 0 }))
    delivery := c.delivery.filterMap DItem.strip ++
      (if r.isCompare then [.gap (.bytes i.addr x.decoded (b.raw - x.decoded))] else [])
    blockQ := c.blockQ.tail }

theorem sliceBad_verify (job : (s.tc t).job = some (.read r)) (verify : r.isRestore = false) (i : ReadInfo) (b : Block)
    (kind : VFaultKind) (k : Nat) :
    s.sliceBad t i b kind k = (s.setCx t (s.cx t).giveUp).setTc t (badTc (s.tc t) (s.cx t) r i b kind) := by
  obtain ⟨c, hc⟩ : ∃ c : Tc, { s.tc t with
    delivery := (s.tc t).delivery.filterMap DItem.strip, blockQ := (s.tc t).blockQ.tail } = c := ⟨_, rfl⟩
  have running : c.job = some (.read r) := by rw [← hc]; exact job
  have begun : (s.setCx t (s.cx t).giveUp).modTc t (fun c => { c with
      delivery := c.delivery.filterMap DItem.strip, blockQ := c.blockQ.tail }) = (s.setCx t (s.cx t).giveUp).setTc t c := by
    rw [modTc_eq, State.setCx_tc, hc]
  unfold State.sliceBad
  dsimp only
  rw [readJob_of_job job]
  dsimp only
  rw [verify, if_neg Bool.false_ne_true, begun, modRead_of_read (r := r) (by rw [State.setTc_tc]; exact running), State.setTc_tc,
    setTc_setTc]
  unfold badTc
  rw [← hc]
  cases r.isCompare with
  | false => rw [if_neg Bool.false_ne_true, if_neg Bool.false_ne_true, List.append_nil]
  | true => rw [if_pos rfl, if_pos rfl, modTc_eq, State.setTc_tc, setTc_setTc]

/-- The controller of a restore behind a faulty slice: its reading ended RESTORE_FAULT (R151). -/
def faultOver (c : Tc) (r : ReadJob) (addr slice : Nat) : Tc :=
  { readingOver c { r with fault := some (addr, slice) } .restoreFault with
    blockQ := [], delivery := closeFilling (c.delivery.filterMap DItem.strip) }

theorem sliceBad_restore (job : (s.tc t).job = some (.read r)) (restore : r.isRestore = true) (idle : s.dp = none) (i : ReadInfo)
    (b : Block) (kind : VFaultKind) (k : Nat) :
    s.sliceBad t i b kind k = (s.setCx t { dir := .read }).setTc t (faultOver (s.tc t) r i.addr k) := by
  obtain ⟨c, hc⟩ : ∃ c : Tc, { s.tc t with
    delivery := (s.tc t).delivery.filterMap DItem.strip, blockQ := (s.tc t).blockQ.tail } = c := ⟨_, rfl⟩
  have running : c.job = some (.read r) := by rw [← hc]; exact job
  have cleared : ∀ d, ((s.setCx t (s.cx t).giveUp).setTc t d).clearCtx t .read = (s.setCx t { dir := .read }).setTc t d := fun d => by
    unfold State.clearCtx
    cases t
    all_goals
      show _ = _
      simp only [State.setTc, State.setCx, idle, Option.map_none]
  have over_ : { readingOver { c with job := some (.read { r with fault := some (i.addr, k) }) } { r with fault := some (i.addr, k) }
      .restoreFault with blockQ := [], delivery := closeFilling c.delivery } = faultOver (s.tc t) r i.addr k := by
    unfold faultOver readingOver
    rw [goto_eq, goto_eq, ← hc]
    unfold Tc.goto
    dsimp only
    split <;> rfl
  unfold State.sliceBad
  dsimp only
  rw [readJob_of_job job]
  dsimp only
  rw [if_pos restore, modTc_eq, State.setCx_tc, hc]
  unfold State.restoreFault
  dsimp only
  rw [modRead_of_read (r := r) (by rw [State.setTc_tc]; exact running), State.setTc_tc, setTc_setTc,
    endReading_eq (r := { r with fault := some (i.addr, k) }) (by rw [State.setTc_tc]), State.setTc_tc, setTc_setTc, cleared, modTc_eq,
    State.setTc_tc, setTc_setTc, ← over_]
  refine congrArg (State.setTc _ t) ?_
  unfold readingOver
  rw [goto_eq]

/-! ## The state behind the completion, before the reading goes on -/

/-- The engine with the datapath free, and t's context and controller as a completed decode leaves them. -/
def decodeLeft (s : State) (t : Tr) (x : Ctx) (c : Tc) : State := ((dpFreed s).setCx t x).setTc t c

theorem decodeLeft_tc (s : State) (t : Tr) (x : Ctx) (c : Tc) : (decodeLeft s t x c).tc t = c := State.setTc_tc ..

theorem decodeLeft_cx (s : State) (t : Tr) (x : Ctx) (c : Tc) : (decodeLeft s t x c).cx t = x := by
  unfold decodeLeft
  rw [State.setTc_cx, State.setCx_cx]

theorem decodeLeft_frame (s : State) (t : Tr) (x : Ctx) (c : Tc) :
    (decodeLeft s t x c).dp = none ∧ (decodeLeft s t x c).lnk = s.lnk ∧ (decodeLeft s t x c).mtb = s.mtb ∧
      (decodeLeft s t x c).chg = s.chg ∧ (decodeLeft s t x c).free = s.free := by
  cases t <;> exact ⟨rfl, rfl, rfl, rfl, rfl⟩

theorem decodeLeft_opOf (s : State) (t : Tr) (x : Ctx) (c : Tc) : (decodeLeft s t x c).opOf t = false := by
  unfold State.opOf
  rw [(decodeLeft_frame s t x c).1]

theorem decodeLeft_setTc (s : State) (t : Tr) (x : Ctx) (c d : Tc) : (decodeLeft s t x c).setTc t d = decodeLeft s t x d := setTc_setTc ..

theorem decodeLeft_local (s : State) (t : Tr) (x : Ctx) (c : Tc) : Local t s (decodeLeft s t x c) :=
  (((Local.refl t s).setDp none).setCx x).setTc c

theorem decoded_goodTc (job : (s.tc t).job = some (.read r)) (queue : (s.tc t).blockQ = .readBlock i b gaps :: rest)
    (good : (decodeNext (s.cx t) b).result = .good) {last : Bool} (whether : decide (b.slices ≤ (s.cx t).next + 1) = last) :
    (dpFreed s).decoded t = (decodeLeft s t ((s.cx t).sliceDone (decodeNext (s.cx t) b) b.slices) (goodTc (s.tc t)
      (r.sliceGood i b (s.cx t).decoded (decodeNext (s.cx t) b).bytes.length last) last)).readPump t := by
  rw [decoded_good (s := dpFreed s) (by rw [dpFreed_tc]; exact queue) (by rw [dpFreed_cx]; exact good),
    sliceGood_eq (r := r) (by rw [dpFreed_tc]; exact job), dpFreed_tc, dpFreed_cx, whether]
  rfl

theorem decoded_badTc {k : Nat} {kind : VFaultKind} (job : (s.tc t).job = some (.read r)) (verify : r.isRestore = false)
    (queue : (s.tc t).blockQ = .readBlock i b gaps :: rest) (bad : FaultKind (decodeNext (s.cx t) b).result k kind) :
    (dpFreed s).decoded t = (decodeLeft s t (s.cx t).giveUp (badTc (s.tc t) (s.cx t) r i b kind)).readPump t := by
  rw [decoded_bad (s := dpFreed s) (by rw [dpFreed_tc]; exact queue) (by rw [dpFreed_cx]; exact bad),
    sliceBad_verify (r := r) (by rw [dpFreed_tc]; exact job) verify, dpFreed_tc, dpFreed_cx]
  rfl

theorem decoded_faultOver {k : Nat} {kind : VFaultKind} (job : (s.tc t).job = some (.read r)) (restore : r.isRestore = true)
    (queue : (s.tc t).blockQ = .readBlock i b gaps :: rest) (bad : FaultKind (decodeNext (s.cx t) b).result k kind) :
    (dpFreed s).decoded t = (decodeLeft s t { dir := .read } (faultOver (s.tc t) r i.addr k)).readPump t := by
  rw [decoded_bad (s := dpFreed s) (by rw [dpFreed_tc]; exact queue) (by rw [dpFreed_cx]; exact bad),
    sliceBad_restore (r := r) (by rw [dpFreed_tc]; exact job) restore rfl, dpFreed_tc]
  rfl

theorem sliceGood_fields (r : ReadJob) (i : ReadInfo) (b : Block) (start n : Nat) (last : Bool) :
    (r.sliceGood i b start n last).ended = r.ended ∧ (r.sliceGood i b start n last).short = r.short ∧
      (r.sliceGood i b start n last).pendingGaps = r.pendingGaps ∧ (r.sliceGood i b start n last).isCompare = r.isCompare ∧
      (r.sliceGood i b start n last).isRestore = r.isRestore ∧
      (r.sliceGood i b start n last).rawChecked = (if r.isRestore then r.rawChecked else r.rawChecked + n) :=
  ⟨rfl, rfl, rfl, rfl, rfl, rfl⟩

theorem compare_of_restore (restore : r.isRestore = true) : r.isCompare = false := by
  cases compares : r.isCompare with
  | false => rfl
  | true =>
    have := isRestore_of_compare compares
    rw [restore] at this
    cases this

/-! ## Good slices of a reading that goes on (R99) -/

theorem decode_last (dp : s.dp = some { t := t, decode := true, abandoned := false }) (job : (s.tc t).job = some (.read r))
    (restore : r.isRestore = true) (running : r.ended = none) (short : r.short = none) (reading : (s.tc t).st = .reading)
    (queue : (s.tc t).blockQ = [.readBlock i b []]) (good : (decodeNext (s.cx t) b).result = .good)
    (last : b.slices = (s.cx t).next + 1) :
    ∃ v u, Runs .decodeComplete s u ∧ NextTaken t v u ∧ (v.tc t).blockQ = [] ∧ (v.tc t).st = .reading ∧
      (v.tc t).delivery = (s.tc t).delivery.map DItem.check ∧ (v.cx t).ref = false ∧ (v.cx t).history = [] ∧
      v.lnk = s.lnk ∧ v.mtb = s.mtb ∧ v.chg = s.chg := by
  have whether : decide (b.slices ≤ (s.cx t).next + 1) = true := decide_eq_true (Nat.le_of_eq last)
  have decoded := decoded_goodTc job queue good whether
  rw [sliceDone_last _ _ last] at decoded
  obtain ⟨r', hr⟩ : ∃ r', r.sliceGood i b (s.cx t).decoded (decodeNext (s.cx t) b).bytes.length true = r' := ⟨_, rfl⟩
  obtain ⟨ended', short', -, compares', -, -⟩ := sliceGood_fields r i b (s.cx t).decoded (decodeNext (s.cx t) b).bytes.length true
  rw [hr] at decoded ended' short' compares'
  have tail : (goodTc (s.tc t) r' true).blockQ = [] := goodTc_tail r' queue
  obtain ⟨x, hx⟩ : ∃ x, ({ s.cx t with ref := false, next := 0, off := 0, decoded := 0, history := [] } : Ctx) = x := ⟨_, rfl⟩
  rw [hx] at decoded
  have stays := readPump_stays (s := decodeLeft s t x (goodTc (s.tc t) r' true)) (t := t) (r := r') (by rw [decodeLeft_tc]; rfl)
    (.inl (by rw [decodeLeft_tc]; exact tail)) (short'.trans short) (.inl (compares'.trans (compare_of_restore restore)))
    (.inl ⟨ended'.trans running, by rw [decodeLeft_tc]; show (s.tc t).st ≠ _; rw [reading]; decide⟩)
  rw [stays] at decoded
  obtain ⟨idle, lnk, mtb, chg, -⟩ := decodeLeft_frame s t x (goodTc (s.tc t) r' true)
  obtain ⟨u, runs, next⟩ := decodeComplete_next dp decoded idle
  refine ⟨_, u, runs, next, ?_, ?_, ?_, ?_, ?_, lnk, mtb, chg⟩
  · rw [decodeLeft_tc, tail]
  · rw [decodeLeft_tc]
    exact reading
  · rw [decodeLeft_tc]
    rfl
  · rw [decodeLeft_cx, ← hx]
  · rw [decodeLeft_cx, ← hx]

theorem decode_more (dp : s.dp = some { t := t, decode := true, abandoned := false }) (job : (s.tc t).job = some (.read r))
    (no_compare : r.isCompare = false) (running : r.ended = none) (short : r.short = none) (reading : (s.tc t).st = .reading)
    (queue : (s.tc t).blockQ = .readBlock i b [] :: rest) (out_ : out = decodeNext (s.cx t) b) (good : out.result = .good)
    (more : (s.cx t).next + 1 < b.slices) :
    ∃ v u r', Runs .decodeComplete s u ∧ NextTaken t v u ∧ (v.tc t).blockQ = (s.tc t).blockQ ∧
      (v.tc t).job = some (.read r') ∧
      r'.rawChecked = (if r.isRestore then r.rawChecked else r.rawChecked + out.bytes.length) ∧
      (v.cx t).next = (s.cx t).next + 1 ∧ (v.cx t).off = (s.cx t).off + out.size ∧
      (v.cx t).decoded = (s.cx t).decoded + out.bytes.length ∧
      (v.cx t).history = ((s.cx t).history ++ out.bytes).drop (((s.cx t).history ++ out.bytes).length - 4096) ∧
      v.lnk = s.lnk ∧ v.mtb = s.mtb := by
  subst out_
  have whether : decide (b.slices ≤ (s.cx t).next + 1) = false := decide_eq_false (Nat.not_le.mpr more)
  have decoded := decoded_goodTc job queue good whether
  rw [sliceDone_more _ _ more] at decoded
  obtain ⟨r', hr⟩ : ∃ r', r.sliceGood i b (s.cx t).decoded (decodeNext (s.cx t) b).bytes.length false = r' := ⟨_, rfl⟩
  obtain ⟨ended', short', -, compares', -, raw'⟩ :=
    sliceGood_fields r i b (s.cx t).decoded (decodeNext (s.cx t) b).bytes.length false
  rw [hr] at decoded ended' short' compares' raw'
  have same : (goodTc (s.tc t) r' false).blockQ = (s.tc t).blockQ := by
    unfold goodTc
    rfl
  obtain ⟨x, hx⟩ : ∃ x, ({ s.cx t with
    next := (s.cx t).next + 1, off := (s.cx t).off + (decodeNext (s.cx t) b).size
    decoded := (s.cx t).decoded + (decodeNext (s.cx t) b).bytes.length
    history := lastHistory ((s.cx t).history ++ (decodeNext (s.cx t) b).bytes) } : Ctx) = x := ⟨_, rfl⟩
  rw [hx] at decoded
  have stays := readPump_stays (s := decodeLeft s t x (goodTc (s.tc t) r' false)) (t := t) (r := r') (by rw [decodeLeft_tc]; rfl)
    (.inr ⟨i, b, rest, by rw [decodeLeft_tc, same, queue]⟩) (short'.trans short) (.inl (compares'.trans no_compare))
    (.inl ⟨ended'.trans running, by rw [decodeLeft_tc]; show (s.tc t).st ≠ _; rw [reading]; decide⟩)
  rw [stays] at decoded
  obtain ⟨idle, lnk, mtb, -, -⟩ := decodeLeft_frame s t x (goodTc (s.tc t) r' false)
  obtain ⟨u, runs, next⟩ := decodeComplete_next dp decoded idle
  refine ⟨_, u, r', runs, next, ?_, ?_, raw', ?_, ?_, ?_, ?_, lnk, mtb⟩
  · rw [decodeLeft_tc, same]
  · rw [decodeLeft_tc]
    rfl
  · rw [decodeLeft_cx, ← hx]
  · rw [decodeLeft_cx, ← hx]
  · rw [decodeLeft_cx, ← hx]
  · rw [decodeLeft_cx, ← hx]
    unfold lastHistory
    dsimp only

/-! ## A reading in WAITING whose block queue gets shorter (R99, R141) -/

theorem decode_resumes {x : Ctx} {c : Tc} (dp : s.dp = some { t := t, decode := true, abandoned := false })
    (left : (dpFreed s).decoded t = (decodeLeft s t x c).readPump t) (job : c.job = some (.read r)) (no_compare : r.isCompare = false)
    (running : r.ended = none) (short : r.short = none) (waiting : c.st = .waiting) (plain : HeadPlain c.blockQ) {rest : List QEntry}
    (queue : c.blockQ = rest) (pos : c.pos = (s.tc t).pos) (gov : c.gov = (s.tc t).gov) :
    ∃ v u, Runs .decodeComplete s u ∧ NextTaken t v u ∧ (v.tc t).blockQ = rest ∧ (v.tc t).pos = (s.tc t).pos ∧
      (v.tc t).st = (if rest.length ≤ (s.tc t).gov.active.resume then .reading else .waiting) ∧
      (v.tc t).gov = (if rest.length ≤ (s.tc t).gov.active.resume then started (s.tc t).gov else (s.tc t).gov) ∧
      v.lnk = s.lnk ∧ v.mtb = s.mtb ∧ v.chg = s.chg := by
  have pumped := readPump_running (s := decodeLeft s t x c) (t := t) (r := r) (by rw [decodeLeft_tc]; exact job)
    (by rw [decodeLeft_tc]; exact plain) running no_compare short
  rw [decodeLeft_tc, decodeLeft_setTc, waiting, gov, queue] at pumped
  simp only [true_and] at pumped
  by_cases few : rest.length ≤ (s.tc t).gov.active.resume
  · rw [if_pos few] at pumped
    rw [pumped] at left
    obtain ⟨idle, lnk, mtb, chg, -⟩ := decodeLeft_frame s t x { c with st := .reading, gov := started (s.tc t).gov }
    rw [queue] at left
    simp only [if_pos few]
    obtain ⟨u, runs, next⟩ := decodeComplete_next dp left (decodeLeft_frame ..).1
    refine ⟨_, u, runs, next, ?_, ?_, ?_, ?_, (decodeLeft_frame ..).2.1, (decodeLeft_frame ..).2.2.1, (decodeLeft_frame ..).2.2.2.1⟩
    · rw [decodeLeft_tc]
    · rw [decodeLeft_tc]
      exact pos
    · rw [decodeLeft_tc]
    · rw [decodeLeft_tc]
  · rw [if_neg few] at pumped
    rw [pumped] at left
    obtain ⟨idle, lnk, mtb, chg, -⟩ := decodeLeft_frame s t x c
    simp only [if_neg few]
    obtain ⟨u, runs, next⟩ := decodeComplete_next dp left idle
    exact ⟨_, u, runs, next, by rw [decodeLeft_tc, queue], by rw [decodeLeft_tc, pos], by rw [decodeLeft_tc, waiting],
      by rw [decodeLeft_tc, gov], lnk, mtb, chg⟩

theorem faultKind_of_bad (bad : (decodeNext (s.cx t) b).result ≠ .good) :
    ∃ k kind, FaultKind (decodeNext (s.cx t) b).result k kind := by
  cases res : (decodeNext (s.cx t) b).result with
  | good => exact absurd res bad
  | decodeError k => exact ⟨k, _, .inl ⟨rfl, rfl⟩⟩
  | checkFault k => exact ⟨k, _, .inr ⟨rfl, rfl⟩⟩

theorem decode_waiting (dp : s.dp = some { t := t, decode := true, abandoned := false }) (job : (s.tc t).job = some (.read r))
    (no_compare : r.isCompare = false) (running : r.ended = none) (short : r.short = none) (waiting : (s.tc t).st = .waiting)
    (queue : (s.tc t).blockQ = .readBlock i b [] :: rest) (plain : HeadPlain rest)
    (removed : ((decodeNext (s.cx t) b).result = .good ∧ b.slices = (s.cx t).next + 1) ∨
      ((decodeNext (s.cx t) b).result ≠ .good ∧ r.isRestore = false)) :
    ∃ v u, Runs .decodeComplete s u ∧ NextTaken t v u ∧ (v.tc t).blockQ = rest ∧ (v.tc t).pos = (s.tc t).pos ∧
      (v.tc t).st = (if rest.length ≤ (s.tc t).gov.active.resume then .reading else .waiting) ∧
      (v.tc t).gov = (if rest.length ≤ (s.tc t).gov.active.resume then started (s.tc t).gov else (s.tc t).gov) ∧
      v.lnk = s.lnk ∧ v.mtb = s.mtb ∧ v.chg = s.chg := by
  obtain ⟨good, last⟩ | ⟨bad, verify⟩ := removed
  · have whether : decide (b.slices ≤ (s.cx t).next + 1) = true := decide_eq_true (Nat.le_of_eq last)
    obtain ⟨ended', short', -, compares', -, -⟩ := sliceGood_fields r i b (s.cx t).decoded (decodeNext (s.cx t) b).bytes.length true
    have tail : ∀ r', (goodTc (s.tc t) r' true).blockQ = rest := fun r' => goodTc_tail r' queue
    exact decode_resumes dp (decoded_goodTc job queue good whether) rfl (compares'.trans no_compare) (ended'.trans running)
      (short'.trans short) waiting (by rw [tail]; exact plain) (tail _) rfl rfl
  · obtain ⟨k, kind, fault⟩ := faultKind_of_bad bad
    exact decode_resumes dp (decoded_badTc job verify queue fault) (r := r.record { addr := i.addr, kind := kind, offset := 0 })
      rfl no_compare running short waiting (by show HeadPlain (s.tc t).blockQ.tail; rw [queue]; exact plain)
      (by show (s.tc t).blockQ.tail = rest; rw [queue]; rfl) rfl rfl

/-! ## A verify (R99, R154, R157) -/

theorem not_restore_of_verify {a : Nat} {range : VerifyRange} {mode : VerifyMode} {policy : FaultPolicy}
    (spec : r.spec = .verify a range mode policy) : r.isRestore = false := (compare_of_verify spec).2

theorem decode_verified {a : Nat} {range : VerifyRange} {mode : VerifyMode} {policy : FaultPolicy}
    (dp : s.dp = some { t := t, decode := true, abandoned := false }) (job : (s.tc t).job = some (.read r))
    (spec : r.spec = .verify a range mode policy) (running : r.ended = none) (short : r.short = none) (reading : (s.tc t).st = .reading)
    (queue : (s.tc t).blockQ = [.readBlock i b []]) (delivery : (s.tc t).delivery = []) (intake : (s.tc t).intake = [])
    (out_ : out = decodeNext (s.cx t) b) (good : out.result = .good) (last : b.slices = (s.cx t).next + 1) :
    ∃ v u, Runs .decodeComplete s u ∧ NextTaken t v u ∧ (v.tc t).blockQ = [] ∧ (v.tc t).st = .reading ∧
      (v.tc t).job = some (.read { r with rawChecked := r.rawChecked + out.bytes.length }) := by
  subst out_
  have whether : decide (b.slices ≤ (s.cx t).next + 1) = true := decide_eq_true (Nat.le_of_eq last)
  have decoded := decoded_goodTc job queue good whether
  rw [sliceGood_verify (not_restore_of_verify spec)] at decoded
  obtain ⟨x, hx⟩ : ∃ x, (s.cx t).sliceDone (decodeNext (s.cx t) b) b.slices = x := ⟨_, rfl⟩
  obtain ⟨r', hr⟩ : ∃ r', { r with rawChecked := r.rawChecked + (decodeNext (s.cx t) b).bytes.length } = r' := ⟨_, rfl⟩
  rw [hx, hr] at decoded
  have tail : (goodTc (s.tc t) r' true).blockQ = [] := goodTc_tail r' queue
  have none_there : (goodTc (s.tc t) r' true).delivery = [] := by
    unfold goodTc
    dsimp only
    rw [delivery]
    rfl
  have stays := readPump_stays (s := decodeLeft s t x (goodTc (s.tc t) r' true)) (t := t) (r := r') (by rw [decodeLeft_tc]; rfl)
    (.inl (by rw [decodeLeft_tc]; exact tail)) (by rw [← hr]; exact short)
    (.inr (by rw [decodeLeft_tc]; exact ⟨none_there, intake⟩))
    (.inl ⟨by rw [← hr]; exact running, by rw [decodeLeft_tc]; show (s.tc t).st ≠ _; rw [reading]; decide⟩)
  rw [stays] at decoded
  obtain ⟨u, runs, next⟩ := decodeComplete_next dp decoded (decodeLeft_frame s t x _).1
  refine ⟨_, u, runs, next, ?_, ?_, ?_⟩
  · rw [decodeLeft_tc, tail]
  · rw [decodeLeft_tc]
    exact reading
  · rw [decodeLeft_tc, hr]
    rfl

/-- A comparison with a gap at its head and no host byte: a gap of no byte is dropped, another waits (R157, R158). -/
theorem readPump_gapHead {a p n : Nat} (job : (s.tc t).job = some (.read r)) (compares : r.isCompare = true) (running : r.ended = none)
    (still : (s.tc t).st ≠ .waiting) (short : r.short = none) (aligned : r.unaligned = false) (queue : (s.tc t).blockQ = [])
    (delivery : (s.tc t).delivery = [.gap (.bytes a p n)]) (intake : (s.tc t).intake = []) :
    s.readPump t = s.setTc t { s.tc t with delivery := if n = 0 then [] else [.gap (.bytes a p n)] } := by
  have compared : s.compare t = s.setTc t { s.tc t with delivery := if n = 0 then [] else [.gap (.bytes a p n)] } := by
    by_cases none_left : n = 0
    · have step : Cmp.step { delivery := (s.tc t).delivery, intake := (s.tc t).intake, job := r } =
          some { delivery := [], intake := (s.tc t).intake, job := r } := by
        rw [delivery]
        simp [Cmp.step, short, aligned, none_left]
      have stuck : Cmp.step { delivery := [], intake := (s.tc t).intake, job := r } = none := by
        rw [intake]
        simp [Cmp.step, short, aligned]
      rw [compare_of_run job compares ((cmpRun_of_step step _).trans (cmpRun_of_stuck stuck _)), if_pos rfl, if_pos none_left, ← job]
    · have stuck : Cmp.step { delivery := (s.tc t).delivery, intake := (s.tc t).intake, job := r } = none := by
        rw [delivery, intake]
        simp [Cmp.step, short, aligned, none_left]
      rw [compare_stuck job compares stuck, if_neg none_left, ← delivery]
      exact (setTc_self s t).symm
  have job' : ((s.setTc t { s.tc t with delivery := if n = 0 then [] else [.gap (.bytes a p n)] }).tc t).job = some (.read r) := by
    rw [State.setTc_tc]
    exact job
  rw [readPump_compares job (.inl queue) running still, compared, shortEnd_self job' short, readEndTest_self job' (.inl running)]

theorem decode_recorded {a : Nat} {range : VerifyRange} {mode : VerifyMode} {policy : FaultPolicy} {k : Nat} {kind : VFaultKind}
    (dp : s.dp = some { t := t, decode := true, abandoned := false }) (job : (s.tc t).job = some (.read r))
    (spec : r.spec = .verify a range mode policy) (running : r.ended = none) (short : r.short = none) (aligned : r.unaligned = false)
    (reading : (s.tc t).st = .reading) (queue : (s.tc t).blockQ = [.readBlock i b []]) (delivery : (s.tc t).delivery = [])
    (intake : (s.tc t).intake = []) (room : r.faults.length < 32) (fault : FaultKind (decodeNext (s.cx t) b).result k kind) :
    ∃ v u, Runs .decodeComplete s u ∧ NextTaken t v u ∧ (v.tc t).blockQ = [] ∧ (v.tc t).st = .reading ∧
      (v.tc t).job = some (.read { r with
        faultCount := r.faultCount + 1, faults := r.faults ++ [{ addr := i.addr, kind := kind, offset := 0 }] }) ∧
      (v.cx t).ref = false ∧
      ((s.cx t).decoded < b.raw → (v.tc t).delivery =
        (if mode = .compare then [.gap (.bytes i.addr (s.cx t).decoded (b.raw - (s.cx t).decoded))] else [])) := by
  obtain ⟨compares, verify⟩ := compare_of_verify spec
  have decoded := decoded_badTc job verify queue fault
  obtain ⟨c, hc⟩ : ∃ c, badTc (s.tc t) (s.cx t) r i b kind = c := ⟨_, rfl⟩
  obtain ⟨r', hr⟩ : ∃ r', ({ r with
    faultCount := r.faultCount + 1, faults := r.faults ++ [{ addr := i.addr, kind := kind, offset := 0 }] } : ReadJob) = r' := ⟨_, rfl⟩
  have job' : c.job = some (.read r') := by
    rw [← hc, ← hr, ← record_room room]
    rfl
  have tail : c.blockQ = [] := by
    rw [← hc]
    show (s.tc t).blockQ.tail = []
    rw [queue]
    rfl
  have st : c.st = .reading := by
    rw [← hc]
    exact reading
  have idle_host : c.intake = [] := by
    rw [← hc]
    exact intake
  have left : c.delivery =
      if mode = .compare then [.gap (.bytes i.addr (s.cx t).decoded (b.raw - (s.cx t).decoded))] else [] := by
    rw [← hc]
    unfold badTc
    dsimp only
    rw [delivery, compares]
    simp only [List.filterMap_nil, List.nil_append, decide_eq_true_eq]
  have still : c.st ≠ .waiting := by rw [st]; decide
  have short' : r'.short = none := by rw [← hr]; exact short
  have running' : r'.ended = none := by rw [← hr]; exact running
  have compares' : r'.isCompare = decide (mode = .compare) := by rw [← hr]; exact compares
  rw [hc] at decoded
  suffices ∃ d, (decodeLeft s t (s.cx t).giveUp c).readPump t = decodeLeft s t (s.cx t).giveUp { c with delivery := d } ∧
      ((s.cx t).decoded < b.raw → d = c.delivery) by
    obtain ⟨d, pumped, kept⟩ := this
    rw [pumped] at decoded
    obtain ⟨u, runs, next⟩ := decodeComplete_next dp decoded (decodeLeft_frame s t _ _).1
    refine ⟨_, u, runs, next, ?_, ?_, ?_, ?_, fun more => ?_⟩
    · rw [decodeLeft_tc]
      exact tail
    · rw [decodeLeft_tc]
      exact st
    · rw [decodeLeft_tc, hr]
      exact job'
    · rw [decodeLeft_cx]
      rfl
    · rw [decodeLeft_tc, ← left]
      exact kept more
  by_cases comparing : mode = .compare
  · rw [if_pos comparing] at left
    have pumped := readPump_gapHead (s := decodeLeft s t (s.cx t).giveUp c) (t := t) (r := r') (by rw [decodeLeft_tc]; exact job')
      (compares'.trans (decide_eq_true comparing)) running' (by rw [decodeLeft_tc]; exact still) short'
      (by rw [← hr]; exact aligned) (by rw [decodeLeft_tc]; exact tail) (by rw [decodeLeft_tc]; exact left)
      (by rw [decodeLeft_tc]; exact idle_host)
    rw [decodeLeft_tc, decodeLeft_setTc] at pumped
    refine ⟨_, pumped, fun more => ?_⟩
    rw [if_neg (by omega), left]
  · refine ⟨c.delivery, ?_, fun _ => rfl⟩
    exact readPump_stays (s := decodeLeft s t (s.cx t).giveUp c) (t := t) (r := r') (by rw [decodeLeft_tc]; exact job')
      (.inl (by rw [decodeLeft_tc]; exact tail)) short' (.inl (compares'.trans (decide_eq_false comparing)))
      (.inl ⟨running', by rw [decodeLeft_tc]; exact still⟩)

end

end Sys2Proof.Proofs
end

section
/-! PROOFS. A decode whose completion ends a reading or its job, the readiness of a read context, and the placing of decoded
bytes (R99 to R101, R148 to R152, R161; O60). -/

open Sys2Proof Sys2Proof.Machine Sys2Proof.Claims

namespace Sys2Proof.Proofs

-- One declaration at a time: elaborated in parallel, the joined text needs more threads than the memory limit holds.
set_option Elab.async false

section
variable {s : State} {t : Tr} {r : ReadJob} {i : ReadInfo} {b : Block} {rest : List QEntry} {x : Ctx} {c : Tc}

/-! ## The job ends, or waits for its deliveries (R150 to R152) -/

theorem decode_ends {e : JobResult} (dp : s.dp = some { t := t, decode := true, abandoned := false })
    (left : (dpFreed s).decoded t = (decodeLeft s t x c).readPump t) (job : c.job = some (.read r)) (ended : r.ended = some e)
    (short : r.short = none) (gaps : r.pendingGaps = []) (queue : c.blockQ = []) (delivery : c.delivery = []) (no_compare : r.isCompare = false) :
    ∃ v u, Runs .decodeComplete s u ∧ NextTaken t v u ∧ (v.tc t).st = .ready ∧ (v.tc t).pos = c.pos ∧
      JobEnded t (Job.kind (.read r)) r.result
        (reportOf v (s.mtb.get (.bay t)) s.free (.read (r.leave c.intake)) r.result) s v := by
  obtain ⟨idle, lnk, mtb, chg, free⟩ := decodeLeft_frame s t x c
  have pumped := readPump_ends (s := decodeLeft s t x c) (t := t) (r := r) (by rw [decodeLeft_tc]; exact job) ended short gaps
    (by rw [decodeLeft_tc]; exact queue) (by rw [decodeLeft_tc]; exact delivery) (.inl no_compare) (decodeLeft_opOf ..)
  obtain ⟨over_, st, pos, -⟩ := endRead_ends (s := decodeLeft s t x c) (t := t) (r := r) (by rw [decodeLeft_tc]; exact job) r.result
  have dp_idle := (closed_idle t).readPump (s := decodeLeft s t x c) (fun f h => h) idle
  rw [← pumped, decodeLeft_tc, mtb, free] at over_
  rw [← pumped] at st
  rw [← pumped, decodeLeft_tc] at pos
  obtain ⟨u, runs, next⟩ := decodeComplete_next dp left dp_idle
  exact ⟨_, u, runs, next, st, pos, jobEnded_of_local (decodeLeft_local s t x c) lnk over_⟩

/-- A restore whose reading has ended, with nothing left to decode: its filling chunk is closed and waits to be sent (R150). -/
theorem readPump_closes {e : JobResult} (job : (s.tc t).job = some (.read r)) (restore : r.isRestore = true) (ended : r.ended = some e)
    (short : r.short = none) (gaps : r.pendingGaps = []) (queue : (s.tc t).blockQ = []) (free : s.opOf t = false)
    (something : closeFilling (s.tc t).delivery ≠ []) :
    s.readPump t = s.setTc t { s.tc t with delivery := closeFilling (s.tc t).delivery } := by
  have no_resume : ¬((s.tc t).st = .waiting ∧ r.ended = none ∧ (s.tc t).blockQ.length ≤ (s.tc t).gov.active.resume) := by
    rw [ended]
    exact fun h => nomatch h.2.1
  unfold State.readPump
  rw [takeHeads_self job (.inl queue), lastGaps_self job (.inr (.inr gaps)), readResume_eq job, if_neg no_resume,
    compare_self job (compare_of_restore restore), shortEnd_self job short]
  unfold State.readEndTest
  rw [readJob_of_job job]
  dsimp only
  rw [if_pos ⟨by rw [ended]; rfl, queue, by rw [free]; rfl⟩, if_pos restore, modTc_eq, State.setTc_tc, if_neg something]

theorem decode_closes {e : JobResult} (dp : s.dp = some { t := t, decode := true, abandoned := false })
    (left : (dpFreed s).decoded t = (decodeLeft s t x c).readPump t) (job : c.job = some (.read r)) (restore : r.isRestore = true)
    (ended : r.ended = some e) (short : r.short = none) (gaps : r.pendingGaps = []) (queue : c.blockQ = [])
    (something : closeFilling c.delivery ≠ []) :
    ∃ u, Runs .decodeComplete s u ∧ NextTaken t (decodeLeft s t x { c with delivery := closeFilling c.delivery }) u := by
  have pumped := readPump_closes (s := decodeLeft s t x c) (t := t) (r := r) (by rw [decodeLeft_tc]; exact job) restore ended short gaps
    (by rw [decodeLeft_tc]; exact queue) (decodeLeft_opOf ..) (by rw [decodeLeft_tc]; exact something)
  rw [decodeLeft_tc, decodeLeft_setTc] at pumped
  rw [pumped] at left
  exact decodeComplete_next dp left (decodeLeft_frame ..).1

/-! ## A faulty slice of a restore (R151) -/

theorem faultOver_parts (c : Tc) (r : ReadJob) (addr slice : Nat) :
    (faultOver c r addr slice).job = some (.read { r with fault := some (addr, slice), ended := some .restoreFault }) ∧
      (faultOver c r addr slice).st = .waiting ∧ (faultOver c r addr slice).pos = c.pos ∧ (faultOver c r addr slice).blockQ = [] ∧
      (faultOver c r addr slice).delivery = closeFilling (c.delivery.filterMap DItem.strip) := by
  unfold faultOver
  obtain ⟨gov, -, parts⟩ := readingOver_parts c { r with fault := some (addr, slice) } .restoreFault
  rw [parts]
  exact ⟨rfl, rfl, rfl, rfl, rfl⟩

theorem spec_of_restore (restore : r.isRestore = true) : ∃ offset stop, r.spec = .restore offset stop := by
  unfold ReadJob.isRestore at restore
  cases spec : r.spec with
  | restore offset stop => exact ⟨offset, stop, rfl⟩
  | verify a range mode policy =>
    rw [spec] at restore
    cases restore

/-- The report of a RESTORE_FAULT gives the resume point, whatever the reading had ended with before (R151, R165). -/
theorem restoreLayout_fault (r : ReadJob) (e : Option JobResult) (n : Nat) :
    restoreLayout { r with ended := e, surplus := n } .restoreFault = restoreLayout r .restoreFault := by
  unfold restoreLayout
  dsimp only
  have told : ∀ e : Option JobResult,
      ¬(JobResult.restoreFault = .ok ∨ (JobResult.restoreFault = .aborted ∧ e = some .ok)) := fun e h => by
    obtain h | ⟨h, -⟩ := h <;> cases h
  rw [if_neg (told e), if_neg (told r.ended)]

theorem decode_restoreFault {k : Nat} {kind : VFaultKind} (dp : s.dp = some { t := t, decode := true, abandoned := false })
    (job : (s.tc t).job = some (.read r)) (restore : r.isRestore = true) (short : r.short = none) (gaps : r.pendingGaps = [])
    (queue : (s.tc t).blockQ = .readBlock i b [] :: rest) (fault : FaultKind (decodeNext (s.cx t) b).result k kind)
    (delivery : (s.tc t).delivery = []) :
    ∃ v u, Runs .decodeComplete s u ∧ NextTaken t v u ∧ (v.tc t).st = .ready ∧ (v.tc t).pos = (s.tc t).pos ∧
      JobEnded t .restore .restoreFault
        (reportOf v (s.mtb.get (.bay t)) s.free (.read { r with fault := some (i.addr, k) }) .restoreFault) s v := by
  obtain ⟨job', -, pos', queue', delivery'⟩ := faultOver_parts (s.tc t) r i.addr k
  obtain ⟨offset, stop, spec⟩ := spec_of_restore restore
  obtain ⟨v, u, runs, next, st, pos, ended⟩ := decode_ends dp (decoded_faultOver job restore queue fault) job' rfl short gaps queue'
    (by rw [delivery', delivery]; rfl) (compare_of_restore restore)
  have kind_ : Job.kind (.read { r with fault := some (i.addr, k), ended := some .restoreFault }) = .restore := by
    unfold Job.kind
    dsimp only
    rw [spec]
  have result : ReadJob.result { r with fault := some (i.addr, k), ended := some .restoreFault } = .restoreFault := rfl
  obtain ⟨held, hq⟩ : ∃ q, (faultOver (s.tc t) r i.addr k).intake = q := ⟨_, rfl⟩
  rw [kind_, result, hq, reportOf_restore_congr (r := { r with fault := some (i.addr, k) })
    (r' := ReadJob.leave { r with fault := some (i.addr, k), ended := some .restoreFault } held)
    spec rfl rfl (restoreLayout_fault { r with fault := some (i.addr, k) } _ _)
    (fun a x => restoreLayout_fault { r with fault := some (i.addr, k), applied := a, x := x } _ _)] at ended
  exact ⟨v, u, runs, next, st, pos.trans pos', ended⟩

theorem decode_restoreFault_waits {k : Nat} {kind : VFaultKind} (dp : s.dp = some { t := t, decode := true, abandoned := false })
    (job : (s.tc t).job = some (.read r)) (restore : r.isRestore = true) (short : r.short = none) (gaps : r.pendingGaps = [])
    (queue : (s.tc t).blockQ = .readBlock i b [] :: rest) (fault : FaultKind (decodeNext (s.cx t) b).result k kind)
    {bs : List DByte} {closed goesOn : Bool} (delivery : (s.tc t).delivery = [.chunk bs closed goesOn])
    (kept : ∃ d ∈ bs, d.checked = true) :
    ∃ v u r', Runs .decodeComplete s u ∧ NextTaken t v u ∧ (v.tc t).st = .waiting ∧ (v.tc t).blockQ = [] ∧
      (v.tc t).delivery = [.chunk (bs.filter (·.checked)) true goesOn] ∧ v.cx t = { dir := .read } ∧
      (v.tc t).job = some (.read r') ∧ r'.ended = some .restoreFault ∧ r'.fault = some (i.addr, k) ∧
      r'.readFault = r.readFault := by
  obtain ⟨job', st', -, queue', delivery'⟩ := faultOver_parts (s.tc t) r i.addr k
  obtain ⟨d, ds, hd⟩ : ∃ d ds, bs.filter (·.checked) = d :: ds := by
    obtain ⟨d, inside, checked⟩ := kept
    exact List.exists_cons_of_ne_nil (List.ne_nil_of_mem (List.mem_filter.mpr ⟨inside, checked⟩))
  have stripped : (s.tc t).delivery.filterMap DItem.strip = [.chunk (d :: ds) closed goesOn] := by
    rw [delivery, List.filterMap_cons, List.filterMap_nil]
    unfold DItem.strip
    dsimp only
    rw [hd]
  have closes : closeFilling [.chunk (d :: ds) closed goesOn] = [.chunk (d :: ds) true goesOn] := by cases closed <;> rfl
  have shut : (faultOver (s.tc t) r i.addr k).delivery = [.chunk (d :: ds) true goesOn] := by rw [delivery', stripped, closes]
  have still : closeFilling (faultOver (s.tc t) r i.addr k).delivery = [.chunk (d :: ds) true goesOn] := by
    rw [shut]
    rfl
  obtain ⟨u, runs, next⟩ := decode_closes dp (decoded_faultOver job restore queue fault) job' restore rfl short gaps queue'
    (by rw [still]; exact List.cons_ne_nil _ _)
  refine ⟨_, u, { r with fault := some (i.addr, k), ended := some .restoreFault }, runs, next, ?_, ?_, ?_, ?_, ?_, rfl, rfl, rfl⟩
  · rw [decodeLeft_tc]
    exact st'
  · rw [decodeLeft_tc]
    exact queue'
  · rw [decodeLeft_tc, hd]
    exact still
  · rw [decodeLeft_cx]
  · rw [decodeLeft_tc]
    exact job'

/-! ## The last slice of a job whose reading has ended (R150, R161) -/

theorem decode_lastVerified {res told : JobResult} {out : SliceOut} (dp : s.dp = some { t := t, decode := true, abandoned := false })
    (job : (s.tc t).job = some (.read r)) (no_compare : r.isCompare = false) (verify : r.isRestore = false) (ended : r.ended = some res)
    (no_fault : res ≠ .restoreFault) (short : r.short = none) (gaps : r.pendingGaps = [])
    (queue : (s.tc t).blockQ = [.readBlock i b []]) (out_ : out = decodeNext (s.cx t) b) (good : out.result = .good)
    (last : b.slices = (s.cx t).next + 1)
    (told_ : told = (if r.atMark then .aborted else if res = .ok ∧ 0 < r.faultCount then .faultsFound else res))
    (delivery : (s.tc t).delivery = []) (intake : (s.tc t).intake = []) :
    ∃ v u, Runs .decodeComplete s u ∧ NextTaken t v u ∧ (v.tc t).st = .ready ∧ (v.tc t).pos = (s.tc t).pos ∧
      JobEnded t .verify told
        (reportOf v (s.mtb.get (.bay t)) s.free (.read { r with rawChecked := r.rawChecked + out.bytes.length }) told) s v := by
  subst out_
  have whether : decide (b.slices ≤ (s.cx t).next + 1) = true := decide_eq_true (Nat.le_of_eq last)
  have decoded := decoded_goodTc job queue good whether
  rw [sliceGood_verify verify] at decoded
  obtain ⟨r', hr⟩ : ∃ r', { r with rawChecked := r.rawChecked + (decodeNext (s.cx t) b).bytes.length } = r' := ⟨_, rfl⟩
  rw [hr] at decoded
  obtain ⟨v, u, runs, next, st, pos, over_⟩ := decode_ends (r := r') (e := res) dp decoded rfl (by rw [← hr]; exact ended)
    (by rw [← hr]; exact short) (by rw [← hr]; exact gaps)
    (goodTc_tail r' queue)
    (by show (s.tc t).delivery.map DItem.check = []; rw [delivery]; rfl) (by rw [← hr]; exact no_compare)
  have kind : Job.kind (.read r') = .verify := by
    unfold Job.kind
    rw [← hr]
    unfold ReadJob.isRestore at verify
    cases spec : r.spec with
    | verify a range mode policy => rfl
    | restore offset stop =>
      rw [spec] at verify
      cases verify
  have result : r'.result = told := by
    rw [told_]
    unfold ReadJob.result
    rw [← hr]
    dsimp only
    rw [ended]
    cases res with
    | restoreFault => exact absurd rfl no_fault
    | _ => rfl
  have nothing : r'.leave (goodTc (s.tc t) r' true).intake = r' := by
    show ReadJob.leave r' (s.tc t).intake = r'
    rw [intake]
    rfl
  rw [kind, result, nothing] at over_
  rw [hr]
  exact ⟨v, u, runs, next, st, pos, over_⟩

theorem decode_lastRestored {res : JobResult} (dp : s.dp = some { t := t, decode := true, abandoned := false })
    (job : (s.tc t).job = some (.read r)) (restore : r.isRestore = true) (ended : r.ended = some res) (short : r.short = none)
    (gaps : r.pendingGaps = []) (waiting : (s.tc t).st = .waiting) (queue : (s.tc t).blockQ = [.readBlock i b []])
    (good : (decodeNext (s.cx t) b).result = .good) (last : b.slices = (s.cx t).next + 1) {bs : List DByte} {closed goesOn : Bool}
    (delivery : (s.tc t).delivery = [.chunk bs closed goesOn]) (some_there : bs ≠ []) :
    ∃ v u, Runs .decodeComplete s u ∧ NextTaken t v u ∧ (v.tc t).st = .waiting ∧ (v.tc t).blockQ = [] ∧
      (v.tc t).delivery = [.chunk (bs.map fun d => { d with checked := true }) true goesOn] := by
  have whether : decide (b.slices ≤ (s.cx t).next + 1) = true := decide_eq_true (Nat.le_of_eq last)
  have decoded := decoded_goodTc job queue good whether
  obtain ⟨ended', short', gaps', -, restore', -⟩ :=
    sliceGood_fields r i b (s.cx t).decoded (decodeNext (s.cx t) b).bytes.length true
  obtain ⟨r', hr⟩ : ∃ r', r.sliceGood i b (s.cx t).decoded (decodeNext (s.cx t) b).bytes.length true = r' := ⟨_, rfl⟩
  rw [hr] at decoded ended' short' gaps' restore'
  obtain ⟨d, ds, rfl⟩ := List.exists_cons_of_ne_nil some_there
  have tail : (goodTc (s.tc t) r' true).blockQ = [] := goodTc_tail r' queue
  have shut : closeFilling (goodTc (s.tc t) r' true).delivery =
      [.chunk ((d :: ds).map fun d => { d with checked := true }) true goesOn] := by
    unfold goodTc
    dsimp only
    rw [delivery]
    cases closed <;> rfl
  obtain ⟨u, runs, next⟩ := decode_closes dp decoded (r := r') rfl (restore'.trans restore) (ended'.trans ended) (short'.trans short)
    (gaps'.trans gaps) tail (by rw [shut]; exact List.cons_ne_nil _ _)
  refine ⟨_, u, runs, next, ?_, ?_, ?_⟩
  · rw [decodeLeft_tc]
    exact waiting
  · rw [decodeLeft_tc]
    exact tail
  · rw [decodeLeft_tc]
    exact shut

/-! ## Readiness (R101) -/

theorem ready_read_iff {gaps : List Gap} {begun off : Nat} (job : (s.tc t).job = some (.read r)) (started_ : r.start ≠ none)
    (dir : (s.cx t).dir = .read) (queue : (s.tc t).blockQ = .readBlock i b gaps :: rest)
    (begun_ : begun = (if (s.cx t).ref then (s.cx t).decoded else 0)) (off_ : off = (if (s.cx t).ref then (s.cx t).off else 0)) :
    s.ready t = true ↔
      (∀ k, s.dp ≠ some { t := t, decode := k, abandoned := false }) ∧
        ((∃ a range policy, r.spec = .verify a range .check policy) ∨
          begun + nextRaw (b.payload.drop off) - max begun (leftOut r i b) ≤ deliveryRoom (s.tc t).delivery) := by
  have head : (s.tc t).headBlock = some (i, b) := by
    unfold Tc.headBlock
    rw [queue]
  have accepted : r.start.isSome = true := Option.isSome_iff_ne_none.mpr started_
  unfold State.ready
  rw [writeReady_of_read job, Bool.false_or]
  unfold State.readReady
  rw [readJob_of_job job, head]
  dsimp only
  rw [← begun_, ← off_, dir, accepted, excluded_eq, ← opOf_false_iff]
  simp only [decide_true, Bool.and_true, Bool.and_eq_true, Bool.not_eq_true']
  refine and_congr_right fun _ => ?_
  cases r.spec with
  | restore offset stop => simp
  | verify a range mode policy => cases mode <;> simp

end

/-! ## The room of a delivery queue (R101, R148) -/

/-- Whether an entry is a chunk. -/
def isChunk (e : DItem) : Bool := match e with | .chunk _ _ _ => true | _ => false

/-- The bytes held in the chunk at the tail while it is open. -/
def openLength (d : List DItem) : Option Nat := match d.getLast? with | some (.chunk bs false _) => some bs.length | _ => none

theorem openLength_append (d : List DItem) (e : DItem) :
    openLength (d ++ [e]) = match e with | .chunk bs false _ => some bs.length | _ => none := by
  unfold openLength
  rw [List.getLast?_append, List.getLast?_singleton, Option.some_or]
  cases e with
  | chunk bs closed goesOn => cases closed <;> rfl
  | mark => rfl
  | gap g => rfl

theorem filling_append (d : List DItem) (e : DItem) : filling (d ++ [e]) = DItem.fill (filling d) e := by
  unfold filling
  rw [List.foldl_append]
  rfl

/-- Induction on a queue from its tail. -/
theorem snoc_induction {α : Type} {motive : List α → Prop} (nil : motive [])
    (snoc : ∀ d e, motive d → motive (d ++ [e])) (d : List α) : motive d := by
  rw [← List.reverse_reverse d]
  induction d.reverse with
  | nil => exact nil
  | cons e ds ih =>
    rw [List.reverse_cons]
    exact snoc _ e ih

/-- In a restore's delivery queue every chunk begins a place, and the last entry alone may be filling. -/
theorem filling_restore {d : List DItem} : RestoreQueue d → filling d = ((d.filter isChunk).length, openLength d) := by
  induction d using snoc_induction with
  | nil => exact fun _ => rfl
  | snoc d e ih =>
    intro queue
    have before := ih fun e' inside => queue e' (List.mem_append_left _ inside)
    rw [filling_append, before, openLength_append, List.filter_append, List.length_append]
    obtain ⟨bs, closed, rfl⟩ | rfl := queue e (List.mem_append_right _ (List.mem_singleton.mpr rfl))
    · cases closed <;> rfl
    · rfl

theorem deliveryRoom_restore {d : List DItem} (queue : RestoreQueue d) :
    deliveryRoom d = (4096 - (openLength d).getD 4096) + 4096 * (16 - (d.filter isChunk).length) := by
  unfold deliveryRoom
  rw [filling_restore queue]
  rfl

theorem openLength_room (d : List DItem) :
    4096 - (openLength d).getD 4096 = match d.getLast? with | some (.chunk bs false _) => 4096 - bs.length | _ => 0 := by
  unfold openLength
  split <;> rfl

/-! ## The placing of decoded bytes (R148) -/

theorem newChunks_nil : NewChunks [] [] := ⟨[], rfl, rfl, nofun, nofun⟩

theorem newChunks_single {bs : List DByte} (some_there : bs ≠ []) (fits : bs.length ≤ 4096) : NewChunks bs [.chunk bs false false] :=
  ⟨[bs], rfl, List.append_nil bs, fun p inside => by rw [List.mem_singleton.mp inside]; exact ⟨some_there, fits⟩, nofun⟩

theorem newChunks_cons {p bs : List DByte} {more : List DItem} (full : p.length = 4096) (some_there : bs ≠ [])
    (rest : NewChunks bs more) : NewChunks (p ++ bs) (.chunk p false false :: more) := by
  obtain ⟨parts, rfl, rfl, fits, filled⟩ := rest
  have more_parts : parts ≠ [] := by
    rintro rfl
    exact some_there rfl
  refine ⟨p :: parts, rfl, rfl, ?_, ?_⟩
  · rintro q (_ | ⟨_, inside⟩)
    · exact ⟨List.ne_nil_of_length_pos (by omega), Nat.le_of_eq full⟩
    · exact fits q inside
  · rw [List.dropLast_cons_of_ne_nil more_parts]
    rintro q (_ | ⟨_, inside⟩)
    · exact full
    · exact filled q inside

theorem restoreQueue_append {d : List DItem} (queue : RestoreQueue d) (bs : List DByte) :
    RestoreQueue (d ++ [.chunk bs false false]) := fun e inside => by
  obtain inside | last := List.mem_append.mp inside
  · exact queue e inside
  · exact .inl ⟨bs, false, List.mem_singleton.mp last⟩

/-- Bytes behind a filling chunk without room are laid out in new chunks. -/
theorem placeBytes_new (n : Nat) : ∀ (bs : List DByte) (d : List DItem), RestoreQueue d → 4096 ≤ (openLength d).getD 4096 →
    bs.length ≤ n → ∃ more, NewChunks bs more ∧ placeBytes n bs d = d ++ more := by
  induction n with
  | zero =>
    intro bs d _ _ few
    rw [List.eq_nil_of_length_eq_zero (Nat.le_zero.mp few)]
    exact ⟨[], newChunks_nil, (List.append_nil d).symm⟩
  | succ n ih =>
    intro bs d queue full few
    cases bs with
    | nil => exact ⟨[], newChunks_nil, (List.append_nil d).symm⟩
    | cons c cs =>
      obtain ⟨bs, hbs⟩ : ∃ bs, c :: cs = bs := ⟨_, rfl⟩
      have some_there : bs ≠ [] := by
        rw [← hbs]
        exact List.cons_ne_nil _ _
      have placed : placeBytes (n + 1) (c :: cs) d = placeBytes n (bs.drop 4096) (d ++ [.chunk (bs.take 4096) false false]) := by
        rw [placeBytes]
        · have no_room : ¬0 < 4096 - (filling d).2.getD 4096 := by
            rw [filling_restore queue]
            exact Nat.not_lt.mpr (Nat.le_of_eq (Nat.sub_eq_zero_of_le full))
          rw [hbs]
          exact if_neg no_room
        · exact nofun
      rw [placed]
      rw [hbs] at few ⊢
      by_cases fits : bs.length ≤ 4096
      · rw [List.drop_eq_nil_of_le fits, List.take_of_length_le fits]
        refine ⟨_, newChunks_single some_there fits, ?_⟩
        cases n <;> rfl
      · have taken : (bs.take 4096).length = 4096 := by
          rw [List.length_take]
          omega
        have left : bs.drop 4096 ≠ [] := List.ne_nil_of_length_pos (by rw [List.length_drop]; omega)
        obtain ⟨more, chunks, rest⟩ := ih (bs.drop 4096) (d ++ [.chunk (bs.take 4096) false false]) (restoreQueue_append queue _)
          (by rw [openLength_append]; exact Nat.le_of_eq taken.symm) (by rw [List.length_drop]; omega)
        refine ⟨.chunk (bs.take 4096) false false :: more, ?_, ?_⟩
        · have := newChunks_cons taken left chunks
          rw [List.take_append_drop] at this
          exact this
        · rw [rest, List.append_assoc]
          rfl

theorem deliver_new {bs : List DByte} {d : List DItem} (queue : RestoreQueue d)
    (none_open : ∀ front have_, d ≠ front ++ [.chunk have_ false false]) : ∃ more, NewChunks bs more ∧ deliver bs d = d ++ more := by
  refine placeBytes_new _ bs d queue ?_ (Nat.le_succ _)
  suffices openLength d = none by
    rw [this]
    exact Nat.le_refl _
  obtain rfl | ⟨front, e, rfl⟩ := List.eq_nil_or_concat d
  · rfl
  · rw [List.concat_eq_append] at queue none_open ⊢
    rw [openLength_append]
    obtain ⟨bs, closed, rfl⟩ | rfl := queue e (List.mem_append_right _ (List.mem_singleton.mpr rfl))
    · cases closed with
      | false => exact absurd rfl (none_open front bs)
      | true => rfl
    · rfl

theorem goOn_open (front : List DItem) (have_ bs : List DByte) :
    goOn bs (front ++ [.chunk have_ false false]) = front ++ [.chunk (have_ ++ bs) false false] := by
  unfold goOn
  rw [List.getLast?_append, List.getLast?_singleton, List.dropLast_concat]
  rfl

theorem deliver_open {bs have_ : List DByte} {front : List DItem} (queue : RestoreQueue (front ++ [.chunk have_ false false]))
    (fits : have_.length ≤ 4096) :
    ∃ more, NewChunks (bs.drop (4096 - have_.length)) more ∧
      deliver bs (front ++ [.chunk have_ false false]) =
        front ++ [.chunk (have_ ++ bs.take (4096 - have_.length)) false false] ++ more := by
  have whole : RestoreQueue front := fun e inside => queue e (List.mem_append_left _ inside)
  obtain ⟨room, hroom⟩ : ∃ room, 4096 - have_.length = room := ⟨_, rfl⟩
  rw [hroom]
  by_cases full : room = 0
  · rw [full, List.drop_zero, List.take_zero, List.append_nil]
    exact placeBytes_new _ bs _ queue (by rw [openLength_append]; show 4096 ≤ have_.length; omega) (Nat.le_succ _)
  · cases bs with
    | nil =>
      rw [List.drop_nil, List.take_nil, List.append_nil]
      exact ⟨[], newChunks_nil, (List.append_nil _).symm⟩
    | cons c cs =>
      obtain ⟨bs, hbs⟩ : ∃ bs, c :: cs = bs := ⟨_, rfl⟩
      have placed : deliver (c :: cs) (front ++ [.chunk have_ false false]) =
          placeBytes bs.length (bs.drop room) (front ++ [.chunk (have_ ++ bs.take room) false false]) := by
        unfold deliver
        rw [placeBytes]
        · have left : 4096 - (filling (front ++ [.chunk have_ false false])).2.getD 4096 = room := by
            rw [filling_restore queue, openLength_append]
            exact hroom
          rw [hbs]
          show (if 0 < 4096 - (filling _).2.getD 4096 then
            placeBytes bs.length (bs.drop (4096 - (filling _).2.getD 4096)) (goOn (bs.take (4096 - (filling _).2.getD 4096)) _) else _) = _
          rw [if_pos (by rw [left]; exact Nat.pos_of_ne_zero full), left, goOn_open]
        · exact nofun
      rw [placed, hbs]
      by_cases few : bs.length ≤ room
      · rw [List.drop_eq_nil_of_le few]
        refine ⟨[], newChunks_nil, ?_⟩
        rw [List.append_nil]
        cases bs.length <;> rfl
      · have taken : (have_ ++ bs.take room).length = 4096 := by
          rw [List.length_append, List.length_take]
          omega
        exact placeBytes_new _ _ _ (restoreQueue_append whole _) (by rw [openLength_append]; exact Nat.le_of_eq taken.symm)
          (by rw [List.length_drop]; omega)

/-- Settles O60: the completed decode in terms of the state it leaves, and the reading's pump from there. -/
theorem decodeChecksOrFaultsTheBlock : Obligations.DecodeChecksOrFaultsTheBlock := by
  unfold Obligations.DecodeChecksOrFaultsTheBlock
  refine ⟨?_, ?_, ?_, ?_, ?_, ?_, fun s t dp => decodeComplete_abandoned dp, ?_, ?_, ?_⟩
  · intro s t r i b out dp job restore running short _ reading queue out_ good last
    rw [out_] at good
    exact decode_last dp job restore running short reading queue good last
  · intro s t r i b rest k dp job restore short gaps queue _ bad
    have fault : ∃ kind, FaultKind (decodeNext (s.cx t) b).result k kind :=
      bad.elim (fun h => ⟨_, .inl ⟨h, rfl⟩⟩) (fun h => ⟨_, .inr ⟨h, rfl⟩⟩)
    obtain ⟨kind, fault⟩ := fault
    exact ⟨decode_restoreFault dp job restore short gaps queue fault,
      fun bs closed goesOn delivery kept => decode_restoreFault_waits dp job restore short gaps queue fault delivery kept⟩
  · intro s t r i b out res told dp job no_compare ended no_fault short gaps waiting queue out_ good last told_
    refine ⟨fun delivery intake verify => decode_lastVerified dp job no_compare verify ended no_fault short gaps queue out_ good last
      told_ delivery intake, fun bs closed goesOn delivery some_there restore => ?_⟩
    rw [out_] at good
    exact decode_lastRestored dp job restore ended short gaps waiting queue good last delivery some_there
  · intro s t r i b rest out dp job no_compare running short reading queue out_ good more _
    exact decode_more dp job no_compare running short reading queue out_ good more
  · intro s t r i j b c rest dp job no_compare running short waiting queue rest_ removed
    exact decode_waiting dp job no_compare running short waiting queue
      (rest_.imp id fun ⟨more, h⟩ => ⟨j, c, more, h⟩) removed
  · intro s t r a range mode policy i b out dp job spec running short aligned reading queue delivery intake out_ room
    refine ⟨fun good last => decode_verified dp job spec running short reading queue delivery intake out_ good last,
      fun k kind fault => ?_⟩
    rw [out_] at fault
    exact decode_recorded dp job spec running short aligned reading queue delivery intake room fault
  · intro s t r i b gaps rest begun off job started_ dir queue begun_ off_
    exact ready_read_iff job started_ dir queue begun_ off_
  · intro d queue
    rw [deliveryRoom_restore queue, openLength_room]
    rfl
  · intro bs d queue
    refine ⟨fun front have_ hd fits => ?_, deliver_new queue⟩
    subst hd
    exact deliver_open queue fits

end Sys2Proof.Proofs
end

section
/-! PROOFS. The outbound lane (R150, R170, R174 to R179; O5). -/

open Sys2Proof Sys2Proof.Machine Sys2Proof.Claims

namespace Sys2Proof.Proofs

-- One declaration at a time: elaborated in parallel, the joined text needs more threads than the memory limit holds.
set_option Elab.async false

/-! ## The names in a payload (R175) -/

theorem jobKind_named (k : JobKind) : beBytes 1 k.code = [nameIn jobKinds k] := by cases k <;> rfl

theorem jobResult_named (res : JobResult) : beBytes 1 res.code = [nameIn jobResults res] := by cases res <;> rfl

theorem moveResult_named (res : MoveResult) : beBytes 1 res.code = [nameIn moveResults res] := by cases res <;> rfl

theorem changerState_byte (st : ChgState) : beBytes 1 st.code = [nameIn changerStates st] := by cases st <;> rfl

theorem noteState_named (n : NoteState) : beBytes 1 n.code = [nameIn noteStates n] := by cases n <;> rfl

theorem reason_named (why : Reason) : BitVec.ofNat 8 why.code = nameIn reasons why := by cases why <;> rfl

/-- The two bytes of an order's tag (R173, R175). -/
theorem halfBytes_number (h : Half) : halfBytes h = number 2 h.toNat := by
  have low : h.extractLsb' 0 8 = BitVec.ofNat 8 h.toNat := by
    refine BitVec.eq_of_toNat_eq ?_
    rw [BitVec.extractLsb'_toNat, BitVec.toNat_ofNat, Nat.shiftRight_zero]
  have high : h.extractLsb' 8 8 = BitVec.ofNat 8 (h.toNat / 256) := by
    refine BitVec.eq_of_toNat_eq ?_
    rw [BitVec.extractLsb'_toNat, BitVec.toNat_ofNat, Nat.shiftRight_eq_div_pow]
  unfold halfBytes
  rw [low, high]
  show _ = [BitVec.ofNat 8 (h.toNat / 256 ^ 1), BitVec.ofNat 8 (h.toNat / 256 ^ 0)]
  rw [Nat.pow_one, Nat.pow_zero, Nat.div_one]

/-! ## The frames (R170, R174 to R177) -/

theorem replyFrame_eq (r : Reply) : replyFrame r = replyOut r := by
  unfold replyFrame replyOut Reply.payload
  cases body : r.body with
  | done result => rfl
  | accepted => rfl
  | refused why =>
    dsimp only
    rw [reason_named]

theorem moveEnd_bytes (m : MoveEnd) : m.bytes = moveEndLayout m := by
  unfold MoveEnd.bytes moveEndLayout
  cases m.order with
  | move src dst auto tag =>
    dsimp only
    rw [halfBytes_number, moveResult_named, optField_eq, optField_eq]
    cases m.label with
    | none =>
      cases m.noteState with
      | none => simp [optLabel, beBytes, optionalField]
      | some n => cases n <;> simp [optLabel, beBytes, optionalField] <;> rfl
    | some cs =>
      cases m.noteState with
      | none => simp [optLabel, beBytes, optionalField]
      | some n => cases n <;> simp [optLabel, beBytes, optionalField] <;> rfl
  | scan first last =>
    dsimp only
    rw [moveResult_named, optField_eq, optField_eq, beBytes_one first, beBytes_one last]
    rfl

theorem notice_payload (n : Notice) : n.payload = noticeLayout n := by
  unfold Notice.payload noticeLayout
  cases n with
  | credit t k =>
    dsimp only
    rw [beBytes_eq_number]
  | jobEnd t kind res report =>
    dsimp only
    rw [jobKind_named, jobResult_named]
    rfl
  | moveEnd m =>
    dsimp only
    rw [moveEnd_bytes]
  | mailArrived => rfl
  | mailTaken => rfl
  | door isOpen => cases isOpen <;> rfl
  | earlyWarning t place raw =>
    dsimp only
    rw [beBytes_eq_number, beBytes_eq_number]
    rfl
  | watchReached t kind addr mark file frame =>
    dsimp only
    rw [jobKind_named, beBytes_eq_number 4 addr, beBytes_eq_number 4 file, beBytes_eq_number 4 frame]
    cases mark <;> simp [beBytes]
  | ready st =>
    dsimp only
    rw [changerState_byte]

theorem noticeFrame_eq (n : Notice) (lost : Bool) : noticeFrame n lost = noticeOut n lost := by
  have chan : n.chan = noticeChannel n := by cases n <;> rfl
  unfold noticeFrame noticeOut
  rw [notice_payload, chan, flagByte_eq]

theorem frame_dataOut (t : Tr) {d : DItem} (sendable : d.sendable = true) : d.frame t = dataOut t d := by
  cases d with
  | chunk bs closed goesOn => rfl
  | mark => rfl
  | gap g => cases sendable

theorem outFrame_bytes (f : OutFrame) {body : List Byte}
    (body_ : body =
      [match f.kind with | .reply => 2 | .notice => 3 | .dataOut => 5,
        match f.chan with | .engine => 0 | .changer => 1 | .transport .tc0 => 2 | .transport .tc1 => 3, f.tag, f.flags] ++
        number 2 f.payload.length ++ f.payload) :
    f.bytes = 0xC5 :: body ++ number 2 (crc16 body).toNat := by
  have same : linkBody f.kind.byte (chanCode f.chan) f.tag f.flags f.payload = body := by
    rw [body_]
    unfold linkBody
    rw [beBytes_eq_number]
    obtain ⟨kind, chan, tag, flags, payload⟩ := f
    cases kind <;> cases chan with
    | engine => rfl
    | changer => rfl
    | transport t => cases t <;> rfl
  unfold OutFrame.bytes linkFrame
  rw [same, beBytes_eq_number]

/-! ## What may be sent (R150) -/

section
variable {s : State} {t : Tr} {r : ReadJob} {d : DItem} {rest : List DItem}

theorem sendable_iff (d : DItem) : d.sendable = true ↔
    d = .mark ∨ ∃ bs closed goesOn, d = .chunk bs closed goesOn ∧ (closed = true ∨ 4096 ≤ bs.length) ∧ bs ≠ [] ∧
      ∀ b ∈ bs, b.checked = true := by
  cases d with
  | chunk bs closed goesOn =>
    have sends : DItem.sendable (.chunk bs closed goesOn) = true ↔
        (closed = true ∨ 4096 ≤ bs.length) ∧ bs ≠ [] ∧ ∀ b ∈ bs, b.checked = true := by
      unfold DItem.sendable
      rw [Bool.and_eq_true, Bool.and_eq_true, Bool.or_eq_true, decide_eq_true_iff, List.all_eq_true, and_assoc, Bool.not_eq_true',
        List.isEmpty_eq_false_iff]
      rfl
    rw [sends]
    refine ⟨fun h => .inr ⟨bs, closed, goesOn, rfl, h⟩, fun h => ?_⟩
    obtain h | ⟨_, _, _, e, h⟩ := h
    · cases h
    · cases e
      exact h
  | mark => exact ⟨fun _ => .inl rfl, fun _ => rfl⟩
  | gap g => exact ⟨nofun, fun h => h.elim nofun fun ⟨_, _, _, e, _⟩ => nomatch e⟩

theorem dataReady_iff {offset : Nat} {stop : RestoreEnd} (job : (s.tc t).job = some (.read r)) (spec : r.spec = .restore offset stop)
    (delivery : (s.tc t).delivery = d :: rest) : s.dataReady t = true ↔
      d = .mark ∨ ∃ bs closed goesOn, d = .chunk bs closed goesOn ∧ (closed = true ∨ 4096 ≤ bs.length) ∧ bs ≠ [] ∧
        ∀ b ∈ bs, b.checked = true := by
  unfold State.dataReady
  rw [readJob_of_job job, delivery]
  dsimp only
  rw [(not_compare_of_restore spec).2, Bool.true_and, sendable_iff]

/-! ## The choice of a free lane (R178) -/

theorem laneChoose_kept (s : State) (busy : s.lnk.lane ≠ none ∨ s.lnk.hostHold = true) : s.laneChoose = s := by
  unfold State.laneChoose
  refine if_pos ?_
  obtain busy | held := busy
  · rw [Option.isSome_iff_ne_none.mpr busy, Bool.true_or]
  · rw [held, Bool.or_true]

theorem laneChoose_free (free : s.lnk.lane = none) (unheld : s.lnk.hostHold = false) :
    s.laneChoose = match s.lnk.replies with
      | r :: rest => s.modLnk fun l => { l with replies := rest, lane := some (replyFrame r) }
      | [] =>
        match s.lnk.notices with
        | n :: rest =>
          (s.modLnk fun l => { l with notices := rest, lane := some (noticeFrame n l.lost), lost := false }).noticeLeft
        | [] =>
          match s.laneData with
          | some t => s.sendData t
          | none => s := by
  unfold State.laneChoose
  rw [free, unheld]
  rfl

theorem laneChoose_reply {r : Reply} {rest : List Reply} (free : s.lnk.lane = none) (unheld : s.lnk.hostHold = false)
    (replies : s.lnk.replies = r :: rest) :
    s.laneChoose = { s with lnk := { s.lnk with replies := rest, lane := some (replyOut r) } } := by
  rw [laneChoose_free free unheld, replies, ← replyFrame_eq]
  rfl

/-- What is left of the link behind the forming of CREDIT notices, the notices apart (R108, R176). -/
theorem noticeLeft_link (s : State) : s.noticeLeft.lnk = { s.lnk with notices := s.noticeLeft.lnk.notices } := by
  obtain ⟨_, _, l₀, -, e₀, h₀, -⟩ := formCredit_eq s .tc0
  obtain ⟨_, _, l₁, -, e₁, h₁, -⟩ := formCredit_eq (s.formCredit .tc0) .tc1
  have first : (s.formCredit .tc0).lnk = l₀ := by rw [e₀, State.setTc_lnk]
  have second : s.noticeLeft.lnk = l₁ := by
    unfold State.noticeLeft
    rw [e₁, State.setTc_lnk]
  rw [first] at h₁
  rw [second, h₁, h₀]

theorem noticeLeft_of_none (first : s.tc0.pendingCredits = 0) (second : s.tc1.pendingCredits = 0) : s.noticeLeft = s := by
  unfold State.noticeLeft
  rw [formCredit_of_none (t := .tc0) first, formCredit_of_none (t := .tc1) second]

theorem laneChoose_notice {n : Notice} {rest : List Notice} (free : s.lnk.lane = none) (unheld : s.lnk.hostHold = false)
    (replies : s.lnk.replies = []) (notices : s.lnk.notices = n :: rest) :
    s.laneChoose.lnk.lane = some (noticeOut n s.lnk.lost) ∧ s.laneChoose.lnk.lost = false ∧
      (s.tc0.pendingCredits = 0 → s.tc1.pendingCredits = 0 → s.laneChoose.lnk.notices = rest) := by
  have chosen := laneChoose_free free unheld
  rw [replies, notices] at chosen
  dsimp only at chosen
  obtain ⟨v, hv⟩ : ∃ v, (s.modLnk fun l => { l with notices := rest, lane := some (noticeFrame n l.lost), lost := false }) = v := ⟨_, rfl⟩
  rw [hv] at chosen
  have lnk : v.lnk = { s.lnk with notices := rest, lane := some (noticeFrame n s.lnk.lost), lost := false } := by rw [← hv]; rfl
  rw [chosen, noticeLeft_link, lnk, ← noticeFrame_eq]
  refine ⟨rfl, rfl, fun first second => ?_⟩
  rw [noticeLeft_of_none (by rw [← hv]; exact first) (by rw [← hv]; exact second), lnk]

theorem laneChoose_data (free : s.lnk.lane = none) (unheld : s.lnk.hostHold = false) (replies : s.lnk.replies = [])
    (notices : s.lnk.notices = []) (turn : s.lnk.lastServed = t.other ∨ s.dataReady t.other = false) (ready : s.dataReady t = true) :
    s.laneChoose = s.sendData t := by
  have chosen : s.laneData = some t := by
    unfold State.laneData
    by_cases last : s.lnk.lastServed = t.other
    · rw [last, other_other, if_pos ready]
    · have same : s.lnk.lastServed = t := by
        cases t <;> cases h : s.lnk.lastServed <;> simp_all [Tr.other]
      obtain h | idle := turn
      · exact absurd h last
      · rw [same, idle, if_neg Bool.false_ne_true, if_pos ready]
  rw [laneChoose_free free unheld, replies, notices]
  dsimp only
  rw [chosen]

/-! ## The sending of an entry (R150, R152, R165) -/

/-- The engine with the head of t's delivery queue on the lane, and counted by the restore. -/
def sentState (s : State) (t : Tr) (r : ReadJob) (d : DItem) (rest : List DItem) : State :=
  { s.setTc t { s.tc t with delivery := rest, job := some (.read (sentBy r d)) } with
    lnk := { s.lnk with lane := some (dataOut t d), lastServed := t } }

theorem sentState_tc (s : State) (t : Tr) (r : ReadJob) (d : DItem) (rest : List DItem) :
    (sentState s t r d rest).tc t = { s.tc t with delivery := rest, job := some (.read (sentBy r d)) } := by
  cases t <;> rfl

theorem sentState_opOf (s : State) (t : Tr) (r : ReadJob) (d : DItem) (rest : List DItem) :
    (sentState s t r d rest).opOf t = s.opOf t := by
  cases t <;> rfl

/-- What a sending does not touch of the job. -/
theorem sentBy_parts (r : ReadJob) (d : DItem) :
    (sentBy r d).ended = r.ended ∧ (sentBy r d).short = r.short ∧ (sentBy r d).pendingGaps = r.pendingGaps ∧
      (sentBy r d).spec = r.spec ∧ (sentBy r d).atMark = r.atMark ∧ (sentBy r d).faultCount = r.faultCount := by
  cases d <;> exact ⟨rfl, rfl, rfl, rfl, rfl, rfl⟩

theorem sent_eq (r : ReadJob) (d : DItem) : r.sent d = sentBy r d := by cases d <;> rfl

theorem sendData_eq (job : (s.tc t).job = some (.read r)) (delivery : (s.tc t).delivery = d :: rest) (sendable : d.sendable = true) :
    s.sendData t = (sentState s t r d rest).readPump t := by
  unfold State.sendData
  rw [delivery]
  dsimp only
  rw [modTc_eq, modRead_of_read (r := r) (by rw [State.setTc_tc]; exact job), State.setTc_tc, setTc_setTc, sent_eq,
    frame_dataOut t sendable]
  unfold sentState
  cases t <;> rfl

/-- A restore in a state without anything to resume: what remains of its pump is the test for its end (R149, R150). -/
theorem readPump_restore (job : (s.tc t).job = some (.read r)) (restore : r.isRestore = true) (short : r.short = none)
    (plain : HeadPlain (s.tc t).blockQ) (no_gap : r.ended = none ∨ (s.tc t).blockQ ≠ [] ∨ r.pendingGaps = [])
    (no_resume : ¬((s.tc t).st = .waiting ∧ r.ended = none ∧ (s.tc t).blockQ.length ≤ (s.tc t).gov.active.resume)) :
    s.readPump t = s.readEndTest t := by
  unfold State.readPump
  rw [takeHeads_self job plain, lastGaps_self job no_gap, readResume_eq job, if_neg no_resume,
    compare_self job (compare_of_restore restore), shortEnd_self job short]

/-- A restore whose reading has ended with nothing left to decode, and no byte in its last chunk: the job ends (R150, R152). -/
theorem readEndTest_ends {e : JobResult} (job : (s.tc t).job = some (.read r)) (restore : r.isRestore = true) (ended : r.ended = some e)
    (queue : (s.tc t).blockQ = []) (free : s.opOf t = false) (nothing : closeFilling (s.tc t).delivery = []) :
    s.readEndTest t = (s.setTc t { s.tc t with delivery := [] }).endRead t r.result := by
  unfold State.readEndTest
  rw [readJob_of_job job]
  dsimp only
  rw [if_pos ⟨by rw [ended]; rfl, queue, by rw [free]; rfl⟩, if_pos restore, modTc_eq, State.setTc_tc, if_pos nothing, nothing]

section
variable (s t r d rest)

theorem sentState_kept : OtherKept t s (sentState s t r d rest) ∧ InboundKept s (sentState s t r d rest) ∧
    (sentState s t r d rest).chg = s.chg ∧ (sentState s t r d rest).mtb = s.mtb ∧ (sentState s t r d rest).free = s.free ∧
    (sentState s t r d rest).lnk.notices = s.lnk.notices := by
  cases t <;>
    exact ⟨⟨rfl, _, _, rfl, rfl⟩, ⟨rfl, rfl, rfl, rfl, rfl, rfl, rfl, rfl, rfl⟩, rfl, rfl, rfl, rfl⟩

end

/-- A job that ends behind the sending of an entry. -/
theorem jobEnded_of_sent {u : State} {kind : JobKind} {res : JobResult} {report : List Byte}
    (ended : JobEnded t kind res report (sentState s t r d rest) u) : JobEnded t kind res report s u := by
  obtain ⟨other, inbound, chg, mtb, -, notices⟩ := sentState_kept s t r d rest
  obtain ⟨⟨gone, unbound, other', chg', inbound', records⟩, noticed⟩ := ended
  refine ⟨⟨gone, unbound, otherKept_trans other other', chg'.trans chg, inboundKept_trans inbound inbound', fun k hk => ?_⟩, ?_⟩
  · rw [records k hk, mtb]
  · have same : jobEnds (sentState s t r d rest).lnk = jobEnds s.lnk := by
      unfold jobEnds
      rw [notices]
    unfold EndNoticed at noticed ⊢
    rw [← same]
    exact noticed

section
variable (restore : r.isRestore = true) (short : r.short = none) (plain : HeadPlain (s.tc t).blockQ)
include restore short plain

theorem sent_goes_on
    (goes_on : (r.ended = none ∧ ((s.tc t).st = .waiting → (s.tc t).gov.active.resume < (s.tc t).blockQ.length)) ∨
      (s.tc t).blockQ ≠ [] ∧ r.ended ≠ none) : (sentState s t r d rest).readPump t = sentState s t r d rest := by
  obtain ⟨ended, short', gaps, spec, -, -⟩ := sentBy_parts r d
  have not_last : (sentBy r d).ended = none ∨ ((sentState s t r d rest).tc t).blockQ ≠ [] := by
    rw [ended, sentState_tc]
    exact goes_on.imp And.left And.left
  have job' : ((sentState s t r d rest).tc t).job = some (.read (sentBy r d)) := by rw [sentState_tc]
  have restore' : (sentBy r d).isRestore = true := by
    unfold ReadJob.isRestore at restore ⊢
    rw [spec]
    exact restore
  rw [readPump_restore job' restore' (short'.trans short) (by rw [sentState_tc]; exact plain) (not_last.imp_right .inl) ?_,
    readEndTest_self job' (not_last.imp_right .inl)]
  rw [ended, sentState_tc]
  rintro ⟨waiting, running, few⟩
  obtain ⟨-, more⟩ | ⟨-, over_⟩ := goes_on
  · exact Nat.not_lt.mpr few (more waiting)
  · exact over_ running

variable {res : JobResult} (ended : r.ended = some res) (gaps : r.pendingGaps = []) (queue : (s.tc t).blockQ = [])
include ended gaps queue

omit queue in
theorem sent_endTest : (sentState s t r d rest).readPump t = (sentState s t r d rest).readEndTest t := by
  obtain ⟨ended', short', gaps', spec, -, -⟩ := sentBy_parts r d
  have restore' : (sentBy r d).isRestore = true := by
    unfold ReadJob.isRestore at restore ⊢
    rw [spec]
    exact restore
  refine readPump_restore (r := sentBy r d) (by rw [sentState_tc]) restore' (short'.trans short) (by rw [sentState_tc]; exact plain)
    (.inr (.inr (gaps'.trans gaps))) ?_
  rw [ended', ended]
  exact fun h => nomatch h.2.1

omit queue in
theorem sent_decoding (busy : s.opOf t = true) : (sentState s t r d rest).readPump t = sentState s t r d rest := by
  rw [sent_endTest restore short plain ended gaps]
  exact readEndTest_self (r := sentBy r d) (by rw [sentState_tc]) (.inr (.inr (by rw [sentState_opOf]; exact busy)))

omit plain in
theorem sent_closes (free : s.opOf t = false) (something : closeFilling rest ≠ []) :
    (sentState s t r d rest).readPump t =
      (sentState s t r d rest).setTc t { (sentState s t r d rest).tc t with delivery := closeFilling rest } := by
  obtain ⟨ended', short', gaps', spec, -, -⟩ := sentBy_parts r d
  have restore' : (sentBy r d).isRestore = true := by
    unfold ReadJob.isRestore at restore ⊢
    rw [spec]
    exact restore
  have shut : ((sentState s t r d rest).tc t).delivery = rest := by rw [sentState_tc]
  have pumped := readPump_closes (s := sentState s t r d rest) (t := t) (r := sentBy r d) (by rw [sentState_tc]) restore'
    (ended'.trans ended) (short'.trans short) (gaps'.trans gaps) (by rw [sentState_tc]; exact queue) (by rw [sentState_opOf]; exact free)
    (by rw [shut]; exact something)
  rw [shut] at pumped
  exact pumped

theorem sent_ends (free : s.opOf t = false) (nothing : closeFilling rest = []) (no_faults : r.faultCount = 0) {told : JobResult}
    (told_ : told = (if res ≠ .restoreFault ∧ r.atMark = true then .aborted else res)) :
    let u := (sentState s t r d rest).readPump t
    (u.tc t).st = .ready ∧ (u.tc t).pos = (s.tc t).pos ∧
      JobEnded t .restore told (reportOf u (s.mtb.get (.bay t)) s.free (.read (sentBy r d)) told) s u := by
  obtain ⟨ended', short', gaps', spec', mark', faults'⟩ := sentBy_parts r d
  obtain ⟨offset, stop, spec⟩ := spec_of_restore restore
  obtain ⟨-, -, -, mtb, free', -⟩ := sentState_kept s t r d rest
  have result : (sentBy r d).result = told := by
    unfold ReadJob.result
    rw [ended', ended, mark', faults', no_faults, told_]
    cases res with
    | restoreFault => rfl
    | _ => cases r.atMark <;> rfl
  have kind : Job.kind (.read (sentBy r d)) = .restore := by
    unfold Job.kind
    dsimp only
    rw [spec', spec]
  obtain ⟨r', hr⟩ : ∃ r', sentBy r d = r' := ⟨_, rfl⟩
  obtain ⟨v, hv⟩ : ∃ v, sentState s t r d rest = v := ⟨_, rfl⟩
  have tc := sentState_tc s t r d rest
  have opOf := sentState_opOf s t r d rest
  have pumped := sent_endTest (d := d) (rest := rest) restore short plain ended gaps
  have back := fun (u : State) report => jobEnded_of_sent (s := s) (t := t) (r := r) (d := d) (rest := rest) (u := u)
    (kind := .restore) (res := told) (report := report)
  rw [hr] at result kind ended' spec' tc
  rw [hv] at tc opOf pumped mtb free' back
  have job' : (v.tc t).job = some (.read r') := by rw [tc]
  have restore' : r'.isRestore = true := by
    unfold ReadJob.isRestore at restore ⊢
    rw [spec']
    exact restore
  have ends := readEndTest_ends job' restore' (ended'.trans ended) (by rw [tc]; exact queue) (opOf.trans free) (by rw [tc]; exact nothing)
  obtain ⟨over_, st, pos⟩ := endRead_after (s := v) (t := t) (c := { v.tc t with delivery := [] }) job' r'.result
  rw [ends] at pumped
  rw [← pumped] at over_ st pos
  dsimp only
  rw [hv, hr]
  obtain ⟨u, hu⟩ : ∃ u, v.readPump t = u := ⟨_, rfl⟩
  rw [hu] at over_ st pos ⊢
  obtain ⟨held, hq⟩ : ∃ q, ({ v.tc t with delivery := [] } : Tc).intake = q := ⟨_, rfl⟩
  have told_spec : r'.spec = .restore offset stop := spec'.trans spec
  rw [result, kind, mtb, free', hq, reportOf_restore_congr (r := r') (r' := r'.leave held) told_spec rfl rfl rfl
    (fun _ _ => rfl)] at over_
  refine ⟨st, pos.trans (by rw [tc]), back u _ over_⟩

end

end

/-! ## Settling with another link (R26, R102, R178) -/

theorem dpKick_of_link {s : State} (kick : s.dpKick = s) (l : Lnk) : ({ s with lnk := l } : State).dpKick = { s with lnk := l } := by
  have same : ∀ t, ({ s with lnk := l } : State).ready t = s.ready t := fun t => by cases t <;> rfl
  by_cases busy : s.dp.isSome = true
  · exact State.dpKick_of_busy (Option.isSome_iff_ne_none.mp busy)
  · have idle : ∀ t, s.ready t = true → s.dpKick ≠ s.dpTake t := fun t ready taken => by
      rw [kick] at taken
      rw [taken] at busy
      exact busy (dpTake_dp ready)
    obtain ⟨-, choice⟩ := dpKick_taken s
    have dp : s.dp = none := Option.not_isSome_iff_eq_none.mp busy
    unfold State.dpKick at idle
    rw [if_neg busy] at idle
    have first : s.ready .tc0 = false := by
      cases ready : s.ready .tc0 with
      | false => rfl
      | true => exact absurd (if_pos ready) (idle .tc0 ready)
    have second : s.ready .tc1 = false := by
      cases ready : s.ready .tc1 with
      | false => rfl
      | true =>
        refine absurd ?_ (idle .tc1 ready)
        rw [first, if_neg Bool.false_ne_true]
        exact if_pos ready
    exact State.dpKick_of_not_ready ((same .tc0).trans first) ((same .tc1).trans second)

/-- Of a settled state with another link, only the lane and then the datapath can still have a choice. -/
theorem settle_of_link {s : State} (settled : s.settle = s) (l : Lnk) :
    ({ s with lnk := l } : State).settle = ({ s with lnk := l } : State).laneChoose.dpKick := by
  obtain ⟨driven, stable, kick, -⟩ := settle_parts s
  rw [settled] at driven stable kick
  have stable' : WaitStable { s with lnk := l } := fun t hst hstep => by
    have away := stable t hst hstep
    cases t <;> exact away
  have driven' : Driven { s with lnk := l } := driven
  unfold State.settle
  rw [chgWatch_of_stable stable', chgDrive_of_driven driven', dpKick_of_link kick]

/-- In a settled state a reply goes out at once on a free lane, and otherwise waits behind the replies before it (R172, R178). -/
theorem replied_settle {s : State} (settled : s.settle = s) (ch : Chan) (tag code : Byte) (b : ReplyBody) :
    (replied s ch tag code b).settle =
      if s.lnk.lane = none ∧ s.lnk.hostHold = false then
        { s with lnk := { s.lnk with lane := some (replyOut { chan := ch, tag := tag, code := code, body := b }) } }
      else { s with lnk := withReply s.lnk ch tag code b } := by
  obtain ⟨-, -, kick, lane⟩ := settle_parts s
  rw [settled] at kick lane
  unfold replied
  rw [settle_of_link settled]
  split
  next choice =>
    obtain ⟨free, unheld⟩ := choice
    have none_before : s.lnk.replies = [] := by
      cases replies : s.lnk.replies with
      | nil => rfl
      | cons r rest =>
        have used := congrArg (fun u : State => u.lnk.lane) ((laneChoose_reply free unheld replies).symm.trans lane)
        rw [free] at used
        cases used
    have chosen := laneChoose_reply (s := { s with lnk := withReply s.lnk ch tag code b })
      (r := { chan := ch, tag := tag, code := code, body := b }) (rest := []) free unheld
      (by unfold withReply; dsimp only; rw [none_before]; rfl)
    have left : { withReply s.lnk ch tag code b with
        replies := [], lane := some (replyOut { chan := ch, tag := tag, code := code, body := b }) } =
        { s.lnk with lane := some (replyOut { chan := ch, tag := tag, code := code, body := b }) } := by
      unfold withReply
      rw [← none_before]
    rw [chosen]
    dsimp only
    rw [left, dpKick_of_link kick]
  next kept =>
    have busy : s.lnk.lane ≠ none ∨ s.lnk.hostHold = true := by
      by_cases free : s.lnk.lane = none
      · exact .inr (eq_true_of_ne_false fun unheld => kept ⟨free, unheld⟩)
      · exact .inl free
    rw [laneChoose_kept { s with lnk := withReply s.lnk ch tag code b } busy, dpKick_of_link kick]

theorem notify_cases (s : State) (n : Notice) :
    (s.lnk.notices.length < 32 → s.notify n = { s with lnk := { s.lnk with notices := s.lnk.notices ++ [n] } }) ∧
      (32 ≤ s.lnk.notices.length → s.notify n = { s with lnk := { s.lnk with lost := true } }) := by
  unfold State.notify State.modLnk Lnk.pushNotice
  dsimp only
  refine ⟨fun room => ?_, fun full => ?_⟩
  · rw [if_pos (show s.lnk.notices.length < Config.noticeMax from room)]
  · rw [if_neg (show ¬s.lnk.notices.length < Config.noticeMax from Nat.not_lt.mpr full)]

/-- Settles O5: the order of the choice, what a sending leaves of a restore, and the frames of section 9.2. -/
theorem outboundLaneServesInOrder : Obligations.OutboundLaneServesInOrder := by
  unfold Obligations.OutboundLaneServesInOrder
  refine ⟨fun s => ⟨laneChoose_kept s, fun free unheld => ⟨fun r rest replies => laneChoose_reply free unheld replies,
    fun n rest replies notices => laneChoose_notice free unheld replies notices, fun replies notices => ⟨?_, fun first second => ?_⟩⟩⟩,
    fun s t r offset stop d rest job spec delivery => dataReady_iff job spec delivery,
    fun s ch tag code b settled => replied_settle settled ch tag code b, fun f body body_ => outFrame_bytes f body_, notify_cases⟩
  · intro t d rest turn ready delivery
    obtain ⟨r₀, d₀, rest₀, job₀, restore₀, delivery₀, sendable⟩ := dataReady_restore ready
    obtain ⟨rfl, rfl⟩ : d = d₀ ∧ rest = rest₀ := by
      rw [delivery] at delivery₀
      cases delivery₀
      exact ⟨rfl, rfl⟩
    have chosen := (laneChoose_data free unheld replies notices turn ready).trans (sendData_eq job₀ delivery sendable)
    have pump := (Local.refl t (sentState s t r₀ d rest)).readPump
    refine ⟨by rw [chosen, pump.lane]; rfl, by rw [chosen, pump.served]; rfl, ?_⟩
    intro r sent job short plain sent_
    obtain rfl : r = r₀ := by
      rw [job] at job₀
      cases job₀
      rfl
    have is_sent : sentState s t r d rest = sent := sent_.symm
    rw [is_sent] at chosen
    refine ⟨fun goes_on => ?_, fun res ended gaps queue => ⟨fun busy => ?_, fun op_free something => ?_,
      fun told op_free nothing no_faults told_ => ?_⟩⟩
    · have stays := sent_goes_on (d := d) (rest := rest) restore₀ short plain goes_on
      rw [is_sent] at stays
      exact chosen.trans stays
    · have stays := sent_decoding (d := d) (rest := rest) restore₀ short plain ended gaps busy
      rw [is_sent] at stays
      exact chosen.trans stays
    · have closes := sent_closes (d := d) restore₀ short ended gaps queue op_free something
      rw [is_sent] at closes
      exact chosen.trans closes
    · have ends := sent_ends (d := d) restore₀ short plain ended gaps queue op_free nothing no_faults told_
      rw [is_sent] at ends
      dsimp only at ends
      rw [← chosen] at ends
      exact ends
  · refine laneChoose_of_none replies notices fun t => ?_
    cases t with
    | tc0 => exact first
    | tc1 => exact second

end Sys2Proof.Proofs
end

section
/-! PROOFS. The queues of the streaming jobs (O9): the premise speaks of the transports alone, and leaves open an operation of the
datapath for a transport that runs no job. -/

open Sys2Proof Sys2Proof.Machine Sys2Proof.Claims

namespace Sys2Proof.Proofs

-- One declaration at a time: elaborated in parallel, the joined text needs more threads than the memory limit holds.
set_option Elab.async false

/-- The engine as after reset, but for a compression of TC0 in progress that was not abandoned (R103), in a context whose block
holds 31 slices; its completion is next. Both bays are empty. -/
def strayCompression : State :=
  { State.reset with
    dp := some { t := .tc0, decode := false, abandoned := false }
    cx0 := { cur := { payload := [], raw := 0, slices := 31 } }
    pending := [.compressionComplete] }

/-- Both transports are those of an empty bay, so the premises of O9 hold. -/
theorem strayCompression_sound : strayCompression.GovSound ∧ strayCompression.QueuesSound := by
  obtain ⟨gov, -, queues⟩ := emptyBay_sound
  exact ⟨⟨gov, gov⟩, queues, queues⟩

/-- The 32nd slice closes the block, which joins the block queue of TC0 though no job runs there (R91, R94). -/
theorem strayCompression_step :
    ∃ u, step strayCompression = .next u ∧ u.tc0.blockQ.length = 1 ∧ u.tc0.st.ofStreamingJob = false := by
  refine ⟨_, rfl, ?_, ?_⟩
  · decide
  · decide

/-- Refutes O9: in a state whose transports are sound and empty, the completion of a compression that no job owns puts a block
into an empty bay's block queue. R103 has the end of a job abandon its operation, which such a state contradicts, but neither `GovSound`
nor `QueuesSound` says so: they do not speak of the datapath and the contexts. -/
theorem not_everyStepKeepsTheStreamingQueues : ¬ Obligations.EveryStepKeepsTheStreamingQueues := by
  unfold Obligations.EveryStepKeepsTheStreamingQueues
  intro keeps
  obtain ⟨gov, queues⟩ := strayCompression_sound
  obtain ⟨u, next, one, away⟩ := strayCompression_step
  obtain ⟨⟨-, emptied, -⟩, -⟩ := keeps _ u gov queues next
  obtain ⟨none_there, -⟩ := emptied away
  rw [none_there] at one
  cases one

end Sys2Proof.Proofs
end
